-- ==== Sys2Proof/Word.lean ====
section
/-! DEFINITION. The byte of the control link (R158: one byte in each direction per eight clocks).
Quantities are plain integers, as the manual's conventions state; only what crosses the link is bits. -/

namespace Sys2Proof

/-- One byte of a frame. -/
abbrev Byte := BitVec 8

end Sys2Proof
end

