-- ==== Sys2Proof/Syntax.lean ====
section
/-! DEFINITION. The commands of the DW-1624: one constructor of `Instr` for each row of
spec/opcode_table.json, and the fields that the requests among them carry (R170, R180). -/

namespace Sys2Proof

/-! ### Choices from a list (11.3) -/

/-- The three tenant classes (R20). -/
inductive CarrierClass
  | data | video | voice
  deriving DecidableEq, Repr, Inhabited

/-- The directions of a tenant (R20). -/
inductive Directions
  | forward | ret | both
  deriving DecidableEq, Repr, Inhabited

/-- The direction in which the Allocator scans for a tenant (R20, R66). -/
inductive ScanDirection
  | up | down
  deriving DecidableEq, Repr, Inhabited

/-- The level of a ready input that counts as asserted (R27). -/
inductive Polarity
  | high | low
  deriving DecidableEq, Repr, Inhabited

/-- A set drawn from FIT (bit 0), PROFILE (bit 1), CAPACITY (bit 2), POWER (bit 3) (R180). -/
abbrev FaultSet := BitVec 4

/-- A set of tenant events, numbered from bit 0 in the order of R176's table (R180). -/
abbrev TenantEventSet := BitVec 10

/-- A set of PLANT events, numbered from bit 0 in the order of R176's table (R180). -/
abbrev PlantEventSet := BitVec 7

/-! ### The fields of the requests (10.3, R180) -/

/-- What the owner of a request is handed: the fields of its kind, or `none` for a payload that R170
and R180 call malformed. -/
abbrev Payload (α : Type) := Option α

/-- The optional fields TENANT_DEFINE and TENANT_AMEND share (R21, R23, R25). -/
structure ContractFields where
  committed : Option Nat := none
  ceiling : Option Nat := none
  margin : Option Nat := none
  maxProfile : Option Nat := none
  defaultLevel : Option Int := none
  scan : Option ScanDirection := none
  polarity : Option Polarity := none
  deriving DecidableEq, Repr

/-- TENANT_DEFINE (R23). -/
structure DefineFields where
  tenant : Nat
  cls : CarrierClass
  dirs : Directions
  contract : ContractFields := {}
  deriving DecidableEq, Repr

/-- TENANT_AMEND (R25). -/
structure AmendFields where
  tenant : Nat
  contract : ContractFields := {}
  deriving DecidableEq, Repr

/-- FAULT_MASK (R34). -/
structure FaultMaskFields where
  tenant : Nat
  mask : FaultSet
  deriving DecidableEq, Repr

/-- FAULT_CLEAR (R35): an absent set means every class. -/
structure FaultClearFields where
  tenant : Nat
  faults : Option FaultSet := none
  deriving DecidableEq, Repr

/-- GRANT_ASK (R45, R58). The direction is its code as the frame carries it: a choice from a list is a range,
which the Allocator checks only when it takes the item (R58, R170). -/
structure AskFields where
  tenant : Nat
  dir : Byte
  width : Option Nat := none
  floor : Option Nat := none
  level : Option Int := none
  deriving DecidableEq, Repr

/-- GRANT_MOVE (R78). -/
structure MoveFields where
  grant : Nat
  target : Option Nat := none
  deriving DecidableEq, Repr

/-- GRANT_RESIZE (R80). -/
structure ResizeFields where
  grant : Nat
  width : Nat
  floor : Option Nat := none
  deriving DecidableEq, Repr

/-- GRANT_LEVEL (R94). -/
structure LevelFields where
  grant : Nat
  level : Int
  deriving DecidableEq, Repr

/-- A first slice and a count (R15, R16, R17, R135, R136, R141). -/
structure RangeFields where
  first : Nat
  count : Nat
  deriving DecidableEq, Repr

/-- SWEEP_SET (R129): the window's first and last slices travel together. -/
structure SweepFields where
  window : Option (Nat × Nat) := none
  dwell : Option Nat := none
  shift : Option Nat := none
  qt : Option Nat := none
  rt : Option Nat := none
  nq : Option Nat := none
  nr : Option Nat := none
  deriving DecidableEq, Repr

/-- EVENTS_MASK (R178): an optional enable set for each tenant source, in source order, and for the PLANT. -/
structure EventsMaskFields where
  tenants : List (Option TenantEventSet) := []
  plant : Option PlantEventSet := none
  deriving DecidableEq, Repr

/-- The five timings of one class in a PLANT_SET, each optional (R107). -/
structure TimingFields where
  setup : Option Nat := none
  strobeMin : Option Nat := none
  lockMax : Option Nat := none
  hold : Option Nat := none
  turnaround : Option Nat := none
  deriving DecidableEq, Repr

/-- PLANT_SET (R172). `overflowMasked` is the plant fault mask: a set that is empty or holds OVERFLOW. -/
structure PlantFields where
  split : Option Nat := none
  cap : Option Nat := none
  slope : Option Nat := none
  pivot : Option Nat := none
  parkTime : Option Nat := none
  fillDrop : Option Nat := none
  assumedSnr : Option Nat := none
  overflowMasked : Option Bool := none
  voice : TimingFields := {}
  video : TimingFields := {}
  data : TimingFields := {}
  deriving DecidableEq, Repr

/-! ### The commands -/

/-- One constructor for each row of spec/opcode_table.json. A request is the step in which its owning
block serves it: it carries its tag and its payload's fields. The other rows are transactions and
input changes from outside, and the steps the part takes on its own (spec/95). -/
inductive Instr
  /-- POWER_ON (R18): the power-on reset input. -/
  | powerOn
  /-- LINK_RESET (R168): the link-reset input is asserted. -/
  | linkReset
  /-- SEND (R161): a select period with command byte 0xA5 and these bytes after it. -/
  | send (bytes : List Byte)
  /-- FETCH (R165): a select period with command byte 0x5A in which `clocks` bytes follow the command byte. -/
  | fetch (clocks : Nat)
  /-- STATUS_READ (R158): a select period with another command byte, `clocks` bytes following it. -/
  | statusRead (cmd : Byte) (clocks : Nat)
  /-- READY_INPUT_CHANGE (R27): the raw ready input of a tenant takes this level. -/
  | readyInputChange (tenant : Nat) (level : Bool)
  /-- TENANT_DEFINE (R24). -/
  | tenantDefine (tag : Byte) (q : Payload DefineFields)
  /-- TENANT_AMEND (R25). -/
  | tenantAmend (tag : Byte) (q : Payload AmendFields)
  /-- TENANT_RETIRE (R30): the force option is clear. -/
  | tenantRetire (tag : Byte) (q : Payload Nat)
  /-- TENANT_RETIRE_FORCE (R31): the force option is set. -/
  | tenantRetireForce (tag : Byte) (tenant : Nat)
  /-- TENANT_QUERY (R39). -/
  | tenantQuery (tag : Byte) (q : Payload Nat)
  /-- FAULT_MASK (R34). -/
  | faultMask (tag : Byte) (q : Payload FaultMaskFields)
  /-- FAULT_CLEAR (R35). -/
  | faultClear (tag : Byte) (q : Payload FaultClearFields)
  /-- GRANT_ASK (R58): the arrival of the request. -/
  | grantAsk (tag : Byte) (q : Payload AskFields)
  /-- GRANT_MOVE (R58): the arrival of the request. -/
  | grantMove (tag : Byte) (q : Payload MoveFields)
  /-- GRANT_RESIZE (R58): the arrival of the request. -/
  | grantResize (tag : Byte) (q : Payload ResizeFields)
  /-- GRANT_ASK_TAKE (R75). -/
  | grantAskTake
  /-- GRANT_MOVE_TAKE (R78). -/
  | grantMoveTake
  /-- GRANT_RESIZE_TAKE (R80). -/
  | grantResizeTake
  /-- RELOCATION_ATTEMPT (R79). -/
  | relocationAttempt
  /-- REPLY_BUILT (R60). -/
  | replyBuilt
  /-- GRANT_RELEASE (R52). -/
  | grantRelease (tag : Byte) (q : Payload Nat)
  /-- GRANT_QUERY (R55). -/
  | grantQuery (tag : Byte) (q : Payload Nat)
  /-- CANCEL (R61): `q` is the tag it names. -/
  | cancel (tag : Byte) (q : Payload Byte)
  /-- SLICE_RESERVE (R15). -/
  | sliceReserve (tag : Byte) (q : Payload RangeFields)
  /-- SLICE_UNRESERVE (R16). -/
  | sliceUnreserve (tag : Byte) (q : Payload RangeFields)
  /-- MAP_READ (R17). -/
  | mapRead (tag : Byte) (q : Payload RangeFields)
  /-- GRANT_LEVEL (R95). -/
  | grantLevel (tag : Byte) (q : Payload LevelFields)
  /-- SWEEP_SET (R129). -/
  | sweepSet (tag : Byte) (q : Payload SweepFields)
  /-- SWEEP_RESTART (R130). -/
  | sweepRestart (tag : Byte) (q : Payload Unit)
  /-- SWEEP_RESTART_TAKES_EFFECT (R130): the dwell in progress ends with the estimate `m` while a restart waits. -/
  | sweepRestartTakesEffect (m : Byte)
  /-- SWEEP_RESUME (R128). -/
  | sweepResume
  /-- QUARANTINE_FORCE (R135). -/
  | quarantineForce (tag : Byte) (q : Payload RangeFields)
  /-- QUARANTINE_LIFT (R136). -/
  | quarantineLift (tag : Byte) (q : Payload RangeFields)
  /-- QUALITY_READ (R141). -/
  | qualityRead (tag : Byte) (q : Payload RangeFields)
  /-- LINEUP_PUSH (R146). -/
  | lineupPush (tag : Byte) (q : Payload Unit)
  /-- LINEUP_POP (R149). -/
  | lineupPop (tag : Byte) (q : Payload Unit)
  /-- PHASE_A_RELEASE (R153). -/
  | phaseARelease
  /-- LINEUP_ITEM_ISSUE (R154). -/
  | lineupItemIssue
  /-- LINEUP_ROTATE (R147). -/
  | lineupRotate (tag : Byte) (q : Payload Unit)
  /-- LINEUP_DROP (R147): `q` is the slot. -/
  | lineupDrop (tag : Byte) (q : Payload Nat)
  /-- LINEUP_STATUS (R156). -/
  | lineupStatus (tag : Byte) (q : Payload Unit)
  /-- EVENTS_READ (R177). -/
  | eventsRead (tag : Byte) (q : Payload Unit)
  /-- EVENTS_MASK (R178). -/
  | eventsMask (tag : Byte) (q : Payload EventsMaskFields)
  /-- PLANT_SET (R172). -/
  | plantSet (tag : Byte) (q : Payload PlantFields)
  /-- PLANT_QUERY (R173). -/
  | plantQuery (tag : Byte) (q : Payload Unit)
  /-- QUIET_ENTER (R120, R174). -/
  | quietEnter (tag : Byte) (q : Payload Unit)
  /-- QUIET_LEAVE (R121, R174). -/
  | quietLeave (tag : Byte) (q : Payload Unit)
  /-- ENGINE_RESET (R175). -/
  | engineReset (tag : Byte) (q : Payload Unit)
  /-- JOB_START (R105). -/
  | jobStart
  /-- SETUP_END (R109) on a channel. -/
  | setupEnd (channel : Nat)
  /-- STROBE_MINIMUM_ELAPSED (R111) on a channel. -/
  | strobeMinimumElapsed (channel : Nat)
  /-- LOCK_WAIT_TIMEOUT (R111) on a channel. -/
  | lockWaitTimeout (channel : Nat)
  /-- HOLD_END (R113) on a channel. -/
  | holdEnd (channel : Nat)
  /-- RETIRE_BACKLOG_RELEASE (R54). -/
  | retireBacklogRelease
  /-- TURNAROUND_EXPIRY (R115) of a tenant. -/
  | turnaroundExpiry (tenant : Nat)
  /-- PARK_EXPIRY (R9) of a slice. -/
  | parkExpiry (slice : Nat)
  /-- DWELL_END (R126) with the receiver's estimate `m`. -/
  | dwellEnd (m : Byte)
  /-- LINK_RESET_RELEASED (R168): the link-reset input is released. -/
  | linkResetReleased
  deriving DecidableEq, Repr

end Sys2Proof
end

