-- ==== Sys2Proof/Decode.lean ====
section
/-! DEFINITION. Reading what comes over the link: the payload of each KIND (R180), the KINDs of 11.3, the
check of a frame (R162), and `decodeTableWord` over the opcode table's bits. -/

namespace Sys2Proof

/-! ### Fields: a reader takes bytes from the front, and fails where a field is malformed -/

/-- A reader of payload bytes; failure is a malformed payload. -/
abbrev Reader := StateT (List Byte) Option

/-- One unsigned byte. -/
def readByte : Reader Byte := fun bs =>
  match bs with
  | [] => none
  | b :: rest => some (b, rest)

def readNat : Reader Nat := do return (← readByte).toNat

/-- Two bytes, most significant first. -/
def readNat2 : Reader Nat := do
  let a ← readNat
  let b ← readNat
  return a * 256 + b

/-- Three bytes, most significant first. -/
def readNat3 : Reader Nat := do
  let a ← readNat
  let b ← readNat2
  return a * 65536 + b

/-- A signed field is a two's-complement byte. -/
def readInt : Reader Int := do return (← readByte).toInt

/-- A code byte of a request that is checked whole at its arrival: a value that the code table does not
list is refused there (R170, R180). -/
def readCode {α : Type} (table : List α) : Reader α := do
  match table[(← readNat)]? with
  | some a => return a
  | none => failure

/-- A set of `n` members in one byte: a bit that names no member is malformed. -/
def readSet (n : Nat) : Reader (BitVec n) := do
  let b ← readNat
  if b < 2 ^ n then return BitVec.ofNat n b else failure

/-- A set of `n` members in two bytes. -/
def readSet2 (n : Nat) : Reader (BitVec n) := do
  let b ← readNat2
  if b < 2 ^ n then return BitVec.ofNat n b else failure

/-- The plant fault mask: empty, or bit 4, OVERFLOW (R144, R180). -/
def readOverflow : Reader Bool := do
  let b ← readByte
  if b == 0 then return false
  else if b == 0x10 then return true
  else failure

/-- The presence mask for `n` optional fields, as many bytes as its bits need; the first byte holds the
first eight fields, and an unused bit that is 1 is malformed. -/
def readMask : Nat → Nat → Reader Nat
  | 0, _ => return 0
  | bytes + 1, n => do
    let b ← readNat
    if b < 2 ^ (min 8 n) then
      let rest ← readMask bytes (n - 8)
      return b + rest * 256
    else failure

/-- The optional field of a mask's bit. -/
def readOpt {α : Type} (mask bit : Nat) (r : Reader α) : Reader (Option α) := do
  if mask.testBit bit then
    let a ← r
    return some a
  else return none

/-- A whole payload: the fields, and no byte left over (LEN must agree, R180). -/
def readAll {α : Type} (r : Reader α) (bs : List Byte) : Payload α :=
  match r bs with
  | some (a, []) => some a
  | _ => none

/-! ### The code tables of 11.3 -/

def classTable : List CarrierClass := [.data, .video, .voice]
def directionsTable : List Directions := [.forward, .ret, .both]
def scanTable : List ScanDirection := [.up, .down]
def polarityTable : List Polarity := [.high, .low]
def forceTable : List Bool := [false, true]

/-! ### The payload of each kind -/

def readContract : Reader ContractFields := do
  let m ← readMask 1 7
  let committed ← readOpt m 0 readNat3
  let ceiling ← readOpt m 1 readNat3
  let margin ← readOpt m 2 readNat
  let maxProfile ← readOpt m 3 readNat
  let defaultLevel ← readOpt m 4 readInt
  let scan ← readOpt m 5 (readCode scanTable)
  let polarity ← readOpt m 6 (readCode polarityTable)
  return ⟨committed, ceiling, margin, maxProfile, defaultLevel, scan, polarity⟩

def readDefine : Reader DefineFields := do
  let tenant ← readNat
  let cls ← readCode classTable
  let dirs ← readCode directionsTable
  let contract ← readContract
  return ⟨tenant, cls, dirs, contract⟩

def readAmend : Reader AmendFields := do
  let tenant ← readNat
  let contract ← readContract
  return ⟨tenant, contract⟩

def readRetire : Reader (Nat × Bool) := do
  let tenant ← readNat
  let force ← readCode forceTable
  return (tenant, force)

def readFaultMask : Reader FaultMaskFields := do
  let tenant ← readNat
  let mask ← readSet 4
  return ⟨tenant, mask⟩

def readFaultClear : Reader FaultClearFields := do
  let tenant ← readNat
  let m ← readMask 1 1
  let faults ← readOpt m 0 (readSet 4)
  return ⟨tenant, faults⟩

/-- GRANT_ASK: the direction code is read as it stands, for the take to check (R58, R170). -/
def readAsk : Reader AskFields := do
  let tenant ← readNat
  let dir ← readByte
  let m ← readMask 1 3
  let width ← readOpt m 0 readNat
  let floor ← readOpt m 1 readNat
  let level ← readOpt m 2 readInt
  return ⟨tenant, dir, width, floor, level⟩

def readMove : Reader MoveFields := do
  let grant ← readNat
  let m ← readMask 1 1
  let target ← readOpt m 0 readNat2
  return ⟨grant, target⟩

def readResize : Reader ResizeFields := do
  let grant ← readNat
  let width ← readNat
  let m ← readMask 1 1
  let floor ← readOpt m 0 readNat
  return ⟨grant, width, floor⟩

def readRange : Reader RangeFields := do
  let first ← readNat2
  let count ← readNat
  return ⟨first, count⟩

def readLevel : Reader LevelFields := do
  let grant ← readNat
  let level ← readInt
  return ⟨grant, level⟩

def readWindow : Reader (Nat × Nat) := do
  let first ← readNat2
  let last ← readNat2
  return (first, last)

/-- SWEEP_SET: the window's two slices share presence bit 0 (R180). -/
def readSweep : Reader SweepFields := do
  let m ← readMask 1 7
  let window ← readOpt m 0 readWindow
  let dwell ← readOpt m 1 readNat
  let shift ← readOpt m 2 readNat
  let qt ← readOpt m 3 readNat
  let rt ← readOpt m 4 readNat
  let nq ← readOpt m 5 readNat
  let nr ← readOpt m 6 readNat
  return ⟨window, dwell, shift, qt, rt, nq, nr⟩

/-- The enable sets of `n` tenant sources from presence bit `i` on. -/
def readEnables (mask : Nat) : Nat → Nat → Reader (List (Option TenantEventSet))
  | 0, _ => return []
  | n + 1, i => do
    let s ← readOpt mask i (readSet2 10)
    let rest ← readEnables mask n (i + 1)
    return s :: rest

/-- EVENTS_MASK: sixteen tenant sources, then PLANT, under a mask of three bytes (R180). -/
def readEventsMask : Reader EventsMaskFields := do
  let m ← readMask 3 17
  let tenants ← readEnables m 16 0
  let plant ← readOpt m 16 (readSet 7)
  return ⟨tenants, plant⟩

/-- The five timings of a class from presence bit `i` on. -/
def readTimings (mask i : Nat) : Reader TimingFields := do
  let setup ← readOpt mask i readNat2
  let strobeMin ← readOpt mask (i + 1) readNat2
  let lockMax ← readOpt mask (i + 2) readNat2
  let hold ← readOpt mask (i + 3) readNat2
  let turnaround ← readOpt mask (i + 4) readNat2
  return ⟨setup, strobeMin, lockMax, hold, turnaround⟩

/-- PLANT_SET: 23 optional fields under a mask of three bytes, the timings class by class in the order
VOICE, VIDEO, DATA (R180). -/
def readPlant : Reader PlantFields := do
  let m ← readMask 3 23
  let split ← readOpt m 0 readNat
  let cap ← readOpt m 1 readNat3
  let slope ← readOpt m 2 readNat
  let pivot ← readOpt m 3 readNat2
  let parkTime ← readOpt m 4 readNat2
  let fillDrop ← readOpt m 5 readNat
  let assumedSnr ← readOpt m 6 readNat
  let overflowMasked ← readOpt m 7 readOverflow
  let voice ← readTimings m 8
  let video ← readTimings m 13
  let data ← readTimings m 18
  return ⟨split, cap, slope, pivot, parkTime, fillDrop, assumedSnr, overflowMasked, voice, video, data⟩

def readNone : Reader Unit := return ()

/-- The request of a KIND, with its tag and the fields of its payload, or none where the KIND names no
request (R163, 11.3). -/
def requestOf (kind tag : Byte) (payload : List Byte) : Option Instr :=
  match kind.toNat with
  | 0x10 => some (.tenantDefine tag (readAll readDefine payload))
  | 0x11 => some (.tenantAmend tag (readAll readAmend payload))
  | 0x12 =>
    match readAll readRetire payload with
    | some (t, true) => some (.tenantRetireForce tag t)
    | some (t, false) => some (.tenantRetire tag (some t))
    | none => some (.tenantRetire tag none)
  | 0x13 => some (.tenantQuery tag (readAll readNat payload))
  | 0x14 => some (.faultMask tag (readAll readFaultMask payload))
  | 0x15 => some (.faultClear tag (readAll readFaultClear payload))
  | 0x20 => some (.grantAsk tag (readAll readAsk payload))
  | 0x21 => some (.grantMove tag (readAll readMove payload))
  | 0x22 => some (.grantResize tag (readAll readResize payload))
  | 0x23 => some (.grantRelease tag (readAll readNat payload))
  | 0x24 => some (.grantQuery tag (readAll readNat payload))
  | 0x25 => some (.cancel tag (readAll readByte payload))
  | 0x26 => some (.sliceReserve tag (readAll readRange payload))
  | 0x27 => some (.sliceUnreserve tag (readAll readRange payload))
  | 0x28 => some (.mapRead tag (readAll readRange payload))
  | 0x30 => some (.grantLevel tag (readAll readLevel payload))
  | 0x40 => some (.sweepSet tag (readAll readSweep payload))
  | 0x41 => some (.sweepRestart tag (readAll readNone payload))
  | 0x42 => some (.quarantineForce tag (readAll readRange payload))
  | 0x43 => some (.quarantineLift tag (readAll readRange payload))
  | 0x44 => some (.qualityRead tag (readAll readRange payload))
  | 0x50 => some (.lineupPush tag (readAll readNone payload))
  | 0x51 => some (.lineupPop tag (readAll readNone payload))
  | 0x52 => some (.lineupRotate tag (readAll readNone payload))
  | 0x53 => some (.lineupDrop tag (readAll readNat payload))
  | 0x54 => some (.lineupStatus tag (readAll readNone payload))
  | 0x60 => some (.eventsRead tag (readAll readNone payload))
  | 0x61 => some (.eventsMask tag (readAll readEventsMask payload))
  | 0x70 => some (.plantSet tag (readAll readPlant payload))
  | 0x71 => some (.plantQuery tag (readAll readNone payload))
  | 0x72 => some (.quietEnter tag (readAll readNone payload))
  | 0x73 => some (.quietLeave tag (readAll readNone payload))
  | 0x74 => some (.engineReset tag (readAll readNone payload))
  | _ => none

/-! ### Request frames (R161, R162) -/

/-- What becomes of the bytes of a SEND: no frame, a frame that is discarded, or a checked frame. -/
inductive FrameResult
  | nothing
  | discarded
  | checked (tag kind : Byte) (payload : List Byte)
  deriving DecidableEq, Repr

/-- The bytes of a SEND, read in order as SYNC, LEN, TAG, KIND, LEN bytes of payload and two CHECK bytes
with the high byte first; bytes after the frame are ignored (R161, R162). -/
def readFrame (bytes : List Byte) : FrameResult :=
  match bytes with
  | [] => .nothing
  | sync :: rest =>
    if sync != 0xC3 then .discarded
    else
      match rest with
      | [] => .discarded
      | len :: rest =>
        if 250 < len.toNat then .discarded
        else
          match rest.take (len.toNat + 4) with
          | tag :: kind :: body =>
            let payload := body.take len.toNat
            match body.drop len.toNat with
            | [hi, lo] =>
              if hi.toNat * 256 + lo.toNat == ((len :: tag :: kind :: payload).map (·.toNat)).sum % 65536 then
                .checked tag kind payload
              else .discarded
            | _ => .discarded
          | _ => .discarded

/-! ### The opcode table -/

/-- The opcode table gives no row any bits (its "fields" are empty and it has no "fixed"), so no word
spells a command. -/
def decodeTableWord (_nbits _w : Nat) : Option Instr := none

end Sys2Proof
end

