-- ==== Sys2Proof/Machine/State.lean ====
section
/-! DEFINITION. The state of the DW-1624, block by block, and its value after power-on.
A state is three parts: the commands that wait, the Link Controller's state, and the rest of the part
(`Part`), which the owners of requests read and change without touching the link. -/

namespace Sys2Proof.Machine

/-! ### Spectrum Map (chapter 1) -/

/-- The state of a slice with the fields that R3 gives that state. -/
inductive SliceUse
  | free
  | parked (remaining : Nat) (fill : Int)
  | claimed (owner : Nat)
  | granted (owner : Nat)
  /-- One or two guard owners. -/
  | guard (owner : Nat) (second : Option Nat)
  | reserved
  | quarantined
  | crossover
  deriving DecidableEq, Repr, Inhabited

/-- One map entry (R3). -/
structure SliceEntry where
  use : SliceUse
  impaired : Bool
  pinned : Bool
  deriving DecidableEq, Repr, Inhabited

/-! ### Tenant Table (chapter 2) -/

/-- The states of a defined tenant; an EMPTY tenant has no record (R20). -/
inductive TenantStatus
  | active | held | retiring
  deriving DecidableEq, Repr

/-- Why a grant was lost before it entered service (R38). -/
inductive FailureReason
  | impaired | preemptLost | reset
  deriving DecidableEq, Repr

/-- The fields of a tenant that is not EMPTY (R20). Delivered capacity is `Part.delivered`, a sum (R36). -/
structure TenantRecord where
  status : TenantStatus
  cls : CarrierClass
  dirs : Directions
  committed : Nat
  ceiling : Nat
  margin : Nat
  maxProfile : Nat
  defaultLevel : Int
  scan : ScanDirection
  returnRover : Nat
  forwardRover : Nat
  polarity : Polarity
  mask : FaultSet
  sticky : FaultSet
  grants : List Nat
  lastFailure : Option (Nat × FailureReason)
  deriving DecidableEq, Repr

/-- A tenant record: in EMPTY only the generation stands (R20). -/
structure Tenant where
  generation : Nat
  record : Option TenantRecord
  deriving DecidableEq, Repr

/-! ### Grants (chapter 3) -/

/-- The direction of a grant (R44). -/
inductive Direction
  | forward | ret
  deriving DecidableEq, Repr, Inhabited

/-- The five grant states (3.3). -/
inductive GrantState
  | arriving | active | moving | resizing | leaving
  deriving DecidableEq, Repr

/-- A grant record in use (R44). Its guard slices are first − 1 and first + 1 for VOICE; its cycle
part is the view `Part.jobOf` of the job list (R48: the two are kept in step). -/
structure Grant where
  tenant : Nat
  cls : CarrierClass
  dir : Direction
  first : Nat
  width : Nat
  floor : Option Nat
  level : Option Int
  profile : Nat
  capacity : Nat
  state : GrantState
  impaired : Bool
  relocationPending : Bool
  deriving DecidableEq, Repr

/-! ### Retune Engine (chapter 6) -/

/-- The kinds of job (R102). -/
inductive JobKind
  | activate | move | resize | release
  deriving DecidableEq, Repr

/-- A first slice and a width. -/
structure Place where
  first : Nat
  width : Nat
  deriving DecidableEq, Repr

/-- The restore phase of a job (R102). -/
inductive BatchMark
  | a | b
  deriving DecidableEq, Repr

/-- The five timings of a class, in milliseconds (R107). -/
structure Timings where
  setup : Nat
  strobeMin : Nat
  lockMax : Nat
  hold : Nat
  turnaround : Nat
  deriving DecidableEq, Repr

/-- The phase of a running cycle (R108). -/
inductive RunPhase
  | setup | strobe | hold
  deriving DecidableEq, Repr

/-- What a channel holds for the cycle it runs (R105). `left` is the time left of SETUP or HOLD. In
STROBE, `strobeLeft` is the time left of the strobe minimum and `lockLeft` the time left of the lock
wait, absent where STROBE ends with its minimum (R111, R121). -/
structure Run where
  channel : Nat
  phase : RunPhase
  left : Nat
  strobeLeft : Nat
  lockLeft : Option Nat
  timings : Timings
  deriving DecidableEq, Repr

/-- A job of the engine's list (R102); its phase is QUEUED while `run` is absent. `queuedAs` is the
model's own: the kind the job had when it was queued, which R90 needs once a release has turned it. -/
structure Job where
  id : Nat
  grant : Nat
  kind : JobKind
  queuedAs : JobKind
  dest : Option Place
  after : Option Nat
  relocation : Bool
  batch : Option BatchMark
  run : Option Run
  deriving DecidableEq, Repr

/-- The Retune Engine (R102 to R107, R115, R174). -/
structure Engine where
  jobs : List Job
  nextId : Nat
  /-- One turnaround timer for each tenant: the time left, or absent while it does not run. -/
  turnaround : List (Option Nat)
  voice : Timings
  video : Timings
  data : Timings
  quiet : Bool
  deriving DecidableEq, Repr

/-! ### Replies (10.2) -/

/-- The reply statuses of 10.2. -/
inductive Status
  | done | accepted | badField | badKind | noTenant | noGrant | wrongClass | busy | full | noRecord
  | tagInUse | fit | profile | capacity | power | held | conflict | empty | overflow | gone
  | tooLate | notFound | cancelled | aborted | already
  deriving DecidableEq, Repr

/-- The outcome of a request: its status, the CLAMPED indication and the payload (R166, R181). -/
structure Reply where
  status : Status
  clamped : Bool := false
  payload : List Byte := []
  deriving DecidableEq, Repr

/-! ### Allocator (chapter 4) -/

/-- The fields of a placement request (R57). -/
inductive PlacementFields
  | ask (q : AskFields)
  | move (q : MoveFields)
  | resize (q : ResizeFields)
  deriving DecidableEq, Repr

/-- A placement queue item (R57). -/
structure QueueItem where
  tag : Byte
  fields : PlacementFields
  detached : Bool
  deriving DecidableEq, Repr

/-- A piece of work that waits for the Allocator: a placement queue item, or an attempt list entry. -/
inductive Work
  | item (i : QueueItem)
  | attempt (grant : Nat)
  deriving DecidableEq, Repr

/-- The reply in build (R57), with its request's tag and KIND. -/
structure BuiltReply where
  tag : Byte
  kind : Byte
  reply : Reply
  detached : Bool
  deriving DecidableEq, Repr

/-- The Allocator's placement state (R57). `work` holds the placement queue and the attempt list in one
list by arrival, since R59 takes whichever front arrived earlier; `Part.placementQueue` and
`Part.attemptList` are the two lists. -/
structure Allocator where
  work : List Work
  reply : Option BuiltReply
  restoreHold : Bool
  deriving DecidableEq, Repr

/-! ### Level Controller (chapter 5) -/

/-- The Level Controller's stored state (R96, R98). The composite is `Part.composite`, the sum that R91
states it to be. -/
structure LevelController where
  cap : Nat
  slope : Nat
  pivot : Nat
  parkTime : Nat
  fillDrop : Nat
  assumedSnr : Nat
  overCap : Bool
  deriving DecidableEq, Repr

/-! ### Plant Monitor (chapter 7) -/

/-- One quality entry (R125): an absent smoothed SNR is UNKNOWN. -/
structure QualityEntry where
  last : Option Nat
  smoothed : Option Nat
  strikes : Nat
  clears : Nat
  deriving DecidableEq, Repr, Inhabited

/-- A window, a dwell and a smoothing shift (R126). -/
structure SweepSettings where
  first : Nat
  last : Nat
  dwell : Nat
  shift : Nat
  deriving DecidableEq, Repr

/-- The dwell in progress: the slice and the time left (R126). -/
structure Dwell where
  slice : Nat
  left : Nat
  deriving DecidableEq, Repr

/-- The Plant Monitor's state (R125, R126). -/
structure Monitor where
  quality : List QualityEntry
  active : SweepSettings
  waiting : SweepSettings
  pointer : Nat
  dwell : Option Dwell
  restartWaiting : Bool
  qt : Nat
  rt : Nat
  nq : Nat
  nr : Nat
  deriving DecidableEq, Repr

/-! ### Lineup Store (chapter 8) -/

/-- One entry of a saved lineup (R145). -/
structure LineupEntry where
  grant : Nat
  tenant : Nat
  generation : Nat
  cls : CarrierClass
  dir : Direction
  first : Nat
  width : Nat
  floor : Option Nat
  level : Option Int
  deriving DecidableEq, Repr

/-- A slot: EMPTY, or VALID or STALE with its contents, the saved split and the entries (R144, R145). -/
inductive Slot
  | empty
  | saved (stale : Bool) (split : Nat) (entries : List LineupEntry)
  deriving DecidableEq, Repr, Inhabited

/-- An item of phase B that is issued as a job (R150). -/
inductive BatchItem
  | move (e : LineupEntry)
  | activate (e : LineupEntry)
  deriving DecidableEq, Repr

/-- The four counts of a batch (R144). -/
structure BatchCounts where
  released : Nat
  done : Nat
  failed : Nat
  waiting : Nat
  deriving DecidableEq, Repr

/-- A running batch (R144). `releases` are the phase-A grants still to be released, `levels` the level
items until phase B applies them, `items` the items still to be issued; `headWaits` says that the head
item has been counted as waiting, and `retry` that a job of the batch has ended since it was last tried
(R154). Its jobs are those that carry a batch mark. -/
structure Batch where
  phase : BatchMark
  releases : List Nat
  levels : List LineupEntry
  items : List BatchItem
  headWaits : Bool
  retry : Bool
  counts : BatchCounts
  deriving DecidableEq, Repr

/-- The last batch to end (R144). -/
structure LastBatch where
  counts : BatchCounts
  byReset : Bool
  deriving DecidableEq, Repr

/-- The Lineup Store (R144). -/
structure LineupStore where
  slots : List Slot
  top : Nat
  overflowMasked : Bool
  batch : Option Batch
  last : Option LastBatch
  deriving DecidableEq, Repr

/-! ### Event Unit (10.5) -/

/-- The raised sets and enable masks of the seventeen sources (R176). -/
structure EventUnit where
  raised : List TenantEventSet
  masks : List TenantEventSet
  plantRaised : PlantEventSet
  plantMask : PlantEventSet
  deriving DecidableEq, Repr

/-! ### The part, the link and the machine -/

/-- The part but for its Link Controller. -/
structure Part where
  /-- The raw levels of the ready inputs (R27). -/
  ready : List Bool
  tenants : List Tenant
  split : Nat
  slices : List SliceEntry
  grants : List (Option Grant)
  alloc : Allocator
  level : LevelController
  engine : Engine
  monitor : Monitor
  store : LineupStore
  events : EventUnit
  /-- The model's own: how many free values have been drawn (assumption 8). -/
  drawn : Nat
  deriving DecidableEq, Repr

/-- A request that the Link Controller has delivered and its owner has not yet served (R163), with the
command that serves it. -/
structure Delivered where
  command : Instr
  detached : Bool
  deriving DecidableEq, Repr

/-- The Link Controller (chapter 9). The owed count is the number of outstanding tags (R167). -/
structure Link where
  /-- The link-reset input is asserted (R168). -/
  held : Bool
  /-- The inbound slot: the bytes of the frame being received; empty between transactions (R161). -/
  inbound : List Byte
  /-- The outbound queue of finished reply frames, oldest first. -/
  outbound : List (List Byte)
  /-- The outstanding set, in the order the tags were taken. -/
  outstanding : List Byte
  linkErr : Bool
  delivered : List Delivered
  /-- The bytes the part sent on data out in the latest select period (the pin, as the host saw it). -/
  dataOut : List Byte
  deriving DecidableEq, Repr

/-- The machine: the commands that wait, first in, first out, and the part. -/
structure State where
  pending : List Instr
  link : Link
  part : Part
  deriving DecidableEq, Repr

/-- No command of this block stops the part: the manual names no fault that does, so there is no
constructor. -/
inductive Fault
  deriving DecidableEq, Repr

/-- Why a command has no meaning in this model. -/
inductive Refusal
  /-- Raised by an arm of `exec` for a command that has no meaning yet; safe: the model stops. -/
  | notModelled (mnemonic : String)
  deriving DecidableEq, Repr

/-! ### Power-on -/

/-- The map at power-on, split 64 (R18). -/
def SliceEntry.powerOn : List SliceEntry :=
  List.replicate 64 ⟨.free, false, false⟩ ++
  (List.replicate 8 ⟨.crossover, false, false⟩ ++ List.replicate 952 ⟨.free, false, false⟩)

/-- The Retune Engine at power-on (R107, R124). -/
def Engine.powerOn : Engine where
  jobs := []
  nextId := 0
  turnaround := List.replicate 16 none
  voice := ⟨20, 20, 500, 20, 50⟩
  video := ⟨50, 100, 2000, 50, 100⟩
  data := ⟨100, 200, 5000, 100, 200⟩
  quiet := false

/-- The Plant Monitor at power-on: the first dwell begins on slice 0 (R129, R142). -/
def Monitor.powerOn : Monitor where
  quality := List.replicate 1024 ⟨none, none, 0, 0⟩
  active := ⟨0, 1023, 8, 2⟩
  waiting := ⟨0, 1023, 8, 2⟩
  pointer := 0
  dwell := some ⟨0, 8⟩
  restartWaiting := false
  qt := 60
  rt := 80
  nq := 3
  nr := 5

/-- The Event Unit at power-on: every kind enabled but READY_RISE (bit 8) and SWEEP_DONE (bit 4) (R179). -/
def EventUnit.powerOn : EventUnit where
  raised := List.replicate 16 0
  masks := List.replicate 16 0b1011111111#10
  plantRaised := 0
  plantMask := 0b1101111#7

/-- The part at power-on (R18, R40, R56, R64, R101, R124, R142, R157, R179). The ready inputs are pins:
their levels at reset are the outside's, low in `reset` (assumption 3). -/
def Part.powerOn : Part where
  ready := List.replicate 16 false
  tenants := List.replicate 16 ⟨0, none⟩
  split := 64
  slices := SliceEntry.powerOn
  grants := List.replicate 96 none
  alloc := ⟨[], none, false⟩
  level := ⟨262144, 0, 512, 10000, 24, 120, false⟩
  engine := Engine.powerOn
  monitor := Monitor.powerOn
  store := ⟨List.replicate 4 .empty, 0, false, none, none⟩
  events := EventUnit.powerOn
  drawn := 0

/-- The Link Controller at power-on (R169). -/
def Link.powerOn : Link := ⟨false, [], [], [], false, [], []⟩

/-- The machine right after the power-on reset, with no command waiting. -/
def State.reset : State := ⟨[], Link.powerOn, Part.powerOn⟩

end Sys2Proof.Machine
end

