-- ==== Sys2Proof/Machine/Arithmetic.lean ====
section
/-! DEFINITION. Capacity and level arithmetic (chapter 5). Every division rounds toward minus infinity:
`/` and `%` on `Int` do so for the positive divisors used here. -/

namespace Sys2Proof.Machine

/-- The threshold of a profile, in steps (R83). -/
def profileThreshold : Nat → Nat
  | 1 => 40
  | 2 => 68
  | 3 => 92
  | 4 => 116
  | 5 => 140
  | 6 => 164
  | _ => 0

/-- The bits per symbol of a profile (R83). -/
def bitsPerSymbol : Nat → Nat
  | 1 => 2
  | 2 => 4
  | 3 => 6
  | 4 => 8
  | 5 => 10
  | 6 => 12
  | _ => 0

/-- The overhead of a class (R85). -/
def classOverhead : CarrierClass → Nat
  | .voice => 40
  | .video => 16
  | .data => 24

/-- The most grants a tenant's list may hold (R28). -/
def classLimit : CarrierClass → Nat
  | .voice => 12
  | .video => 48
  | .data => 6

/-- The capacity of a carrier in kbit/s (R85). -/
def capacityOf (cls : CarrierClass) (width profile : Nat) : Nat :=
  width * bitsPerSymbol profile * 1250 * (256 - classOverhead cls) / 256

/-- Step 3 of R83: the highest profile up to the limit whose threshold is at most the effective SNR. -/
def selectProfile (maxProfile e : Nat) : Nat :=
  ([6, 5, 4, 3, 2, 1].find? fun p => p ≤ maxProfile && profileThreshold p ≤ e).getD 0

/-- The profile a carrier runs at an effective SNR: a VIDEO carrier runs its tenant's max profile (R84). -/
def runningProfile (cls : CarrierClass) (maxProfile e : Nat) : Nat :=
  match cls with
  | .video => maxProfile
  | _ => selectProfile maxProfile e

/-- The selected profile is acceptable (R84). -/
def profileAcceptable (cls : CarrierClass) (maxProfile e : Nat) : Bool :=
  match cls with
  | .video => profileThreshold maxProfile ≤ e
  | _ => selectProfile maxProfile e != 0

/-- FRAC of R86. -/
def fracTable : List Nat := [256, 271, 287, 304, 323, 342, 362, 384, 406, 431, 456, 483]

/-- The clamp of levels to −96..+48 (R86). -/
def clampLevel (l : Int) : Int := max (-96) (min 48 l)

/-- The weight of an input L (R86): q and r are the floor quotient and the remainder by 12. -/
def weight (l : Int) : Nat :=
  let q := clampLevel l / 12
  let f := fracTable.getD (clampLevel l % 12).toNat 0
  if 0 ≤ q then f <<< q.toNat else f >>> (-q).toNat

/-- The tilt offset of a forward slice (R87). -/
def tiltOffset (slope pivot n : Nat) : Int := (slope * ((n : Int) - pivot)) / 256

end Sys2Proof.Machine
end

