-- ==== Sys2Proof/Machine/Flags.lean ====
section
/-! DEFINITION. The flags of the part: event kinds and fault classes with their bits (R176, R180), and
the raising of events into their sources. -/

namespace Sys2Proof.Machine

/-- The kinds of a tenant's event source, in the order of R176's table. -/
inductive TenantEvent
  | grantDone | grantFailed | lockTimeout | impaired | relocated | relocateFailed
  | underCommit | preempted | readyRise | faultHeld
  deriving DecidableEq, Repr

/-- The kinds of the PLANT source, in the order of R176's table. -/
inductive PlantEvent
  | overCap | capRestored | quarantineSet | quarantineEnded | sweepDone | lineupDone | resetDone
  deriving DecidableEq, Repr

/-- The bit of a tenant event in its set (R180). -/
def TenantEvent.bit : TenantEvent → TenantEventSet
  | .grantDone => 0x001
  | .grantFailed => 0x002
  | .lockTimeout => 0x004
  | .impaired => 0x008
  | .relocated => 0x010
  | .relocateFailed => 0x020
  | .underCommit => 0x040
  | .preempted => 0x080
  | .readyRise => 0x100
  | .faultHeld => 0x200

/-- The bit of a PLANT event in its set (R180). -/
def PlantEvent.bit : PlantEvent → PlantEventSet
  | .overCap => 0x01
  | .capRestored => 0x02
  | .quarantineSet => 0x04
  | .quarantineEnded => 0x08
  | .sweepDone => 0x10
  | .lineupDone => 0x20
  | .resetDone => 0x40

/-- The four fault classes of a tenant (R33). -/
inductive FaultClass
  | fit | profile | capacity | power
  deriving DecidableEq, Repr

/-- The bit of a fault class in a fault-class set (R180). -/
def FaultClass.bit : FaultClass → FaultSet
  | .fit => 1
  | .profile => 2
  | .capacity => 4
  | .power => 8

/-- Each fault class shares its name with the reply status that refuses it. -/
def FaultClass.status : FaultClass → Status
  | .fit => .fit
  | .profile => .profile
  | .capacity => .capacity
  | .power => .power

/-- The class is masked by this fault mask (R70). -/
def FaultClass.maskedBy (f : FaultClass) (mask : FaultSet) : Bool := mask &&& f.bit != 0

/-- An event is raised by adding its kind to its source's raised set (R176). -/
def Part.raise (p : Part) (t : Nat) (e : TenantEvent) : Part :=
  { p with events := { p.events with raised := p.events.raised.modify t (· ||| e.bit) } }

/-- An event is raised in the PLANT source (R176). -/
def Part.raisePlant (p : Part) (e : PlantEvent) : Part :=
  { p with events := { p.events with plantRaised := p.events.plantRaised ||| e.bit } }

/-- Some source's raised set, intersected with its enable mask, is not empty: the EVENT flag and the
event half of ATN (R159, R160). -/
def EventUnit.pending (u : EventUnit) : Bool :=
  (List.zipWith (fun r m => r &&& m != 0) u.raised u.masks).any id ||
    (u.plantRaised &&& u.plantMask != 0)

end Sys2Proof.Machine
end

