-- ==== Sys2Proof/Machine/Ops.lean ====
section
/-! DEFINITION. The shared operations over the part: its records, the composite and the cap, delivered
capacity, the job list, claims and let-go, and the passing of time. -/

namespace Sys2Proof.Machine

/-! ### Records -/

/-- The map entry of a slice; an index outside the grid reads as an unavailable slice. -/
def Part.slice (p : Part) (n : Nat) : SliceEntry := p.slices.getD n ⟨.crossover, false, false⟩

def Part.setSlice (p : Part) (n : Nat) (e : SliceEntry) : Part := { p with slices := p.slices.set n e }

/-- The grant record, absent while it is free (R41). -/
def Part.grant (p : Part) (g : Nat) : Option Grant := p.grants.getD g none

def Part.setGrant (p : Part) (g : Nat) (r : Option Grant) : Part := { p with grants := p.grants.set g r }

/-- The record of a tenant that is not EMPTY (R20). -/
def Part.tenant (p : Part) (t : Nat) : Option TenantRecord := (p.tenants.getD t ⟨0, none⟩).record

def Part.generation (p : Part) (t : Nat) : Nat := (p.tenants.getD t ⟨0, none⟩).generation

def Part.setTenant (p : Part) (t : Nat) (r : TenantRecord) : Part :=
  { p with tenants := p.tenants.modify t fun x => { x with record := some r } }

def Part.setJobs (p : Part) (js : List Job) : Part := { p with engine := { p.engine with jobs := js } }

/-- The job of a grant: with its destination, the cycle part of the grant record (R48). -/
def Part.jobOf (p : Part) (g : Nat) : Option Job := p.engine.jobs.find? fun j => j.grant == g

def Part.job (p : Part) (id : Nat) : Option Job := p.engine.jobs.find? fun j => j.id == id

/-- The job whose cycle a channel runs (R105). -/
def Part.jobIn (p : Part) (channel : Nat) : Option Job :=
  p.engine.jobs.find? fun j => j.run.any fun r => r.channel == channel

def Part.mapJob (p : Part) (id : Nat) (f : Job → Job) : Part :=
  p.setJobs (p.engine.jobs.map fun j => if j.id == id then f j else j)

def Part.dropJob (p : Part) (id : Nat) : Part := p.setJobs (p.engine.jobs.filter fun j => j.id != id)

def Part.mapBatch (p : Part) (f : Batch → Batch) : Part :=
  { p with store := { p.store with batch := p.store.batch.map f } }

/-- The placement queue (R57). -/
def Part.placementQueue (p : Part) : List QueueItem :=
  p.alloc.work.filterMap fun | .item i => some i | .attempt _ => none

/-- The attempt list (R57). -/
def Part.attemptList (p : Part) : List Nat :=
  p.alloc.work.filterMap fun | .item _ => none | .attempt g => some g

/-- The carrier slices of a grant's current place (R83). -/
def Grant.carrier (r : Grant) : List Nat := List.range' r.first r.width

/-- The slice is a carrier slice or, for VOICE, a guard slice of this window (R65). -/
def windowCovers (cls : CarrierClass) (first width n : Nat) : Bool :=
  (first ≤ n && n < first + width) || (cls == .voice && (n + 1 == first || n == first + width))

/-- The slice is a carrier or guard slice of the grant's current place. -/
def Grant.covers (r : Grant) (n : Nat) : Bool := windowCovers r.cls r.first r.width n

/-- The slice lies in the forward band (R1). -/
def Part.inForward (p : Part) (n : Nat) : Bool := p.split + 8 ≤ n && n < 1024

/-- A slice is available when it is FREE or PARKED (R3). -/
def SliceEntry.available (e : SliceEntry) : Bool :=
  match e.use with
  | .free | .parked _ _ => true
  | _ => false

/-- A guard may land on an available slice or on a GUARD slice of count 1 (R3). -/
def SliceEntry.guardEligible (e : SliceEntry) : Bool :=
  match e.use with
  | .guard _ none => true
  | _ => e.available

/-- The grant owns the slice, or is among its guard owners. -/
def SliceEntry.heldBy (e : SliceEntry) (g : Nat) : Bool :=
  match e.use with
  | .claimed o | .granted o => o == g
  | .guard a b => a == g || b == some g
  | _ => false

/-- The signal side: a forward carrier or fill radiates unless QUIET mutes it (R6, R9, R120, R121). -/
def Part.radiates (p : Part) (n : Nat) : Bool :=
  !p.engine.quiet && p.inForward n &&
    match (p.slice n).use with
    | .granted _ | .parked _ _ => true
    | _ => false

/-! ### The composite and the cap (5.5, 5.6, 5.9) -/

/-- The tilt offset of a slice: 0 in the return band (R87). -/
def Part.offset (p : Part) (n : Nat) : Int :=
  if n < p.split then 0 else tiltOffset p.level.slope p.level.pivot n

/-- What a forward carrier contributes, charged at its centre slice (R88). -/
def Part.carrierWeight (p : Part) (level : Int) (c : Place) : Nat :=
  c.width * weight (level + p.offset (c.first + c.width / 2))

/-- What several carriers of one grant contribute at one level. -/
def Part.carriersWeight (p : Part) (level : Int) (cs : List Place) : Nat :=
  (cs.map (p.carrierWeight level)).sum

/-- The carriers of a grant that count in the composite, by its state and its job (R90). A LEAVING
grant that still has a destination was turned in STROBE or HOLD: both carriers of a MOVE count, and
of a RESIZE the wider. -/
def Grant.counted (r : Grant) (j : Option Job) : List Place :=
  let own : Place := ⟨r.first, r.width⟩
  match r.state, j.bind (·.dest) with
  | .moving, some d => [own, d]
  | .resizing, some d => [⟨r.first, max r.width d.width⟩]
  | .leaving, some d =>
    if j.any fun j => j.queuedAs == .move then [own, d] else [⟨r.first, max r.width d.width⟩]
  | _, _ => [own]

/-- A grant's contribution to the composite: 0 for a return grant (R88, R90). -/
def Part.contribution (p : Part) (g : Nat) : Nat :=
  match p.grant g with
  | none => 0
  | some r =>
    match r.dir with
    | .ret => 0
    | .forward => p.carriersWeight (r.level.getD 0) (r.counted (p.jobOf g))

/-- The fills of a list of entries whose first entry is slice `n` (R89). -/
def Part.fillsWeight (p : Part) : Nat → List SliceEntry → Nat
  | _, [] => 0
  | n, e :: es =>
    (match e.use with
      | .parked _ l => weight (l + p.offset n)
      | _ => 0) + p.fillsWeight (n + 1) es

/-- The composite: the sum of the contributions of all carriers and all PARKED slices (R91). -/
def Part.composite (p : Part) : Nat :=
  ((List.range 96).map p.contribution).sum + p.fillsWeight 0 p.slices

/-- The answer to a fit test whose resulting composite is `total` (R92). -/
def Part.fits (p : Part) (total : Nat) : Bool := !p.level.overCap && total ≤ p.level.cap

/-- The test of the cap after an act that lowers the composite or raises the cap (R100). -/
def Part.capTest (p : Part) : Part :=
  if p.level.overCap && p.composite ≤ p.level.cap then
    { p with level := { p.level with overCap := false } }.raisePlant .capRestored
  else p

/-- The end of a slice's parking: FREE, its fill gone from the composite, the cap tested (R9, R100). -/
def Part.endParking (p : Part) (n : Nat) : Part :=
  (p.setSlice n ⟨.free, false, false⟩).capTest

/-! ### Delivered capacity (2.10) -/

/-- The capacity of a record that counts for the tenant in one of these states. -/
def Grant.capacityIn (t : Nat) (states : List GrantState) : Option Grant → Nat
  | some r => if r.tenant == t && states.contains r.state then r.capacity else 0
  | none => 0

/-- A tenant's delivered capacity (R36). -/
def Part.delivered (p : Part) (t : Nat) : Nat :=
  (p.grants.map (Grant.capacityIn t [.active, .moving, .resizing])).sum

/-- The capacities of a tenant's ARRIVING grants (R73). -/
def Part.arrivingCapacity (p : Part) (t : Nat) : Nat :=
  (p.grants.map (Grant.capacityIn t [.arriving])).sum

/-- The tenant is defined and its delivered capacity is at or above the committed capacity (R37). -/
def Part.meetsCommit (p : Part) (t : Nat) : Bool :=
  (p.tenant t).any fun r => r.committed ≤ p.delivered t

/-- The tenant is defined, not RETIRING, and below its committed capacity (R37). -/
def Part.underCommit (p : Part) (t : Nat) : Bool :=
  (p.tenant t).any fun r => r.status != .retiring && p.delivered t < r.committed

/-- UNDER_COMMIT is raised where an act turned the relation from true to false: the test is made once,
before the act's first change and after its last (R37). -/
def Part.commitTest (before after : Part) : Part :=
  (List.range 16).foldl (init := after) fun q t =>
    if before.meetsCommit t && after.underCommit t then q.raise t .underCommit else q

/-! ### Tenants -/

/-- Every VALID slot that references the tenant becomes STALE (R148). -/
def Slot.staleFor (t : Nat) : Slot → Slot
  | .saved false split es => .saved (es.any fun e => e.tenant == t) split es
  | s => s

def Part.markStale (p : Part) (t : Nat) : Part :=
  { p with store := { p.store with slots := p.store.slots.map (Slot.staleFor t) } }

/-- The tenant's turnaround timer takes a value (R115). -/
def Part.setTurnaround (p : Part) (t : Nat) (left : Option Nat) : Part :=
  { p with engine := { p.engine with turnaround := p.engine.turnaround.set t left } }

/-- A retire completes: EMPTY, the generation advanced, the timer stopped, the Lineup Store told (R32, R115). -/
def Part.completeRetire (p : Part) (t : Nat) : Part :=
  ({ p with tenants := p.tenants.modify t fun x => ⟨(x.generation + 1) % 256, none⟩ }.setTurnaround t none).markStale t

/-- The stored timings of a class (R107). -/
def Engine.timings (e : Engine) : CarrierClass → Timings
  | .voice => e.voice
  | .video => e.video
  | .data => e.data

/-- The tenant's turnaround interval begins; one of 0 runs out in the act, and an EMPTY tenant has no
class to take it from (R115, R32; assumption 12). -/
def Part.beginTurnaround (p : Part) (t : Nat) : Part :=
  match p.tenant t with
  | none => p
  | some r =>
    let d := (p.engine.timings r.cls).turnaround
    p.setTurnaround t (if d == 0 then none else some d)

/-- A freed grant leaves its tenant's list; the retire of a RETIRING tenant whose list is then empty
completes in the same act (R28, R32, R43). -/
def Part.unlist (p : Part) (t g : Nat) : Part :=
  match p.tenant t with
  | none => p
  | some r =>
    let rest := r.grants.filter (· != g)
    let q := p.setTenant t { r with grants := rest }
    if r.status == .retiring && rest.isEmpty then q.completeRetire t else q

/-- The most recent grant of a tenant lost before it entered service (R38). -/
def Part.recordFailure (p : Part) (t g : Nat) (why : FailureReason) : Part :=
  match p.tenant t with
  | none => p
  | some r => p.setTenant t { r with lastFailure := some (g, why) }

/-- The tenant's sticky flags of these classes are set (R33). -/
def Part.setSticky (p : Part) (t : Nat) (faults : FaultSet) : Part :=
  match p.tenant t with
  | none => p
  | some r => p.setTenant t { r with sticky := r.sticky ||| faults }

/-- The lowest free grant record (R41). -/
def Part.lowestFree (p : Part) : Option Nat := p.grants.findIdx? (·.isNone)

/-- The number of grant records in use. -/
def Part.grantsInUse (p : Part) : Nat := p.grants.countP (·.isSome)

/-! ### The job list (6.1) -/

/-- The first id, counting upward from `start` and wrapping, that no job holds (R103). -/
def firstFreeId (js : List Job) (start : Nat) : Nat :=
  (((List.range 256).map fun i => (start + i) % 256).find? fun i => js.all fun j => j.id != i).getD start

/-- A job is appended in phase QUEUED under the next free id (R103, R104). The id is answered. -/
def Part.queueJob (p : Part) (g : Nat) (kind : JobKind) (dest : Option Place) (after : Option Nat := none)
    (relocation : Bool := false) (batch : Option BatchMark := none) : Part × Nat :=
  let id := firstFreeId p.engine.jobs p.engine.nextId
  ({ p with engine := { p.engine with
      jobs := p.engine.jobs ++ [⟨id, g, kind, kind, dest, after, relocation, batch, none⟩]
      nextId := (id + 1) % 256 } }, id)

/-- The job queue has a free entry (R102). -/
def Part.hasJobEntry (p : Part) : Bool := p.engine.jobs.length < 24

/-! ### Claims (1.3) -/

/-- A destination carrier slice is claimed (R5); a slice the claim does not cover is left as it was. -/
def Part.claimCarrier (g : Nat) (p : Part) (n : Nat) : Part :=
  if (p.slice n).available then p.setSlice n ⟨.claimed g, false, false⟩ else p

/-- A guard slice is claimed (R5); its marks are kept when it goes to count 2. -/
def Part.claimGuard (g : Nat) (p : Part) (n : Nat) : Part :=
  let e := p.slice n
  match e.use with
  | .guard a none => if a == g then p else p.setSlice n { e with use := .guard a (some g) }
  | .free | .parked _ _ => p.setSlice n ⟨.guard g none, false, false⟩
  | _ => p

/-- The guard slices of a window (R65). -/
def guardSlices (cls : CarrierClass) (first : Nat) : List Nat :=
  match cls with
  | .voice => [first - 1, first + 1]
  | _ => []

/-- The slices of a window are claimed in one act: the carrier slices, then the guards. Slices that
belong to the grant already, or to a grant it preempts, are left (R5, R76, R154). The fills of
claimed slices leave the composite, and the cap is tested (R100). -/
def Part.claimWindow (p : Part) (g : Nat) (cls : CarrierClass) (c : Place) : Part :=
  ((guardSlices cls c.first).foldl (Part.claimGuard g)
    ((List.range' c.first c.width).foldl (Part.claimCarrier g) p)).capTest

/-- At the start of STROBE every CLAIMED carrier slice of the destination becomes GRANTED (R6, R155). -/
def Part.radiate (g : Nat) (p : Part) (n : Nat) : Part :=
  let e := p.slice n
  if e.use == .claimed g then p.setSlice n { e with use := .granted g } else p

/-! ### Letting go (1.4) -/

/-- What becomes of a let-go slice that does not park: QUARANTINED with its pinned mark where it
carries the impaired mark, FREE without marks otherwise (R7). -/
def SliceEntry.released (e : SliceEntry) : SliceEntry :=
  if e.impaired then ⟨.quarantined, false, e.pinned⟩ else ⟨.free, false, false⟩

/-- The fill level of a slice let go by a carrier at this level (R7, R89). -/
def Part.fillLevel (p : Part) (level : Int) : Int := max (-96) (level - p.level.fillDrop)

/-- An unmarked GRANTED forward slice parks where the park time is not 0 and its fill fits, and becomes
FREE otherwise (R7, R93). -/
def Part.parkOrFree (p : Part) (n : Nat) (level : Int) : Part :=
  let q := p.setSlice n ⟨.parked p.level.parkTime (p.fillLevel level), false, false⟩
  if p.level.parkTime != 0 && p.fits q.composite then q else p.setSlice n ⟨.free, false, false⟩

/-- A slice is let go by a grant whose carrier runs at `level` (R7). -/
def Part.letGoSlice (g : Nat) (level : Option Int) (p : Part) (n : Nat) : Part :=
  let e := p.slice n
  match e.use with
  | .claimed o => if o == g then p.setSlice n e.released else p
  | .granted o =>
    if o != g then p
    else if e.impaired || n < p.split then p.setSlice n e.released
    else p.parkOrFree n (level.getD 0)
  | .guard a none => if a == g then p.setSlice n e.released else p
  | .guard a (some b) =>
    if a == g then p.setSlice n { e with use := .guard b none }
    else if b == g then p.setSlice n { e with use := .guard a none }
    else p
  | _ => p

/-- The job that waits on the job `id` (R106). -/
def Part.waiterOn (p : Part) (id : Nat) : Option Job := p.engine.jobs.find? fun j => j.after == some id

/-- The class of the grant a job is for. -/
def Part.jobClass (p : Part) (j : Job) : CarrierClass := ((p.grant j.grant).map (·.cls)).getD .data

/-- A dropped slice of a preempted grant that lies in the window waiting on it passes to the waiting
grant, marks kept; any other slice is let go (R77, R7). -/
def Part.passOrLetGo (waiter : Option Job) (g : Nat) (level : Option Int) (p : Part) (n : Nat) : Part :=
  match waiter.bind fun w => w.dest.map fun d => (w.grant, d, p.jobClass w) with
  | some (w, d, cls) =>
    let e := p.slice n
    if e.use == .granted g && windowCovers cls d.first d.width n then
      if d.first ≤ n && n < d.first + d.width then p.setSlice n { e with use := .claimed w }
      else p.setSlice n { e with use := .guard w none }
    else p.letGoSlice g level n
  | none => p.letGoSlice g level n

/-- The slices a grant holds outside `keep` are let go in ascending order at the ending of its job
`ended`, after the cap is tested (R7, R93). -/
def Part.letGo (p : Part) (g : Nat) (level : Option Int) (ended : Option Nat) (keep : Nat → Bool) : Part :=
  let q := p.capTest
  ((List.range 1024).filter fun n => (q.slice n).heldBy g && !keep n).foldl
    (Part.passOrLetGo (ended.bind q.waiterOn) g level) q

/-- A grant record is freed: its contribution leaves, every slice it holds is let go, its id leaves the
tenant's list (R43). `ended` is the job at whose DONE this happens. -/
def Part.freeGrant (p : Part) (g : Nat) (ended : Option Nat) : Part :=
  match p.grant g with
  | none => p
  | some r => ((p.setGrant g none).letGo g r.level ended fun _ => false).unlist r.tenant g

/-- A grant enters LEAVING: relocation-pending is cleared, the impaired flag kept (R51). -/
def Part.enterLeaving (p : Part) (g : Nat) : Part :=
  match p.grant g with
  | none => p
  | some r => p.setGrant g (some { r with state := .leaving, relocationPending := false })

/-- The grant's level becomes `level` (R95, R46). -/
def Part.setLevel (p : Part) (g : Nat) (level : Int) : Part :=
  match p.grant g with
  | none => p
  | some r => p.setGrant g (some { r with level := some level })

/-! ### Time -/

/-- `ms` milliseconds of a running phase. -/
def Run.elapse (ms : Nat) (r : Run) : Run :=
  match r.phase with
  | .strobe => { r with strobeLeft := r.strobeLeft - ms, lockLeft := r.lockLeft.map (· - ms) }
  | _ => { r with left := r.left - ms }

/-- A park timer counts down (R9). -/
def SliceEntry.elapse (ms : Nat) (e : SliceEntry) : SliceEntry :=
  match e.use with
  | .parked left fill => { e with use := .parked (left - ms) fill }
  | _ => e

/-- `ms` milliseconds pass: park timers, turnaround timers and the dwell count down in every plant
state, the phases outside QUIET (R9, R115, R120, R126). A timer at 0 is due: its own command takes
the event (assumption 5). -/
def Part.elapse (p : Part) (ms : Nat) : Part :=
  { p with
    slices := p.slices.map (SliceEntry.elapse ms)
    engine := { p.engine with
      jobs := if p.engine.quiet then p.engine.jobs
        else p.engine.jobs.map fun j => { j with run := j.run.map (Run.elapse ms) }
      turnaround := p.engine.turnaround.map (·.map (· - ms)) }
    monitor := { p.monitor with dwell := p.monitor.dwell.map fun d => { d with left := d.left - ms } } }

end Sys2Proof.Machine
end

