-- ==== Sys2Proof/Machine/Operands.lean ====
section
/-! DEFINITION. The operands of placement: bands, windows, the visiting order of the scan, the profile
of a window and the scan's passes (4.2). -/

namespace Sys2Proof.Machine

/-- The lowest and highest slice of a band (R1). -/
def Part.band (p : Part) : Direction → Nat × Nat
  | .ret => (0, p.split - 1)
  | .forward => (p.split + 8, 1023)

/-- The slice lies in the band of a direction (R1). -/
def Part.inBand (p : Part) (d : Direction) (n : Nat) : Bool :=
  let (lo, hi) := p.band d
  lo ≤ n && n ≤ hi

/-- A candidate position in the band lo..hi: the alignment is met and the whole span lies inside (R65). -/
def isCandidate (cls : CarrierClass) (lo hi width c : Nat) : Bool :=
  match cls with
  | .data => lo ≤ c && c + width ≤ hi + 1
  | .video => c % 4 == 0 && lo ≤ c && c + 3 ≤ hi
  | .voice => lo + 1 ≤ c && c + 1 ≤ hi

/-- The candidate positions of a band in ascending order (R65). -/
def Part.candidates (p : Part) (dir : Direction) (cls : CarrierClass) (width : Nat) : List Nat :=
  let (lo, hi) := p.band dir
  (List.range' lo (hi + 1 - lo)).filter (isCandidate cls lo hi width)

/-- The start value of the scan under an UP scan (R66). -/
def startUp (cls : CarrierClass) (rover : Nat) : Nat :=
  match cls with
  | .video => (rover + 3) / 4 * 4
  | _ => rover

/-- The start value of the scan under a DOWN scan; it may lie below 0 (R66). -/
def startDown (cls : CarrierClass) (rover width : Nat) : Int :=
  match cls with
  | .video => ((rover : Int) - 3) / 4 * 4
  | _ => (rover : Int) - width + 1

/-- The cyclic order in which the scan visits the candidates (R66). -/
def visitOrder (scan : ScanDirection) (cls : CarrierClass) (rover width : Nat) (cs : List Nat) : List Nat :=
  match scan with
  | .up =>
    let c0 := startUp cls rover
    cs.filter (c0 ≤ ·) ++ cs.filter (· < c0)
  | .down =>
    let c0 := startDown cls rover width
    (cs.filter fun c : Nat => decide ((c : Int) ≤ c0)).reverse ++
      (cs.filter fun c : Nat => decide (c0 < (c : Int))).reverse

/-- The rover of a band (R29). -/
def TenantRecord.rover (t : TenantRecord) : Direction → Nat
  | .ret => t.returnRover
  | .forward => t.forwardRover

/-- The candidates of a tenant's scan in visiting order (R65, R66). -/
def Part.scanOrder (p : Part) (t : TenantRecord) (dir : Direction) (width : Nat) : List Nat :=
  visitOrder t.scan t.cls (t.rover dir) width (p.candidates dir t.cls width)

/-- The smoothed SNR of a slice, the assumed SNR where it is UNKNOWN (step 1 of R83). -/
def Part.snr (p : Part) (n : Nat) : Nat :=
  ((p.monitor.quality.getD n ⟨none, none, 0, 0⟩).smoothed).getD p.level.assumedSnr

/-- The effective SNR of a set of carrier slices at a margin (steps 1 and 2 of R83). -/
def Part.effectiveSnr (p : Part) (margin : Nat) (slices : List Nat) : Nat :=
  (slices.map p.snr).foldl min 255 - margin

/-- The effective SNR of a window for a tenant. -/
def Part.windowSnr (p : Part) (t : TenantRecord) (c width : Nat) : Nat :=
  p.effectiveSnr t.margin (List.range' c width)

/-- The profile the tenant's carrier would run in a window (R83, R84). -/
def Part.windowProfile (p : Part) (t : TenantRecord) (c width : Nat) : Nat :=
  runningProfile t.cls t.maxProfile (p.windowSnr t c width)

/-- The profile selected for a window is acceptable (R67, R84). -/
def Part.windowAcceptable (p : Part) (t : TenantRecord) (c width : Nat) : Bool :=
  profileAcceptable t.cls t.maxProfile (p.windowSnr t c width)

/-- The slice counts as unavailable because the grant being moved holds it now (R67). -/
def inOrigin (origin : Option Grant) (n : Nat) : Bool := origin.any fun r => r.covers n

/-- The first two conditions of pass 1: carrier slices available, guards eligible, none of them of the
origin. With the third condition failing, such a position is a shape fit (R67). -/
def Part.shapeOk (p : Part) (cls : CarrierClass) (width : Nat) (origin : Option Grant) (c : Nat) : Bool :=
  ((List.range' c width).all fun n => (p.slice n).available && !inOrigin origin n) &&
    ((guardSlices cls c).all fun n => (p.slice n).guardEligible && !inOrigin origin n)

/-- The position passes pass 1 (R67). -/
def Part.passOne (p : Part) (t : TenantRecord) (width : Nat) (origin : Option Grant) (c : Nat) : Bool :=
  p.shapeOk t.cls width origin c && p.windowAcceptable t c width

/-- The lowest slice of a window (R68). -/
def windowBottom (cls : CarrierClass) (c : Nat) : Nat :=
  match cls with
  | .voice => c - 1
  | _ => c

/-- The grant D that a position would preempt, where the position passes pass 2 (R68). -/
def Part.passTwo (p : Part) (t : TenantRecord) (width : Nat) (origin : Option Grant) (c : Nat) : Option Nat :=
  let ws := windowBottom t.cls c
  match (p.slice ws).use with
  | .granted d =>
    match p.grant d with
    | none => none
    | some r =>
      match p.tenant r.tenant with
      | none => none
      | some dt =>
        let top := r.first + r.width - 1
        let ownedByD := fun n => (p.slice n).use == .granted d && !(p.slice n).impaired
        let slack := p.delivered r.tenant - r.capacity + capacityOf .data (ws - r.first) r.profile
        if r.cls == .data && r.state == .active && dt.status != .retiring &&
            r.first + r.floor.getD r.width ≤ ws && ws ≤ top &&
            ((List.range' c width).all fun n =>
              if n ≤ top then ownedByD n else (p.slice n).available && !inOrigin origin n) &&
            ((guardSlices t.cls c).all fun n =>
              if n ≤ top then ownedByD n else (p.slice n).guardEligible && !inOrigin origin n) &&
            p.windowAcceptable t c width &&
            dt.committed ≤ slack
        then some d else none
  | _ => none

/-- Where a scan ends: a position that passes, with the grant to preempt if pass 2 chose it, or the
first shape fit, or nothing. -/
inductive Found
  | fit (c : Nat) (preempt : Option Nat)
  | shape (c : Nat)
  | nothing
  deriving DecidableEq, Repr

/-- Pass 1 over the positions in their order, then pass 2 for VOICE and VIDEO (R67, R68). -/
def Part.scan (p : Part) (t : TenantRecord) (width : Nat) (origin : Option Grant) (order : List Nat) : Found :=
  match order.find? (p.passOne t width origin) with
  | some c => .fit c none
  | none =>
    let two := if t.cls == .data then none
      else order.findSome? fun c => (p.passTwo t width origin c).map fun d => (c, d)
    match two with
    | some (c, d) => .fit c (some d)
    | none =>
      match order.find? (p.shapeOk t.cls width origin) with
      | some c => .shape c
      | none => .nothing

/-- The length of the longest run of consecutive available slices in a list of slices (R71). -/
def Part.longestRun (p : Part) : List Nat → Nat → Nat
  | [], _ => 0
  | n :: ns, run =>
    let here := if (p.slice n).available then run + 1 else 0
    max here (p.longestRun ns here)

/-- Pass 3 of a DATA ask: the narrowed width and the first window of that width whose carrier slices
are all available, where the longest run is at least the floor width (R71). -/
def Part.passThree (p : Part) (t : TenantRecord) (dir : Direction) (width floor : Nat) : Option (Nat × Nat) :=
  let (lo, hi) := p.band dir
  let longest := p.longestRun (List.range' lo (hi + 1 - lo)) 0
  if longest < floor then none
  else
    let w := min width longest
    ((p.scanOrder t dir w).find? fun c => (List.range' c w).all fun n => (p.slice n).available).map fun c => (c, w)

/-- The rover past a new carrier in the scan direction, wrapping at the ends of the band (R69). -/
def Part.roverPast (p : Part) (scan : ScanDirection) (dir : Direction) (c : Place) : Nat :=
  let (lo, hi) := p.band dir
  match scan with
  | .up => if hi < c.first + c.width then lo else c.first + c.width
  | .down => if c.first < lo + 1 then hi else c.first - 1

/-- The rover update after an accepted placement (R69). -/
def Part.moveRover (p : Part) (t : Nat) (dir : Direction) (c : Place) : Part :=
  match p.tenant t with
  | none => p
  | some r =>
    let v := p.roverPast r.scan dir c
    match dir with
    | .ret => p.setTenant t { r with returnRover := v }
    | .forward => p.setTenant t { r with forwardRover := v }

end Sys2Proof.Machine
end

