-- ==== Sys2Proof/Machine/Upkeep.lean ====
section
/-! DEFINITION. Grant upkeep (7.7), the attempt list it feeds, and the verdicts at the map (1.6). -/

namespace Sys2Proof.Machine

/-- A relocation-pending mark: the grant is appended to the attempt list unless it is there (R63). -/
def Part.markAttempt (p : Part) (g : Nat) : Part :=
  if p.alloc.work.contains (.attempt g) then p
  else { p with alloc := { p.alloc with work := p.alloc.work ++ [.attempt g] } }

/-- A grant's flags are set together: where they turn set, IMPAIRED is raised and the Allocator is
handed the mark (R51, R72, R139). -/
def Part.setFlags (p : Part) (g : Nat) : Part :=
  match p.grant g with
  | none => p
  | some r =>
    if r.impaired then p.setGrant g (some { r with relocationPending := true })
    else ((p.setGrant g (some { r with impaired := true, relocationPending := true })).raise r.tenant .impaired).markAttempt g

/-- A grant's flags are cleared together (R51, R139). -/
def Part.clearFlags (p : Part) (g : Nat) : Part :=
  match p.grant g with
  | none => p
  | some r => p.setGrant g (some { r with impaired := false, relocationPending := false })

/-- A grant is judged bad: a current carrier slice carries the impaired mark, or the effective SNR no
longer supports the profile (R138). -/
def Part.judgedBad (p : Part) (r : Grant) (t : TenantRecord) : Bool :=
  (r.carrier.any fun n => (p.slice n).impaired) ||
    !profileAcceptable r.cls t.maxProfile (p.effectiveSnr t.margin r.carrier)

/-- Step 1 of upkeep: the profile and the capacity of a grant that is not LEAVING (R47, R137, R138). -/
def Part.recompute (p : Part) (g : Nat) : Part :=
  match p.grant g with
  | none => p
  | some r =>
    match p.tenant r.tenant with
    | none => p
    | some t =>
      if r.state == .leaving then p
      else
        let prof := runningProfile r.cls t.maxProfile (p.effectiveSnr t.margin r.carrier)
        p.setGrant g (some { r with profile := prof, capacity := capacityOf r.cls r.width prof })

/-- Step 2 of upkeep: a grant that is not LEAVING is judged, and its flags turn with the judgement (R138, R139). -/
def Part.judgeGrant (p : Part) (g : Nat) : Part :=
  match p.grant g with
  | none => p
  | some r =>
    match p.tenant r.tenant with
    | none => p
    | some t =>
      if r.state == .leaving then p
      else if p.judgedBad r t then (if r.impaired then p else p.setFlags g)
      else (if r.impaired then p.clearFlags g else p)

/-- The upkeep of one grant: profile and capacity, then the judgement and the flags. A LEAVING grant is
not recomputed (R137, R138, R139). -/
def Part.upkeep (p : Part) (g : Nat) : Part := (p.recompute g).judgeGrant g

/-- The grants with a current carrier slice in a set of slices, in ascending id (R135, R137). -/
def Part.grantsOn (p : Part) (inRange : Nat → Bool) : List Nat :=
  (List.range 96).filter fun g => (p.grant g).any fun r => r.carrier.any inRange

/-- Upkeep of several grants in their order. -/
def Part.upkeepAll (p : Part) (gs : List Nat) : Part := gs.foldl Part.upkeep p

/-- What a QUARANTINE verdict makes of a map entry, with or without the pin (R12). -/
def SliceEntry.quarantine (pin : Bool) (e : SliceEntry) : SliceEntry :=
  match e.use with
  | .free | .parked _ _ => ⟨.quarantined, false, pin⟩
  | .claimed _ | .granted _ | .guard _ _ | .reserved => { e with impaired := true, pinned := e.pinned || pin }
  | .quarantined => { e with pinned := e.pinned || pin }
  | .crossover => e

/-- What a LIFT verdict makes of a map entry; the host's lift also clears the pinned mark (R13). -/
def SliceEntry.lift (byHost : Bool) (e : SliceEntry) : SliceEntry :=
  match e.use with
  | .quarantined => ⟨.free, false, false⟩
  | .claimed _ | .granted _ | .guard _ _ | .reserved =>
    { e with impaired := false, pinned := e.pinned && !byHost }
  | _ => { e with pinned := e.pinned && !byHost }

end Sys2Proof.Machine
end

