-- ==== Sys2Proof/Machine/CycleOps.lean ====
section
/-! DEFINITION. The Retune Engine's shared operations: the phases of a cycle, its end at DONE, its
abandonment, and its being cut short by a release (6.4 to 6.6). -/

namespace Sys2Proof.Machine

/-- A job of the batch has ended with these counts: a waiting head item is to be tried again (R154). -/
def Batch.jobEnded (b : Batch) (counts : BatchCounts) : Batch := { b with retry := true, counts := counts }

/-- The Lineup Store is told that a batch-marked job ended (R113, R119, R153, R155). `asQueued` says
that it ended done as the kind it then had. -/
def Part.reportEnd (p : Part) (j : Job) (done : Bool) : Part :=
  match j.batch with
  | none => p
  | some .a => p.mapBatch fun b => b.jobEnded { b.counts with released := b.counts.released + 1 }
  | some .b =>
    if done && j.kind != .release then
      p.mapBatch fun b => b.jobEnded { b.counts with done := b.counts.done + 1 }
    else p.mapBatch fun b => b.jobEnded { b.counts with failed := b.counts.failed + 1 }

/-- The tenant a job's cycle belongs to. -/
def Part.jobTenant (p : Part) (j : Job) : Option Nat := (p.grant j.grant).map (·.tenant)

/-- The copied timings, asserted sense and eligibility read the ready input through the tenant's
polarity; an EMPTY tenant's input counts as not asserted (R27). -/
def Part.asserted (p : Part) (t : Nat) : Bool :=
  match p.tenant t with
  | none => false
  | some r =>
    match r.polarity with
    | .high => p.ready.getD t false
    | .low => !p.ready.getD t false

/-- A job leaves the list done: every after field that names it is cleared (R106). -/
def Part.clearAfter (p : Part) (id : Nat) : Part :=
  p.setJobs (p.engine.jobs.map fun j => if j.after == some id then { j with after := none } else j)

/-- The record takes what DONE gives for the kind (step 1 of R113, R114, R47), a MOVE or RESIZE by the recomputation
`recompute`; a RELEASE is freed later. -/
def Part.finishRecord (recompute : Part → Nat → Part) (p : Part) (j : Job) (r : Grant) : Part :=
  match j.kind, j.dest with
  | .release, _ => p
  | .activate, _ => p.setGrant j.grant (some { r with state := .active })
  | _, none => recompute (p.setGrant j.grant (some { r with state := .active })) j.grant
  | _, some d =>
    recompute (p.setGrant j.grant (some { r with first := d.first, width := d.width, state := .active })) j.grant

/-- The contribution is taken away and the outgoing slices are let go, or the record is freed (steps
2 and 3 of R113). What is outgoing is what the grant holds outside its new place (R114, R155). -/
def Part.finishSlices (p : Part) (j : Job) : Part :=
  match j.kind with
  | .release => p.freeGrant j.grant (some j.id)
  | .activate => p
  | _ =>
    match p.grant j.grant with
    | none => p
    | some r => p.letGo j.grant r.level (some j.id) r.covers

/-- The events of DONE (step 4 of R113). -/
def Part.finishEvents (p : Part) (j : Job) (t : Nat) : Part :=
  let q := p.raise t .grantDone
  if j.kind == .move && j.relocation then q.raise t .relocated else q

/-- The seven steps of R113 in their order, the record recomputed by `recompute`. -/
def Part.finishWith (recompute : Part → Nat → Part) (p : Part) (j : Job) : Part :=
  match p.grant j.grant with
  | none => p.dropJob j.id
  | some r =>
    let q := ((Part.finishRecord recompute p j r).finishSlices j).finishEvents j r.tenant
    (((q.dropJob j.id).beginTurnaround r.tenant).clearAfter j.id).reportEnd j true

/-- A cycle reaches DONE: its record is recomputed as after a dwell, its flags with it (R113, R114). -/
def Part.finish (p : Part) (j : Job) : Part := Part.finishWith Part.upkeep p j

/-- A cycle that ENGINE_RESET completes ends as at DONE, but its grant's flags are kept: only profile and capacity are
recomputed (R56, R122, R143). -/
def Part.finishByReset (p : Part) (j : Job) : Part := Part.finishWith Part.recompute p j

/-- HOLD begins with the full copied hold time; one of 0 ends in the act, unless QUIET pauses it
(R108, R112, R120; assumption 11). -/
def Part.beginHold (p : Part) (id : Nat) : Part :=
  let q := p.mapJob id fun j => { j with run := j.run.map fun r => { r with phase := .hold, left := r.timings.hold } }
  match q.job id with
  | some j => if !q.engine.quiet && j.run.any fun r => r.left == 0 then q.finish j else q
  | none => q

/-- The lock wait that begins with `strobeLeft` of the strobe minimum still to run: absent where the
lock-wait maximum does not exceed it (R111, R121). -/
def lockWait (lockMax strobeLeft : Nat) : Option Nat := if lockMax ≤ strobeLeft then none else some lockMax

/-- STROBE begins: the destination radiates and the lock wait begins (R6, R110, R111). -/
def Part.beginStrobe (p : Part) (id : Nat) : Part :=
  let q := p.mapJob id fun j => { j with run := j.run.map fun r =>
    { r with phase := .strobe, strobeLeft := r.timings.strobeMin,
             lockLeft := lockWait r.timings.lockMax r.timings.strobeMin } }
  match p.job id with
  | some j =>
    match j.dest with
    | some d => (List.range' d.first d.width).foldl (Part.radiate j.grant) q
    | none => q
  | none => q

/-- SETUP begins with the copied setup time; one of 0 ends in the act (R108, R109). -/
def Part.beginSetup (p : Part) (id : Nat) : Part :=
  let q := p.mapJob id fun j => { j with run := j.run.map fun r => { r with phase := .setup, left := r.timings.setup } }
  match q.job id with
  | some j => if j.run.any fun r => r.left == 0 then q.beginStrobe id else q
  | none => q

/-- A RESIZE whose destination is not wider than the grant's place is a shrink (R102). -/
def Part.isShrink (p : Part) (j : Job) : Bool :=
  j.kind == .resize && (p.grant j.grant).any fun r => j.dest.any fun d => d.width ≤ r.width

/-- The strobe minimum has elapsed and the input is asserted, or there is no lock wait (R111, R121). -/
def Part.strobeSatisfied (p : Part) (j : Job) (r : Run) : Bool :=
  r.phase == .strobe && r.strobeLeft == 0 &&
    (r.lockLeft.isNone || (p.jobTenant j).any p.asserted)

/-- The lock wait of a tenant's running cycle is judged: STROBE ends where it is satisfied (R26, R111).
QUIET pauses it. -/
def Part.judgeLock (p : Part) (t : Nat) : Part :=
  if p.engine.quiet then p
  else
    match p.engine.jobs.find? fun j => p.jobTenant j == some t && j.run.any (p.strobeSatisfied j) with
    | some j => p.beginHold j.id
    | none => p

/-! ### Cutting short -/

/-- A started job that is removed or abandoned begins its tenant's turnaround (R115). -/
def Part.turnaroundIfStarted (p : Part) (j : Job) : Part :=
  match j.run, p.jobTenant j with
  | some _, some t => p.beginTurnaround t
  | _, _ => p

/-- The events of an abandonment (R119); an ENGINE_RESET ending raises none of its own (R122). -/
def Part.abandonEvents (p : Part) (j : Job) (t : Nat) (why : FailureReason) : Part :=
  if why == .reset then p
  else if j.kind == .move && j.relocation then p.raise t .relocateFailed
  else p.raise t .grantFailed

/-- One job is abandoned (R106, R118, R122): an ACTIVATE frees its grant with a last failure; a MOVE or
RESIZE lets its destination go and leaves the grant ACTIVE at its origin. DESIGN CHOICE (assumption 33): the floor
width that a grow or a restore's MOVE stored at its acceptance stands, even above the origin's width (R45). -/
def Part.abandonOne (p : Part) (j : Job) (why : FailureReason) : Part :=
  match p.grant j.grant with
  | none => p.dropJob j.id
  | some r =>
    let q := ((p.turnaroundIfStarted j).dropJob j.id).abandonEvents j r.tenant why
    let q :=
      match j.kind with
      | .activate => (q.recordFailure r.tenant j.grant why).freeGrant j.grant none
      | _ => (q.setGrant j.grant (some { r with state := .active })).letGo j.grant r.level none r.covers
    q.reportEnd j false

/-- A job is abandoned, and with it every job that waits on it (R106). Only an ACTIVATE or a MOVE waits,
and nothing waits on one (R104), so one level is the whole of it. -/
def Part.abandon (p : Part) (id : Nat) (why : FailureReason) : Part :=
  match p.job id with
  | none => p
  | some j =>
    (p.engine.jobs.filter fun w => w.after == some id).foldl
      (fun q w => match q.job w.id with
        | some w => q.abandonOne w .preemptLost
        | none => q)
      (p.abandonOne j why)

/-- The slice is a destination carrier slice of the job: of an ACTIVATE's window, of a MOVE's
destination, or of a grow's growth (R118). DESIGN CHOICE (assumption 30): a slice that a restore's DATA MOVE
holds in its origin too (R155) counts as a destination slice here. -/
def Part.bringsIn (p : Part) (j : Job) (n : Nat) : Bool :=
  match j.kind, j.dest with
  | .activate, some d | .move, some d => d.first ≤ n && n < d.first + d.width
  | .resize, some d => (p.grant j.grant).any fun r => r.first + r.width ≤ n && n < d.first + d.width
  | _, _ => false

/-- The job waits or is in SETUP, so its destination has not radiated. -/
def Job.silent (j : Job) : Bool := j.run.all fun r => r.phase == .setup

/-- A QUARANTINE verdict for a slice: the map changes, and every job of which it is a destination
carrier slice in QUEUED or SETUP is abandoned in the same act (R12, R118). -/
def Part.quarantineVerdict (pin : Bool) (p : Part) (n : Nat) : Part :=
  let q := (p.setSlice n ((p.slice n).quarantine pin)).capTest
  (q.engine.jobs.filter fun j => j.silent && q.bringsIn j n).foldl (fun q j => q.abandon j.id .impaired) q

/-- The release of an ACTIVE grant: LEAVING with a RELEASE job. A grant of a phase-A list leaves that
list, and its job takes batch mark A (R52, R54, R153). -/
def Part.releaseActive (p : Part) (g : Nat) : Part :=
  let listed := p.store.batch.any fun b => b.releases.contains g
  let q := p.mapBatch fun b => { b with releases := b.releases.filter (· != g) }
  ((q.enterLeaving g).queueJob g .release none none false (if listed then some .a else none)).1

/-- An ARRIVING grant released in QUEUED or SETUP: its job leaves the list, its record is freed (R116).
A phase-A release counts it as released; for a batch-B job it is a failure (R153, R155). -/
def Part.removeArriving (p : Part) (j : Job) (phaseA : Bool) : Part :=
  let q := ((p.turnaroundIfStarted j).dropJob j.id).freeGrant j.grant none
  if phaseA then q.reportEnd { j with batch := some .a } true else q.reportEnd j false

/-- A release of a grant with a cycle in flight, by its state and phase (R116). `phaseA` is set for a
restore's phase-A release, whose job takes batch mark A (R153). -/
def Part.cutShort (p : Part) (j : Job) (r : Grant) (phaseA : Bool) : Part :=
  let turned : Job := { j with kind := .release, relocation := false, after := none,
                               batch := if phaseA then some .a else j.batch }
  if r.state == .arriving && j.silent then p.removeArriving j phaseA
  else
    let silentTurn := ((p.mapJob j.id fun _ => { turned with dest := none }).enterLeaving j.grant).letGo j.grant r.level none r.covers
    let radiatingTurn := (p.mapJob j.id fun _ =>
      { turned with dest := if r.state == .arriving then none else j.dest }).enterLeaving j.grant
    match j.run with
    | none => silentTurn
    | some run =>
      match run.phase with
      | .setup => silentTurn.beginHold j.id
      | .strobe => radiatingTurn.beginHold j.id
      | .hold => radiatingTurn

/-- A grant is released: an ACTIVE one needs a free job entry and stays as it is without one; a LEAVING
one is left to its cycle (R31, R52, R54, R116). -/
def Part.releaseGrant (p : Part) (g : Nat) (phaseA : Bool) : Part :=
  match p.grant g with
  | none => p
  | some r =>
    match r.state with
    | .leaving => p
    | .active => if p.hasJobEntry then p.releaseActive g else p
    | _ =>
      match p.jobOf g with
      | some j => p.cutShort j r phaseA
      | none => p

end Sys2Proof.Machine
end

