-- ==== Sys2Proof/Machine/LineupOps.lean ====
section
/-! DEFINITION. The Lineup Store's shared operations: the restore plan, its tests, and the batch
(chapter 8). -/

namespace Sys2Proof.Machine

/-! ### The plan (R150) -/

/-- The entry of a lineup for a grant record in use: the place its cycle will give it (R145). -/
def Part.lineupEntry (p : Part) (g : Nat) : Option LineupEntry :=
  match p.grant g with
  | none => none
  | some r =>
    if r.state == .leaving then none
    else
      let place := match r.state, (p.jobOf g).bind (·.dest) with
        | .moving, some d | .resizing, some d => d
        | _, _ => ⟨r.first, r.width⟩
      some ⟨g, r.tenant, p.generation r.tenant, r.cls, r.dir, place.first, place.width, r.floor, r.level⟩

/-- What LINEUP_PUSH saves: the entries in ascending grant id (R145). -/
def Part.lineupEntries (p : Part) : List LineupEntry := (List.range 96).filterMap p.lineupEntry

/-- The entry's tenant is neither EMPTY nor RETIRING and still has the entry's generation; an entry of
any other tenant is skipped (R150, R154). -/
def Part.entryStands (p : Part) (e : LineupEntry) : Bool :=
  ((p.tenant e.tenant).any fun t => t.status != .retiring) && p.generation e.tenant == e.generation

/-- The listed live grant of an entry (R150). -/
def Part.listedGrant (p : Part) (e : LineupEntry) : Option Grant :=
  (p.grant e.grant).filter fun r => r.tenant == e.tenant && r.dir == e.dir && r.state != .leaving

/-- The entry of an item. -/
def BatchItem.entry : BatchItem → LineupEntry
  | .move e | .activate e => e

/-- The slice is a destination slice of the item: a carrier slice, or a VOICE guard (R150). -/
def BatchItem.covers (i : BatchItem) (n : Nat) : Bool :=
  windowCovers i.entry.cls i.entry.first i.entry.width n

/-- A restore plan (R150). -/
structure Plan where
  skipped : Nat
  entries : List LineupEntry
  listed : List LineupEntry
  releases : List Nat
  items : List BatchItem
  levels : List LineupEntry
  deriving DecidableEq, Repr

/-- The MOVE or ACTIVATE item of an entry that is not skipped (R150). -/
def Part.planItem (p : Part) (e : LineupEntry) : Option BatchItem :=
  match p.listedGrant e with
  | some r => if r.first == e.first && r.width == e.width then none else some (.move e)
  | none => some (.activate e)

/-- A level item stands for an entry whose grant agrees in place and width but not in level (R150). -/
def Part.needsLevel (p : Part) (e : LineupEntry) : Bool :=
  (p.listedGrant e).any fun r => r.first == e.first && r.width == e.width && r.level != e.level

/-- The restore plan of a slot's entries (R150). -/
def Part.plan (p : Part) (es : List LineupEntry) : Plan :=
  let standing := es.filter p.entryStands
  let listed := standing.filter fun e => (p.listedGrant e).isSome
  let items := standing.filterMap p.planItem
  let releases := (List.range 96).filter fun g =>
    !(listed.any fun e => e.grant == g) &&
      (p.grant g).any fun r =>
        (standing.any fun e => e.tenant == r.tenant) ||
          (List.range 1024).any fun n => (p.slice n).heldBy g && items.any fun i => i.covers n
  { skipped := es.length - standing.length
    entries := standing
    listed := listed
    releases := releases
    items := items
    levels := standing.filter p.needsLevel }

/-- The slice fails check 5 of R149 for the item (R150). A listed grant's entry places it elsewhere
than on the slice when the entry's window does not cover it. DESIGN CHOICE (assumption 35): a marked slice that
a phase-A grant holds fails, also as one of two guard owners of whom the other stays. -/
def Part.itemFailsAt (p : Part) (plan : Plan) (n : Nat) (i : BatchItem) : Bool :=
  let e := p.slice n
  i.covers n &&
    (e.use == .reserved || e.use == .quarantined || e.use == .crossover ||
      (plan.listed.any fun h =>
        e.heldBy h.grant && h.grant != i.entry.grant && !windowCovers h.cls h.first h.width n) ||
      (e.impaired && plan.releases.any e.heldBy) ||
      (match i with
        | .move m => m.cls != .data && (p.grant m.grant).any fun r => r.covers n
        | .activate _ => false))

/-- The lowest slice index that fails check 5 (R149). -/
def Part.planConflict (p : Part) (plan : Plan) : Option Nat :=
  (List.range 1024).find? fun n => plan.items.any (p.itemFailsAt plan n)

/-- What a forward carrier at an entry's place and level contributes (R151). -/
def Part.entryWeight (p : Part) (e : LineupEntry) : Nat :=
  match e.dir with
  | .ret => 0
  | .forward => p.carrierWeight (e.level.getD 0) ⟨e.first, e.width⟩

/-- The final composite of the power test (R151). -/
def Part.planComposite (p : Part) (plan : Plan) : Nat :=
  let replaced := plan.levels ++ plan.items.filterMap fun | .move e => some e | .activate _ => none
  let added := plan.items.map fun i => p.entryWeight i.entry
  p.composite - (plan.releases.map p.contribution).sum - (replaced.map fun e => p.contribution e.grant).sum
    + (plan.levels.map p.entryWeight).sum + added.sum

/-- The plan would add forward power: a MOVE or ACTIVATE item of a forward grant, or a level item that
raises a level (R151). -/
def Part.planAddsPower (p : Part) (plan : Plan) : Bool :=
  (plan.items.any fun i => i.entry.dir == .forward) ||
    plan.levels.any fun e => (p.grant e.grant).any fun r => r.level.getD 0 < e.level.getD 0

/-- The power test of a restore passes (R151). While OVER_CAP is set it turns on whether the plan adds
forward power (assumption 14). -/
def Part.planPowerOk (p : Part) (plan : Plan) : Bool :=
  if p.level.overCap then !p.planAddsPower plan else p.planComposite plan ≤ p.level.cap

/-- The ACTIVATE items of a plan. -/
def Plan.activations (plan : Plan) : List LineupEntry :=
  plan.items.filterMap fun | .activate e => some e | .move _ => none

/-- Check 7 of R149: the new records fit the pool and every tenant's class limit (R150). -/
def Part.planRecordsOk (p : Part) (plan : Plan) : Bool :=
  plan.activations.length ≤ 96 - p.grantsInUse + plan.releases.length &&
    (List.range 16).all fun t =>
      match p.tenant t with
      | none => true
      | some r =>
        (r.grants.filter fun g => !plan.releases.contains g).length +
          (plan.activations.filter fun e => e.tenant == t).length ≤ classLimit r.cls

/-! ### The batch (8.5) -/

def Part.countDone (p : Part) : Part :=
  p.mapBatch fun b => { b with counts := { b.counts with done := b.counts.done + 1 } }

def Part.countFailed (p : Part) : Part :=
  p.mapBatch fun b => { b with counts := { b.counts with failed := b.counts.failed + 1 } }

/-- The item's grant is ACTIVE, still belongs to the entry's tenant in the entry's direction, and that tenant stands
(R154, R4). DESIGN CHOICE (assumption 40): it is told by its id, so a grant of that tenant and direction that took the
freed record of the planned one counts. -/
def Part.activeFor (p : Part) (e : LineupEntry) : Option Grant :=
  (p.grant e.grant).filter fun r =>
    r.state == .active && r.tenant == e.tenant && r.dir == e.dir && p.entryStands e

/-- A level item is applied: the entry's level, and for DATA its floor width (R150, R154). A decrease is
tested under R100, an increase is put to a fit test first. DESIGN CHOICE (assumption 36): the cap is tested after
each item, as R95 tests a decrease, so OVER_CAP may clear before a later increase of the same act is judged. -/
def Part.applyLevel (p : Part) (e : LineupEntry) : Part :=
  match p.activeFor e with
  | none => p.countFailed
  | some r =>
    let v := e.level.getD 0
    let raises := r.level.getD 0 < v
    let after := p.composite - p.contribution e.grant + p.entryWeight e
    if raises && !p.fits after then p.countFailed
    else
      ((p.setGrant e.grant (some { r with level := some v, floor := if r.cls == .data then e.floor else r.floor })).capTest).countDone

/-- The level item raises its grant's present level. -/
def Part.levelRaises (p : Part) (e : LineupEntry) : Bool :=
  (p.grant e.grant).any fun r => r.level.getD 0 < e.level.getD 0

/-- Phase B begins: the level items are applied in one act, decreases first (R154). -/
def Part.beginPhaseB (p : Part) (levels : List LineupEntry) : Part :=
  let q := p.mapBatch fun b => { b with phase := .b, levels := [] }
  ((levels.filter fun e => !p.levelRaises e) ++ levels.filter p.levelRaises).foldl Part.applyLevel q

/-- The batch ends: its counts become the last batch's, the hold clears, LINEUP_DONE is raised (R155, R157). -/
def Part.endBatch (p : Part) (byReset : Bool) : Part :=
  match p.store.batch with
  | none => p
  | some b =>
    ({ p with
        store := { p.store with batch := none, last := some ⟨b.counts, byReset⟩ }
        alloc := { p.alloc with restoreHold := false } }).raisePlant .lineupDone

/-- A job of this restore phase is in the job list. -/
def Part.hasBatchJob (p : Part) (m : BatchMark) : Bool := p.engine.jobs.any fun j => j.batch == some m

/-- Phase B ends when no item remains to be issued and no batch-B job remains (R155). -/
def Part.settlePhaseB (p : Part) : Part :=
  match p.store.batch with
  | some b => if b.phase == .b && b.items.isEmpty && !p.hasBatchJob .b then p.endBatch false else p
  | none => p

/-- The batch goes on: phase A ends, and phase B begins in the same act, when no phase-A grant and no
phase-A job remains; then phase B may end (R153, R155). -/
def Part.progressBatch (p : Part) : Part :=
  match p.store.batch with
  | none => p
  | some b =>
    if b.phase == .a && b.releases.isEmpty && !p.hasBatchJob .a then (p.beginPhaseB b.levels).settlePhaseB
    else p.settlePhaseB

/-- What comes of taking up an item. -/
inductive ItemOutcome
  | issued (p : Part)
  | failed
  | unfit

/-- Every destination slice of the item lies in the entry's band (R1, R4; DEDUCED, assumption 34) and can be claimed, or
is a present carrier slice of the item's own DATA grant (R154). -/
def Part.itemPlaceOk (p : Part) (e : LineupEntry) (own : Option Grant) : Bool :=
  ((List.range' e.first e.width).all fun n => p.inBand e.dir n &&
    ((p.slice n).available || own.any fun r => r.cls == .data && r.carrier.contains n)) &&
    (guardSlices e.cls e.first).all fun n => p.inBand e.dir n && (p.slice n).guardEligible

/-- A MOVE item is checked again, put to its fit test and issued (R154), for the grant of its direction that now has its
id (assumption 40). -/
def Part.issueMove (p : Part) (e : LineupEntry) : ItemOutcome :=
  match p.activeFor e with
  | none => .failed
  | some r =>
    let dest : Place := ⟨e.first, e.width⟩
    let after := p.composite - p.contribution e.grant +
      p.carriersWeight (e.level.getD 0) [⟨r.first, r.width⟩, dest]
    if !p.itemPlaceOk e (some r) then .failed
    else if r.dir == .forward && !p.fits after then .unfit
    else
      let moving : Grant := { r with state := .moving, level := if r.dir == .forward then e.level else r.level,
                                     floor := if r.cls == .data then e.floor else r.floor }
      .issued (((p.setGrant e.grant (some moving)).queueJob e.grant .move (some dest) none false (some .b)).1.claimWindow
        e.grant r.cls dest)

/-- An ACTIVATE item is checked again, put to its fit test and issued under the lowest free record (R154). -/
def Part.issueActivate (p : Part) (e : LineupEntry) : ItemOutcome :=
  match p.tenant e.tenant, p.lowestFree with
  | some t, some g =>
    let place : Place := ⟨e.first, e.width⟩
    if !p.entryStands e || classLimit t.cls ≤ t.grants.length || !p.itemPlaceOk e none then .failed
    else if e.dir == .forward && !p.fits (p.composite + p.entryWeight e) then .unfit
    else
      let prof := runningProfile e.cls t.maxProfile (p.effectiveSnr t.margin (List.range' e.first e.width))
      let r : Grant := ⟨e.tenant, e.cls, e.dir, e.first, e.width, e.floor, e.level, prof,
        capacityOf e.cls e.width prof, .arriving, false, false⟩
      .issued (((((p.setGrant g (some r)).setTenant e.tenant { t with grants := t.grants ++ [g] }).queueJob g .activate
        (some place) none false (some .b)).1.claimWindow g e.cls place).upkeep g)
  | _, _ => .failed

def Part.issueItem (p : Part) : BatchItem → ItemOutcome
  | .move e => p.issueMove e
  | .activate e => p.issueActivate e

/-- The head item has left: a waiting item that is issued or fails lowers the waiting count (R154). -/
def Batch.dropHead (b : Batch) (rest : List BatchItem) : Batch :=
  { b with items := rest, headWaits := false, retry := false,
           counts := { b.counts with waiting := if b.headWaits then b.counts.waiting - 1 else b.counts.waiting } }

/-- The head item waits for the end of a batch job: the waiting count rises when it begins to (R154). -/
def Batch.waitHead (b : Batch) : Batch :=
  { b with headWaits := true, retry := false,
           counts := { b.counts with waiting := if b.headWaits then b.counts.waiting else b.counts.waiting + 1 } }

/-- The head item may be tried: it does not wait, or a job of the batch has ended since it was last tried (R154). -/
def Batch.headReady (b : Batch) : Bool := !b.headWaits || b.retry

/-- The items are taken up from the head: an item that fails is counted and the next is taken up in the
same act, until one is issued or waits (R154). -/
def Part.takeUpItems : List BatchItem → Part → Part
  | [], p => p
  | i :: rest, p =>
    match p.issueItem i with
    | .issued q => q.mapBatch fun b => b.dropHead rest
    | .failed => Part.takeUpItems rest ((p.mapBatch fun b => b.dropHead rest).countFailed)
    | .unfit =>
      if p.hasBatchJob .a || p.hasBatchJob .b then p.mapBatch Batch.waitHead
      else Part.takeUpItems rest ((p.mapBatch fun b => b.dropHead rest).countFailed)

/-- A grant of the phase-A list is released; an ACTIVE one for which no entry is free stays in the list (R153). -/
def Part.releasePhaseA (p : Part) (g : Nat) : Part :=
  match p.grant g with
  | none => p.mapBatch fun b => { b with releases := b.releases.filter (· != g) }
  | some r =>
    match r.state with
    | .active => if p.hasJobEntry then p.releaseActive g else p
    | .leaving =>
      (match p.jobOf g with
        | some j => p.mapJob j.id fun j => { j with batch := some .a }
        | none => p).mapBatch fun b => { b with releases := b.releases.filter (· != g) }
    | _ => (p.releaseGrant g true).mapBatch fun b => { b with releases := b.releases.filter (· != g) }

/-- A grant that stands in the phase-A list is released. -/
def Part.releaseListed (p : Part) (g : Nat) : Part :=
  if p.store.batch.any fun b => b.releases.contains g then p.releasePhaseA g else p

/-- The grants of the phase-A list are taken in their order. An entry that the removal of one of them frees
goes first to the earlier ones in `taken` that were passed over with the queue full (R153). DESIGN CHOICE (assumption
16): it goes to them before any retire backlog, which R153 and R54 would let take it first. -/
def Part.releaseInOrder : List Nat → List Nat → Part → Part
  | _, [], p => p
  | taken, g :: rest, p =>
    Part.releaseInOrder (taken ++ [g]) rest (taken.foldl Part.releaseListed (p.releaseListed g))

end Sys2Proof.Machine
end

