-- ==== Sys2Proof/Machine/SweepOps.lean ====
section
/-! DEFINITION. The Plant Monitor's shared operations: measurability, the pointer's advance, restarts,
smoothing, counting and verdicts (7.2 to 7.5). -/

namespace Sys2Proof.Machine

/-- A slice is measurable unless it is CROSSOVER or, in QUIET, lies in the forward band (R127). -/
def Part.measurable (p : Part) (n : Nat) : Bool :=
  (p.slice n).use != .crossover && !(p.engine.quiet && p.inForward n)

/-- The first measurable slice of a run of slices. -/
def Part.firstMeasurable (p : Part) (first last : Nat) : Option Nat :=
  (List.range' first (last + 1 - first)).find? p.measurable

/-- The pointer goes to a slice and a dwell of the active length begins on it; with none, the pointer
rests at the window's first slice and the sweep is idle (R126, R128). -/
def Part.dwellOn (p : Part) (slice : Option Nat) : Part :=
  { p with monitor := { p.monitor with
      pointer := slice.getD p.monitor.active.first
      dwell := slice.map fun n => ⟨n, p.monitor.active.dwell⟩ } }

/-- The sweep starts at the first measurable slice of the active window; no SWEEP_DONE (R128, R130, R143). -/
def Part.startSweep (p : Part) : Part :=
  p.dwellOn (p.firstMeasurable p.monitor.active.first p.monitor.active.last)

/-- An idle sweep begins a dwell once a slice of its window is measurable (R128). -/
def Part.resumeSweep (p : Part) : Part := if p.monitor.dwell.isNone then p.startSweep else p

/-- SWEEP_DONE: raised in the PLANT source, and every grant in use that is relocation-pending and not
yet listed is appended to the attempt list, in ascending id (R63, R127). -/
def Part.sweepDone (p : Part) : Part :=
  ((List.range 96).filter fun g => (p.grant g).any (·.relocationPending)).foldl Part.markAttempt
    (p.raisePlant .sweepDone)

/-- The pointer advances from a slice: upward in the active window, wrapping with SWEEP_DONE (R127). -/
def Part.advance (p : Part) (n : Nat) : Part :=
  let w := p.monitor.active
  match p.firstMeasurable (n + 1) w.last with
  | some m => p.dwellOn (some m)
  | none =>
    match p.firstMeasurable w.first w.last with
    | some m => p.sweepDone.dwellOn (some m)
    | none => p.dwellOn none

/-- A restart takes effect: the pending values become active and the pointer goes to the window's
first measurable slice (R130). -/
def Part.restart (p : Part) : Part :=
  ({ p with monitor := { p.monitor with active := p.monitor.waiting, restartWaiting := false } }).startSweep

/-- What follows the end of a dwell on a slice: a waiting restart in place of the advance (R127, R130). -/
def Part.afterDwell (p : Part) (n : Nat) : Part :=
  if p.monitor.restartWaiting then p.restart else p.advance n

/-- The smoothed SNR after an estimate (R131). -/
def smooth (k : Nat) (old : Option Nat) (m : Nat) : Nat :=
  match old with
  | none => m
  | some s => ((s : Int) + ((m : Int) - s) / (2 ^ k : Nat)).toNat

/-- The counting modes (R125). -/
inductive CountingMode
  | crossover | pinned | strike | clear
  deriving DecidableEq, Repr

/-- The mode a map entry puts its slice in (R125). -/
def SliceEntry.mode (e : SliceEntry) : CountingMode :=
  match e.use with
  | .crossover => .crossover
  | u =>
    if u == .quarantined || e.impaired then (if e.pinned then .pinned else .clear) else .strike

def Part.qualityOf (p : Part) (n : Nat) : QualityEntry := p.monitor.quality.getD n ⟨none, none, 0, 0⟩

def Part.setQuality (p : Part) (n : Nat) (q : QualityEntry) : Part :=
  { p with monitor := { p.monitor with quality := p.monitor.quality.set n q } }

/-- Both counts of a slice become 0. -/
def Part.clearCounts (p : Part) (n : Nat) : Part :=
  p.setQuality n { p.qualityOf n with strikes := 0, clears := 0 }

/-- A LIFT verdict from the counting (R13). -/
def Part.liftVerdict (byHost : Bool) (p : Part) (n : Nat) : Part := p.setSlice n ((p.slice n).lift byHost)

/-- An estimate is applied to a slice: smoothing, counting, the verdict of the dwell, and the upkeep of
the grants on the slice. On a CROSSOVER slice it is discarded (R125, R128, R131 to R134, R137). -/
def Part.applyEstimate (p : Part) (n m : Nat) : Part :=
  let e := p.slice n
  let old := p.qualityOf n
  let s := smooth p.monitor.active.shift old.smoothed m
  let strikes := if s < p.monitor.qt then min 15 (old.strikes + 1) else 0
  let clears := if p.monitor.rt ≤ s then min 15 (old.clears + 1) else 0
  let measured : QualityEntry := ⟨some m, some s, 0, 0⟩
  match e.mode with
  | .crossover => p
  | .pinned =>
    let q := p.setQuality n measured
    q.upkeepAll (q.grantsOn (· == n))
  | .strike =>
    let q :=
      if p.monitor.nq ≤ strikes then
        ((p.setQuality n measured).quarantineVerdict false n).raisePlant .quarantineSet
      else p.setQuality n { measured with strikes := strikes }
    q.upkeepAll (q.grantsOn (· == n))
  | .clear =>
    let q :=
      if p.monitor.nr ≤ clears then
        ((p.setQuality n measured).liftVerdict false n).raisePlant .quarantineEnded
      else p.setQuality n { measured with clears := clears }
    q.upkeepAll (q.grantsOn (· == n))

/-- The dwell in progress ends with an estimate: the time left of it passes, the estimate is applied,
and the sweep goes on (R126, R127, R130). With no dwell in progress nothing happens. -/
def Part.endDwell (p : Part) (m : Nat) : Part :=
  match p.monitor.dwell with
  | none => p
  | some d => ((p.elapse d.left).applyEstimate d.slice m).afterDwell d.slice

end Sys2Proof.Machine
end

