-- ==== Sys2Proof/Machine/Layout.lean ====
section
/-! DEFINITION. Frames, codes and record payloads as the part sends them (chapter 11, R159, R166, R181). -/

namespace Sys2Proof.Machine

/-! ### Fields (R180) -/

def byte (n : Nat) : Byte := BitVec.ofNat 8 n

/-- A signed field is a two's-complement byte (R180). -/
def signedByte (v : Int) : Byte := BitVec.ofInt 8 v

/-- Two bytes, most significant first. -/
def be2 (n : Nat) : List Byte := [byte (n / 256), byte n]

/-- Three bytes, most significant first. -/
def be3 (n : Nat) : List Byte := [byte (n / 65536), byte (n / 256), byte n]

/-- Bit `i` of a flag byte. DESIGN CHOICE (assumption 41): a bit of a record's or reply's flag byte that 11.4 does not
name is sent as 0. -/
def boolBit (b : Bool) (i : Nat) : Nat := if b then 2 ^ i else 0

/-- An optional grant id: 0xFF when absent (R181). -/
def optId (g : Option Nat) : Byte := byte (g.getD 255)

def faultByte (f : FaultSet) : Byte := f.setWidth 8

/-- The set that holds OVERFLOW alone, bit 4 (R180). -/
def overflowSet (b : Bool) : Byte := if b then 0x10 else 0

/-! ### Codes (11.3) -/

def Status.code : Status → Nat
  | .done => 0x00
  | .accepted => 0x01
  | .badField => 0x02
  | .badKind => 0x03
  | .noTenant => 0x04
  | .noGrant => 0x05
  | .wrongClass => 0x06
  | .busy => 0x07
  | .full => 0x08
  | .noRecord => 0x09
  | .tagInUse => 0x0A
  | .fit => 0x0B
  | .profile => 0x0C
  | .capacity => 0x0D
  | .power => 0x0E
  | .held => 0x0F
  | .conflict => 0x10
  | .empty => 0x12
  | .overflow => 0x13
  | .gone => 0x14
  | .tooLate => 0x15
  | .notFound => 0x16
  | .cancelled => 0x17
  | .aborted => 0x18
  | .already => 0x19

def classCode : CarrierClass → Nat
  | .data => 0
  | .video => 1
  | .voice => 2

def directionsCode : Directions → Nat
  | .forward => 0
  | .ret => 1
  | .both => 2

def directionCode : Direction → Nat
  | .forward => 0
  | .ret => 1

def scanCode : ScanDirection → Nat
  | .up => 0
  | .down => 1

def polarityCode : Polarity → Nat
  | .high => 0
  | .low => 1

def tenantStateCode : Option TenantRecord → Nat
  | none => 0
  | some r =>
    match r.status with
    | .active => 1
    | .held => 2
    | .retiring => 3

/-- The grant states of 11.3; a GRANT_RELEASE reply reports FREE as 5. -/
def grantStateCode : Option Grant → Nat
  | none => 5
  | some r =>
    match r.state with
    | .arriving => 0
    | .active => 1
    | .moving => 2
    | .resizing => 3
    | .leaving => 4

def jobKindCode : JobKind → Nat
  | .activate => 0
  | .move => 1
  | .resize => 2
  | .release => 3

def phaseCode : Option Run → Nat
  | none => 0
  | some r =>
    match r.phase with
    | .setup => 1
    | .strobe => 2
    | .hold => 3

def failureCode : FailureReason → Nat
  | .impaired => 0
  | .preemptLost => 1
  | .reset => 2

def sliceStateCode : SliceUse → Nat
  | .free => 0
  | .parked _ _ => 1
  | .claimed _ => 2
  | .granted _ => 3
  | .guard _ _ => 4
  | .reserved => 5
  | .quarantined => 6
  | .crossover => 7

def modeCode : CountingMode → Nat
  | .crossover => 0
  | .pinned => 1
  | .strike => 2
  | .clear => 3

/-! ### Frames (11.1) -/

/-- The sum of bytes modulo 65536 (R162, R166). -/
def checkSum (bs : List Byte) : Nat := (bs.map (·.toNat)).sum % 65536

/-- STATUS: the code in bits 6..0, CLAMPED in bit 7 (R181). -/
def Reply.statusByte (r : Reply) : Byte := byte (r.status.code + boolBit r.clamped 7)

/-- A reply frame: SYNC 0x3C, LEN, TAG, the KIND with its top bit set, STATUS, payload, CHECK (R166). -/
def replyFrame (tag kind : Byte) (r : Reply) : List Byte :=
  let body := byte r.payload.length :: tag :: (kind ||| 0x80) :: r.statusByte :: r.payload
  0x3C :: (body ++ be2 (checkSum body))

/-! ### Record payloads (11.4) -/

/-- The tenant record (TENANT_QUERY): an EMPTY tenant's payload ends after the generation. Bits 7 to 2 of the ready
byte are 0 (assumption 41). -/
def Part.tenantPayload (p : Part) (t : Nat) : List Byte :=
  let head := [byte t, byte (tenantStateCode (p.tenant t)), byte (p.generation t)]
  match p.tenant t with
  | none => head
  | some r =>
    head ++ [byte (classCode r.cls), byte (directionsCode r.dirs)] ++ be3 r.committed ++ be3 r.ceiling ++
      [byte r.margin, byte r.maxProfile, signedByte r.defaultLevel, byte (scanCode r.scan)] ++
      be2 r.returnRover ++ be2 r.forwardRover ++
      [byte (polarityCode r.polarity), faultByte r.mask, faultByte r.sticky] ++ be3 (p.delivered t) ++
      [optId (r.lastFailure.map (·.1)), byte ((r.lastFailure.map fun f => failureCode f.2).getD 0),
        byte (boolBit (p.ready.getD t false) 0 + boolBit (p.asserted t) 1), byte r.grants.length] ++
      r.grants.map byte

/-- The grant record (GRANT_QUERY), 25 bytes; bits 7 and 6 of its flags are 0 (assumption 41). -/
def Part.grantPayload (p : Part) (g : Nat) (r : Grant) : List Byte :=
  let j := p.jobOf g
  let voice := r.cls == .voice
  let flags := boolBit r.impaired 0 + boolBit r.relocationPending 1 + boolBit r.level.isSome 2 + boolBit voice 3 +
    boolBit r.floor.isSome 4 + boolBit j.isSome 5
  let dest := j.bind (·.dest)
  [byte g, byte r.tenant, byte (classCode r.cls), byte (directionCode r.dir)] ++ be2 r.first ++
    [byte r.width, byte (r.floor.getD 0), signedByte (r.level.getD 0), byte r.profile] ++ be3 r.capacity ++
    [byte flags] ++ be2 (if voice then r.first - 1 else 0) ++ be2 (if voice then r.first + 1 else 0) ++
    [byte ((j.map (·.id)).getD 0), byte ((j.map fun j => jobKindCode j.kind).getD 0),
      byte ((j.map fun j => phaseCode j.run).getD 0)] ++
    be2 ((dest.map (·.first)).getD 0) ++ [byte ((dest.map (·.width)).getD 0), byte (grantStateCode (some r))]

/-- One map entry (MAP_READ), 6 bytes; bits 7 and 6 of its first byte are 0 (assumption 41). -/
def SliceEntry.payload (e : SliceEntry) : List Byte :=
  let flags := byte (sliceStateCode e.use + boolBit e.impaired 4 + boolBit e.pinned 5)
  match e.use with
  | .parked left fill => [flags, 0xFF, 0xFF] ++ be2 left ++ [signedByte fill]
  | .claimed o | .granted o => [flags, byte o, 0xFF, 0, 0, 0]
  | .guard a b => [flags, byte a, optId b, 0, 0, 0]
  | _ => [flags, 0xFF, 0xFF, 0, 0, 0]

/-- The map entries of a range. -/
def Part.mapPayload (p : Part) (q : RangeFields) : List Byte :=
  be2 q.first ++ [byte q.count] ++ (List.range' q.first q.count).flatMap fun n => (p.slice n).payload

/-- One quality entry (QUALITY_READ), 4 bytes; bits 7 to 5 of its last byte are 0 (assumption 41). -/
def Part.qualityEntryPayload (p : Part) (n : Nat) : List Byte :=
  let q := p.qualityOf n
  let e := p.slice n
  [byte (q.last.getD 0), byte (q.smoothed.getD 0), byte (q.strikes * 16 + q.clears),
    byte (boolBit q.last.isSome 0 + boolBit q.smoothed.isSome 1 + modeCode e.mode * 4 + boolBit e.pinned 4)]

/-- The sweep state, 19 bytes, and the quality entries of a range; the unnamed flag bits are 0 (assumption 41). -/
def Part.qualityPayload (p : Part) (q : RangeFields) : List Byte :=
  let m := p.monitor
  be2 m.active.first ++ be2 m.active.last ++ [byte m.active.dwell, byte m.active.shift] ++
    be2 m.waiting.first ++ be2 m.waiting.last ++ [byte m.waiting.dwell, byte m.waiting.shift] ++
    [byte (boolBit m.restartWaiting 0 + boolBit m.dwell.isSome 1)] ++ be2 m.pointer ++
    [byte m.qt, byte m.rt, byte m.nq, byte m.nr] ++
    be2 q.first ++ [byte q.count] ++ (List.range' q.first q.count).flatMap p.qualityEntryPayload

def BatchCounts.payload (c : BatchCounts) : List Byte :=
  [byte c.released, byte c.done, byte c.failed, byte c.waiting]

/-- A slot's tag and entry count. -/
def Slot.payload : Slot → List Byte
  | .empty => [0, 0]
  | .saved stale _ es => [if stale then 2 else 1, byte es.length]

/-- The lineup status (LINEUP_STATUS), 19 bytes; bits 7 to 4 of the batch flags are 0 (assumption 41). -/
def LineupStore.payload (s : LineupStore) : List Byte :=
  let flags := boolBit s.batch.isSome 0 + boolBit (s.batch.any fun b => b.phase == .b) 1 +
    boolBit s.last.isSome 2 + boolBit (s.last.any (·.byReset)) 3
  byte s.top :: s.slots.flatMap Slot.payload ++ [overflowSet s.overflowMasked, byte flags] ++
    ((s.batch.map Batch.counts).getD ⟨0, 0, 0, 0⟩).payload ++ ((s.last.map LastBatch.counts).getD ⟨0, 0, 0, 0⟩).payload

def Timings.payload (t : Timings) : List Byte :=
  be2 t.setup ++ be2 t.strobeMin ++ be2 t.lockMax ++ be2 t.hold ++ be2 t.turnaround

/-- The plant figures (PLANT_QUERY), 49 bytes; bits 7 to 2 of byte 6 are 0 (assumption 41). -/
def Part.plantPayload (p : Part) : List Byte :=
  be3 p.composite ++ be3 p.level.cap ++
    [byte (boolBit p.level.overCap 0 + boolBit p.engine.quiet 1), byte p.split, byte p.grantsInUse,
      byte p.engine.jobs.length, byte p.placementQueue.length, byte p.level.slope] ++
    be2 p.level.pivot ++ be2 p.level.parkTime ++
    [byte p.level.fillDrop, byte p.level.assumedSnr, overflowSet p.store.overflowMasked] ++
    p.engine.voice.payload ++ p.engine.video.payload ++ p.engine.data.payload

/-- The seventeen sets of EVENTS_READ and EVENTS_MASK, 33 bytes. -/
def eventSetsPayload (tenants : List TenantEventSet) (plant : PlantEventSet) : List Byte :=
  (tenants.flatMap fun s => be2 s.toNat) ++ [plant.setWidth 8]

/-- What an accepted placement tells the host (R82). -/
structure Placed where
  grant : Nat
  place : Place
  level : Option Int
  profile : Nat
  capacity : Nat
  remedies : FaultSet
  jobs : List Nat
  preempted : Option (Nat × Nat)
  deriving DecidableEq, Repr

/-- The ACCEPTED payload of GRANT_ASK, GRANT_MOVE and GRANT_RESIZE, 16 bytes; bits 7 to 2 of its flags are 0
(assumption 41). -/
def Placed.payload (a : Placed) : List Byte :=
  [byte a.grant] ++ be2 a.place.first ++
    [byte a.place.width, byte (boolBit a.level.isSome 0 + boolBit a.preempted.isSome 1), signedByte (a.level.getD 0),
      byte a.profile] ++ be3 a.capacity ++
    [faultByte a.remedies, byte a.jobs.length, optId a.jobs[0]?, optId a.jobs[1]?,
      optId (a.preempted.map (·.1)), byte ((a.preempted.map (·.2)).getD 0)]

/-- A refusal that carries no payload. -/
def refuse (s : Status) : Reply := ⟨s, false, []⟩

/-- A fault refusal carries the set of faults that occurred (R181). -/
def refuseFault (s : Status) (faults : FaultSet) : Reply := ⟨s, false, [faultByte faults]⟩

/-- DONE with a payload and without CLAMPED. -/
def doneWith (payload : List Byte) : Reply := ⟨.done, false, payload⟩

end Sys2Proof.Machine
end

