-- ==== Sys2Proof/Machine/LinkOps.lean ====
section
/-! DEFINITION. The Link Controller's shared operations (chapter 9): the status byte, tags, replies, and
how a request command is served and answered. -/

namespace Sys2Proof.Machine

/-- The outcome of a command or a step. -/
abbrev Result := Host.Outcome State Fault Refusal

/-- The outbound frames plus the replies owed number fewer than 8 (R159, R167). -/
def Link.hasRoom (l : Link) : Bool := l.outbound.length + l.outstanding.length < 8

/-- IN_SPACE (R159). -/
def Link.inSpace (l : Link) : Bool := l.inbound.isEmpty && l.hasRoom

/-- OUT_READY (R159). -/
def Link.outReady (l : Link) : Bool := !l.outbound.isEmpty

/-- The status byte as it stands when select is asserted (R159). -/
def State.statusByte (s : State) : Byte :=
  byte (boolBit s.link.inSpace 0 + boolBit s.link.outReady 1 + boolBit s.part.events.pending 2 +
    boolBit s.link.linkErr 3 + boolBit s.part.engine.quiet 4)

/-- ATN: the outbound queue is not empty, or an enabled event is raised (R160). -/
def State.atn (s : State) : Bool := s.link.outReady || s.part.events.pending

/-- The tag is taken into the outstanding set (R163). -/
def Link.takeTag (l : Link) (tag : Byte) : Link := { l with outstanding := l.outstanding ++ [tag] }

/-- A frame enters the outbound queue. -/
def Link.push (l : Link) (frame : List Byte) : Link := { l with outbound := l.outbound ++ [frame] }

/-- A reply is produced (R164): its frame enters the queue and its tag leaves the outstanding set. For a
detached request, or a tag that is not owed, it is discarded (R167, R168). -/
def Link.produce (l : Link) (detached : Bool) (tag kind : Byte) (r : Reply) : Link :=
  if detached || !l.outstanding.contains tag then l
  else { l.push (replyFrame tag kind r) with outstanding := l.outstanding.erase tag }

/-- How a request command reaches its owner: as the request the Link Controller delivered, with its
detached indication, or as one whose SEND is not shown, whose tag is taken where it is free and there
is room for its reply (R163; assumption 4). -/
def Link.takeIn (l : Link) (cmd : Instr) (tag : Byte) : Link × Bool :=
  match l.delivered.find? fun d => d.command == cmd with
  | some d => ({ l with delivered := l.delivered.erase d }, d.detached)
  | none => if !l.outstanding.contains tag && l.hasRoom then (l.takeTag tag, false) else (l, true)

/-- A request served at its arrival: its owner's effect on the part, the UNDER_COMMIT test of the act
(R37), and its reply (R164, R171). -/
def State.serve (s : State) (cmd : Instr) (tag kind : Byte) (owner : Part → Part × Reply) : Result :=
  let (l, detached) := s.link.takeIn cmd tag
  let (p, r) := owner s.part
  .next { s with link := l.produce detached tag kind r, part := s.part.commitTest p }

/-- A step the part takes without a request. -/
def State.act (s : State) (f : Part → Part) : Result := .next { s with part := s.part.commitTest (f s.part) }

/-- A payload is malformed, or its fields are served (R170). DESIGN CHOICE (assumption 31): a code that is not
listed, a bit that names no member and a bad force option are refused BAD_FIELD with the malformed payloads,
before the owner's own checks (R22's NO_TENANT and GONE among them). -/
def served {α : Type} (q : Payload α) (owner : α → Part → Part × Reply) (p : Part) : Part × Reply :=
  match q with
  | none => (p, refuse .badField)
  | some q => owner q p

/-! ### Transactions (9.1, 9.2) -/

/-- A checked request is acted on by its tag and its KIND (R163). -/
def Link.check (l : Link) (tag kind : Byte) (payload : List Byte) : Link :=
  if l.outstanding.contains tag then l.push (replyFrame tag kind (refuse .tagInUse))
  else
    match requestOf kind tag payload with
    | some cmd => { l.takeTag tag with delivered := l.delivered ++ [⟨cmd, false⟩] }
    | none => l.push (replyFrame tag kind (refuse .badKind))

/-- The bytes of a SEND that is taken fill the inbound slot, are checked, and leave it empty (R161 to R163). -/
def Link.receive (l : Link) (bytes : List Byte) : Link :=
  let filled := { l with inbound := bytes }
  match readFrame filled.inbound with
  | .nothing => { filled with inbound := [] }
  | .discarded => { filled with inbound := [], linkErr := true }
  | .checked tag kind payload => { filled with inbound := [] }.check tag kind payload

/-- One select period: the status byte is sent, LINK_ERR is cleared if it was reported, and the command
byte decides the rest (R158, R159, R161, R165). While the link-reset input stays asserted the period is
ignored and the part sends 0x00 (R168). -/
def State.transaction (s : State) (cmd : Byte) (bytes : List Byte) : Result :=
  if s.link.held then .next { s with link := { s.link with dataOut := List.replicate (bytes.length + 1) 0 } }
  else
    let status := s.statusByte
    let l := { s.link with linkErr := false }
    let quiet := status :: List.replicate bytes.length 0
    if cmd == 0xA5 then
      .next { s with link := { (if s.link.inSpace then l.receive bytes else l) with dataOut := quiet } }
    else if cmd == 0x5A then
      match l.outbound with
      | [] => .next { s with link := { l with dataOut := quiet } }
      | frame :: rest =>
        let sent := (frame ++ List.replicate bytes.length 0).take bytes.length
        .next { s with link := { l with
          outbound := if frame.length ≤ bytes.length then rest else l.outbound
          dataOut := status :: sent } }
    else .next { s with link := { l with dataOut := quiet } }

end Sys2Proof.Machine
end

