-- ==== Sys2Proof/Machine/Cycles.lean ====
section
/-! DEFINITION. The events of the Retune Engine (6.2 to 6.5): the start of a job, the ends of its phases, and
the turnaround timers. Each takes the time that its timer still had left; an event whose channel or
timer does not stand at it changes nothing (assumption 5). -/

namespace Sys2Proof.Machine

/-- A queued job is eligible to start (R105). -/
def Part.eligible (p : Part) (j : Job) : Bool :=
  !p.engine.quiet && j.run.isNone && j.after.isNone &&
    match p.jobTenant j with
    | none => false
    | some t =>
      (p.engine.jobs.all fun k => k.run.isNone || p.jobTenant k != some t) && (p.engine.turnaround.getD t none).isNone

/-- The lowest-numbered free channel (R105). -/
def Part.freeChannel (p : Part) : Option Nat := [0, 1, 2, 3].find? fun c => (p.jobIn c).isNone

/-- The first phase of a job's kind begins (R108). -/
def Part.firstPhase (j : Job) (p : Part) : Part :=
  if j.kind == .release then p.beginHold j.id
  else if p.isShrink j then p.beginStrobe j.id
  else p.beginSetup j.id

/-- A job starts in a channel with copies of its class's timings (R105, R107). -/
def Part.startIn (j : Job) (channel : Nat) (p : Part) : Part :=
  (p.mapJob j.id fun j => { j with run := some ⟨channel, .setup, 0, 0, none, p.engine.timings (p.jobClass j)⟩ }).firstPhase j

/-- The oldest eligible job starts in the lowest-numbered free channel (R105). -/
def Part.startNext (p : Part) : Part :=
  match p.engine.jobs.find? p.eligible, p.freeChannel with
  | some j, some c => (p.startIn j c).progressBatch
  | _, _ => p

/-- `n` starts, one after the other. -/
def Part.startJobs : Nat → Part → Part
  | 0, p => p
  | n + 1, p => p.startNext.startJobs n

/-- While a channel stays free and an eligible job remains, the engine starts the next one in the same act
(R105). A start queues no job, so there are no more starts than jobs. -/
def Part.startJob (p : Part) : Part := p.startJobs p.engine.jobs.length

/-- The job and the run of a channel whose cycle is in a phase that QUIET does not pause. -/
def Part.phaseIn (p : Part) (channel : Nat) (phase : RunPhase) : Option (Job × Run) :=
  if p.engine.quiet then none
  else
    match p.jobIn channel with
    | none => none
    | some j => (j.run.filter fun r => r.phase == phase).map fun r => (j, r)

/-- The copied setup time elapses, and STROBE begins (R109, R110). -/
def Part.endSetup (channel : Nat) (p : Part) : Part :=
  match p.phaseIn channel .setup with
  | none => p
  | some (j, r) => (p.elapse r.left).beginStrobe j.id

/-- The copied strobe minimum elapses, and STROBE ends where the input is asserted or no lock wait runs on (R111). -/
def Part.endStrobeMinimum (channel : Nat) (p : Part) : Part :=
  match p.phaseIn channel .strobe with
  | none => p
  | some (j, r) =>
    let q := p.elapse r.strobeLeft
    if q.strobeSatisfied j (r.elapse r.strobeLeft) then (q.beginHold j.id).progressBatch else q

/-- LOCK_TIMEOUT is raised in the event source of a job's tenant (R111). -/
def Part.raiseTimeout (p : Part) (j : Job) : Part :=
  match p.jobTenant j with
  | none => p
  | some t => p.raise t .lockTimeout

/-- The input is asserted, so STROBE ends with its minimum, which is shorter than the lock wait, or has done
so by the time that has passed: the lock-wait maximum does not run out before that (R111). -/
def Part.lockComesFirst (p : Part) (j : Job) : Bool := (p.jobTenant j).any p.asserted

/-- The copied lock-wait maximum runs out: STROBE ends with LOCK_TIMEOUT, and HOLD begins (R111). -/
def Part.endLockWait (channel : Nat) (p : Part) : Part :=
  match p.phaseIn channel .strobe with
  | none => p
  | some (j, r) =>
    match r.lockLeft with
    | none => p
    | some left =>
      if p.lockComesFirst j then p
      else ((((p.elapse left).raiseTimeout j).beginHold j.id)).progressBatch

/-- HOLD ends, and the cycle reaches DONE (R113, R114). -/
def Part.endHold (channel : Nat) (p : Part) : Part :=
  match p.phaseIn channel .hold with
  | none => p
  | some (j, r) => ((p.elapse r.left).finish j).progressBatch

/-- A turnaround interval runs out (R115). -/
def Part.expireTurnaround (t : Nat) (p : Part) : Part :=
  match p.engine.turnaround.getD t none with
  | none => p
  | some left => (p.elapse left).setTurnaround t none

/-! ### The commands -/

/-- JOB_START: a look for jobs to start (R105). -/
def execJobStart (s : State) : Result := s.act Part.startJob

/-- SETUP_END. -/
def execSetupEnd (channel : Nat) (s : State) : Result := s.act (Part.endSetup channel)

/-- STROBE_MINIMUM_ELAPSED. -/
def execStrobeMinimumElapsed (channel : Nat) (s : State) : Result := s.act (Part.endStrobeMinimum channel)

/-- LOCK_WAIT_TIMEOUT. -/
def execLockWaitTimeout (channel : Nat) (s : State) : Result := s.act (Part.endLockWait channel)

/-- HOLD_END. -/
def execHoldEnd (channel : Nat) (s : State) : Result := s.act (Part.endHold channel)

/-- TURNAROUND_EXPIRY. -/
def execTurnaroundExpiry (t : Nat) (s : State) : Result := s.act (Part.expireTurnaround t)

end Sys2Proof.Machine
end

