-- ==== Sys2Proof/Machine/Checks.lean ====
section
/-! DEFINITION. The checks and the storing of fields that several requests share: clamping (R170), the
tenant checks (R22), slice ranges and the grant checks. -/

namespace Sys2Proof.Machine

/-! ### Clamping (R170) -/

/-- The nearer limit. -/
def clampNat (lo hi v : Nat) : Nat := max lo (min hi v)

/-- A carried numeric field is stored as the nearer limit; a field left out keeps what is stored. -/
def storeNat (lo hi : Nat) (v : Option Nat) (old : Nat) : Nat :=
  match v with
  | none => old
  | some v => clampNat lo hi v

/-- A carried field lies outside its range. -/
def outside (lo hi : Nat) (v : Option Nat) : Bool := v.any fun v => v < lo || hi < v

/-- A level field is brought into −96..+48 (R21). -/
def storeLevel (v : Option Int) (old : Int) : Int :=
  match v with
  | none => old
  | some v => clampLevel v

/-- A level lies in −96..+48. -/
def levelInRange (v : Int) : Bool := -96 ≤ v && v ≤ 48

/-! ### Tenants (R22) -/

/-- The refusal that TENANT_AMEND, FAULT_MASK, FAULT_CLEAR and TENANT_RETIRE draw (R22). -/
def Part.tenantRefusal (p : Part) (t : Nat) : Option Status :=
  if 16 ≤ t then some .badField
  else
    match p.tenant t with
    | none => some .noTenant
    | some r => if r.status == .retiring then some .gone else none

/-- The refusal that GRANT_ASK, GRANT_MOVE, GRANT_RESIZE and GRANT_LEVEL draw (R22). -/
def Part.placementRefusal (p : Part) (t : Nat) : Option Status :=
  if 16 ≤ t then some .badField
  else
    match p.tenant t with
    | none => some .noTenant
    | some r =>
      match r.status with
      | .active => none
      | .held => some .held
      | .retiring => some .gone

/-! ### Slice ranges (R15 to R17, R135, R136, R141) -/

/-- The count lies in 1..most and the range ends at or below slice 1023. -/
def rangeOk (most : Nat) (q : RangeFields) : Bool :=
  1 ≤ q.count && q.count ≤ most && q.first + q.count ≤ 1024

/-- The slices of a range, ascending. -/
def rangeSlices (q : RangeFields) : List Nat := List.range' q.first q.count

end Sys2Proof.Machine
end

