-- ==== Sys2Proof/Machine/EventCommands.lean ====
section
/-! DEFINITION. The Event Unit's requests (10.5). -/

namespace Sys2Proof.Machine

/-- Every raised set is empty (R177). -/
def EventUnit.cleared (u : EventUnit) : EventUnit := { u with raised := u.raised.map fun _ => 0, plantRaised := 0 }

/-- EVENTS_READ (R177): the seventeen raised sets, each cleared of exactly what it returned. -/
def Part.eventsRead (_ : Unit) (p : Part) : Part × Reply :=
  ({ p with events := p.events.cleared }, doneWith (eventSetsPayload p.events.raised p.events.plantRaised))

/-- The enable sets that are carried replace their sources' masks (R178). -/
def storeMasks (q : EventsMaskFields) (u : EventUnit) : EventUnit :=
  { u with
    masks := u.masks.mapIdx fun i m => (q.tenants.getD i none).getD m
    plantMask := q.plant.getD u.plantMask }

/-- EVENTS_MASK (R178). -/
def Part.eventsMask (q : EventsMaskFields) (p : Part) : Part × Reply :=
  let u := storeMasks q p.events
  ({ p with events := u }, doneWith (eventSetsPayload u.masks u.plantMask))

/-- EVENTS_READ. -/
def execEventsRead (tag : Byte) (q : Payload Unit) (s : State) : Result :=
  s.serve (.eventsRead tag q) tag 0x60 (served q Part.eventsRead)

/-- EVENTS_MASK. -/
def execEventsMask (tag : Byte) (q : Payload EventsMaskFields) (s : State) : Result :=
  s.serve (.eventsMask tag q) tag 0x61 (served q Part.eventsMask)

end Sys2Proof.Machine
end

