-- ==== Sys2Proof/Machine/Grants.lean ====
section
/-! DEFINITION. Releasing and reading grants (3.5, 3.6). -/

namespace Sys2Proof.Machine

/-- The grant record is free in the naming of a request, or its id lies outside 0..95 (R52, R55, R94). -/
def Part.grantRefusal (p : Part) (g : Nat) : Option Status :=
  if 96 ≤ g then some .badField
  else
    match p.grant g with
    | none => some .noGrant
    | some _ => none

/-- The grant's tenant is RETIRING (R22). -/
def Part.tenantRetiring (p : Part) (r : Grant) : Bool := (p.tenant r.tenant).any fun t => t.status == .retiring

/-- Checks 1 to 5 of R52: the refusal of a GRANT_RELEASE. -/
def Part.releaseRefusal (p : Part) (g : Nat) : Option Status :=
  match p.grantRefusal g, p.grant g with
  | none, some r =>
    if p.tenantRetiring r then some .gone
    else if r.state == .leaving then some .already
    else if r.state == .active && !p.hasJobEntry then some .full
    else none
  | why, _ => some (why.getD .noGrant)

/-- GRANT_RELEASE (R52). -/
def Part.release (g : Nat) (p : Part) : Part × Reply :=
  match p.releaseRefusal g with
  | some why => (p, refuse why)
  | none =>
    let q := p.releaseGrant g false
    (q.progressBatch, doneWith [byte (grantStateCode (q.grant g))])

/-- GRANT_QUERY (R55). -/
def Part.queryGrant (g : Nat) (p : Part) : Part × Reply :=
  match p.grantRefusal g, p.grant g with
  | none, some r => (p, doneWith (p.grantPayload g r))
  | why, _ => (p, refuse (why.getD .noGrant))

/-- The first ACTIVE grant in a RETIRING tenant's list: the front of its retire backlog (R54). -/
def Part.backlogFront (p : Part) (t : Nat) : Option Nat :=
  match p.tenant t with
  | none => none
  | some r =>
    if r.status == .retiring then r.grants.find? fun g => (p.grant g).any fun x => x.state == .active else none

/-- One tenant's turn in a round: its front backlog grant is released where an entry is free (R54). -/
def Part.backlogTurn (p : Part) (t : Nat) : Part :=
  match p.backlogFront t with
  | some g => p.releaseGrant g false
  | none => p

/-- `n` rounds over the tenants in ascending id; each release takes one of the 24 job entries, so 24
rounds fill the queue or end the backlog (R54). -/
def Part.backlogRounds : Nat → Part → Part
  | 0, p => p
  | n + 1, p => ((List.range 16).foldl Part.backlogTurn p).backlogRounds n

/-- RETIRE_BACKLOG_RELEASE (R54). -/
def Part.releaseBacklog (p : Part) : Part := (Part.backlogRounds 24 p).progressBatch

/-! ### The commands -/

/-- GRANT_RELEASE. -/
def execGrantRelease (tag : Byte) (q : Payload Nat) (s : State) : Result :=
  s.serve (.grantRelease tag q) tag 0x23 (served q Part.release)

/-- GRANT_QUERY. -/
def execGrantQuery (tag : Byte) (q : Payload Nat) (s : State) : Result :=
  s.serve (.grantQuery tag q) tag 0x24 (served q Part.queryGrant)

/-- RETIRE_BACKLOG_RELEASE. -/
def execRetireBacklogRelease (s : State) : Result := s.act Part.releaseBacklog

end Sys2Proof.Machine
end

