-- ==== Sys2Proof/Machine/Levels.lean ====
section
/-! DEFINITION. Changing a grant's level (5.7). -/

namespace Sys2Proof.Machine

/-- The checks of R94. -/
def Part.levelRefusal (p : Part) (q : LevelFields) : Option Status :=
  match p.grantRefusal q.grant, p.grant q.grant with
  | none, some r =>
    match p.placementRefusal r.tenant with
    | some why => some why
    | none =>
      if r.dir == .ret then some .wrongClass
      else if r.state != .active then some .busy
      else if !levelInRange q.level then some .badField
      else none
  | why, _ => some (why.getD .noGrant)

/-- The carrier of a grant fits at a level in place of its present contribution (R92, R95). -/
def Part.levelFits (p : Part) (g : Nat) (r : Grant) (v : Int) : Bool :=
  p.fits (p.composite - p.contribution g + p.carrierWeight v ⟨r.first, r.width⟩)

/-- The levels an increase tries, from `hi` downward to `lo` (R95). -/
def levelsDown (lo hi : Int) : List Int := (List.range ((hi - lo).toNat + 1)).map fun i => hi - i

/-- The level is applied, and a reduction is tested; the reply carries the level and the remedy set (R95, R100). -/
def Part.applyGrantLevel (p : Part) (g : Nat) (v : Int) (remedies : FaultSet) : Part × Reply :=
  ((p.setLevel g v).capTest, doneWith [signedByte v, faultByte remedies])

/-- GRANT_LEVEL (R94, R95). -/
def Part.changeLevel (q : LevelFields) (p : Part) : Part × Reply :=
  match p.levelRefusal q, p.grant q.grant with
  | none, some r =>
    let old := r.level.getD 0
    if q.level ≤ old || p.levelFits q.grant r q.level then p.applyGrantLevel q.grant q.level 0
    else
      let faulted := p.setSticky r.tenant FaultClass.power.bit
      let masked := (p.tenant r.tenant).any fun t => FaultClass.power.maskedBy t.mask
      match (if masked then (levelsDown old q.level).find? (p.levelFits q.grant r) else none) with
      | some v => faulted.applyGrantLevel q.grant v FaultClass.power.bit
      | none => (faulted, refuseFault .power FaultClass.power.bit)
  | why, _ => (p, refuse (why.getD .noGrant))

/-- GRANT_LEVEL. -/
def execGrantLevel (tag : Byte) (q : Payload LevelFields) (s : State) : Result :=
  s.serve (.grantLevel tag q) tag 0x30 (served q Part.changeLevel)

end Sys2Proof.Machine
end

