-- ==== Sys2Proof/Machine/Lineups.lean ====
section
/-! DEFINITION. The Lineup Store's requests and the two steps of a restore batch (chapter 8). -/

namespace Sys2Proof.Machine

/-- The slot of a number. -/
def LineupStore.slot (s : LineupStore) (n : Nat) : Slot := s.slots.getD n .empty

/-- The entry count of a slot, 0 for an EMPTY one (R156). -/
def Slot.entryCount : Slot → Nat
  | .empty => 0
  | .saved _ _ es => es.length

/-- The present arrangement is saved into a slot, and TOP names it (R145, R146). -/
def Part.saveInto (p : Part) (n : Nat) : Part :=
  { p with store := { p.store with top := n, slots := p.store.slots.set n (.saved false p.split p.lineupEntries) } }

/-- LINEUP_PUSH (R146). -/
def Part.lineupPush (_ : Unit) (p : Part) : Part × Reply :=
  let n := (p.store.top + 3) % 4
  let count := byte p.lineupEntries.length
  match p.store.slot n with
  | .empty => (p.saveInto n, doneWith [byte n, count, 0])
  | .saved _ _ _ =>
    if p.store.overflowMasked then (p.saveInto n, doneWith [byte n, count, overflowSet true])
    else (p, ⟨.overflow, false, [overflowSet true]⟩)

/-- LINEUP_ROTATE (R147). -/
def Part.lineupRotate (_ : Unit) (p : Part) : Part × Reply :=
  let n := (p.store.top + 1) % 4
  ({ p with store := { p.store with top := n } }, doneWith [byte n])

/-- LINEUP_DROP (R147). -/
def Part.lineupDrop (n : Nat) (p : Part) : Part × Reply :=
  if 4 ≤ n then (p, refuse .badField)
  else ({ p with store := { p.store with slots := p.store.slots.set n .empty } }, doneWith [])

/-- LINEUP_STATUS (R156). -/
def Part.lineupStatus (_ : Unit) (p : Part) : Part × Reply := (p, doneWith p.store.payload)

/-! ### Popping a lineup (R149 to R152) -/

/-- Some listed live grant is in a cycle (check 4 of R149). -/
def Part.planBusy (p : Part) (plan : Plan) : Bool :=
  plan.listed.any fun e => (p.listedGrant e).any fun r => r.state != .active

/-- The MOVE items of a plan. -/
def Plan.moves (plan : Plan) : List LineupEntry :=
  plan.items.filterMap fun | .move e => some e | .activate _ => none

/-- The payload of an accepted LINEUP_POP (11.4). -/
def Plan.payload (plan : Plan) (slot : Nat) : List Byte :=
  [byte slot, byte plan.skipped, byte plan.releases.length, byte plan.moves.length, byte plan.activations.length,
    byte plan.levels.length]

/-- The batch starts (R152): set up in phase A, the slot emptied, TOP moved on, the hold set, and phase A
begun. -/
def Part.startBatch (p : Part) (plan : Plan) : Part :=
  let started := { p with
    store := { p.store with
      slots := p.store.slots.set p.store.top .empty
      top := (p.store.top + 1) % 4
      batch := some ⟨.a, plan.releases, plan.levels, plan.items, false, false, ⟨0, 0, 0, 0⟩⟩ }
    alloc := { p.alloc with restoreHold := true } }
  (Part.releaseInOrder [] plan.releases started).progressBatch

/-- LINEUP_POP (R149). -/
def Part.lineupPop (_ : Unit) (p : Part) : Part × Reply :=
  match p.store.slot p.store.top with
  | .empty => (p, refuse .empty)
  | .saved _ split es =>
    if p.store.batch.isSome then (p, refuse .busy)
    else if split != p.split then (p, ⟨.conflict, false, [byte split]⟩)
    else
      let plan := p.plan es
      if p.planBusy plan then (p, refuse .busy)
      else
        match p.planConflict plan with
        | some n => (p, ⟨.conflict, false, be2 n⟩)
        | none =>
          if !p.planPowerOk plan then (p, refuse .power)
          else if !p.planRecordsOk plan then (p, refuse .noRecord)
          else (p.startBatch plan, ⟨.accepted, false, plan.payload p.store.top⟩)

/-- PHASE_A_RELEASE (R153): the first grant of the phase-A list is released where an entry is free. -/
def Part.phaseARelease (p : Part) : Part :=
  match p.store.batch with
  | none => p
  | some b =>
    match b.releases with
    | [] => p
    | g :: _ => (p.releasePhaseA g).progressBatch

/-- LINEUP_ITEM_ISSUE (R154): in phase B, with a free job entry, the items are taken up from the head; a
waiting head is tried again only once a job of the batch has ended. -/
def Part.issueHead (p : Part) : Part :=
  match p.store.batch with
  | none => p
  | some b =>
    if b.phase == .b && p.hasJobEntry && b.headReady then (Part.takeUpItems b.items p).progressBatch else p

/-! ### The commands -/

/-- LINEUP_PUSH. -/
def execLineupPush (tag : Byte) (q : Payload Unit) (s : State) : Result :=
  s.serve (.lineupPush tag q) tag 0x50 (served q Part.lineupPush)

/-- LINEUP_POP. -/
def execLineupPop (tag : Byte) (q : Payload Unit) (s : State) : Result :=
  s.serve (.lineupPop tag q) tag 0x51 (served q Part.lineupPop)

/-- PHASE_A_RELEASE. -/
def execPhaseARelease (s : State) : Result := s.act Part.phaseARelease

/-- LINEUP_ITEM_ISSUE. -/
def execLineupItemIssue (s : State) : Result := s.act Part.issueHead

/-- LINEUP_ROTATE. -/
def execLineupRotate (tag : Byte) (q : Payload Unit) (s : State) : Result :=
  s.serve (.lineupRotate tag q) tag 0x52 (served q Part.lineupRotate)

/-- LINEUP_DROP. -/
def execLineupDrop (tag : Byte) (q : Payload Nat) (s : State) : Result :=
  s.serve (.lineupDrop tag q) tag 0x53 (served q Part.lineupDrop)

/-- LINEUP_STATUS. -/
def execLineupStatus (tag : Byte) (q : Payload Unit) (s : State) : Result :=
  s.serve (.lineupStatus tag q) tag 0x54 (served q Part.lineupStatus)

end Sys2Proof.Machine
end

