-- ==== Sys2Proof/Config.lean ====
section
/-! DEFINITION. What the manual leaves open as a value: opaque constants, so that nothing can be
proved of the value. Each is applied to the model's counter `Part.drawn`, which the step advances. -/

namespace Sys2Proof.Config

/-- The profile that the ACCEPTED reply of a GRANT_RESIZE names when the decision selects none: a
same-width resize or a shrink (R80 with R82). UNVERIFIED, a free value; assumption 8. -/
opaque freeReplyProfile : Nat → Nat

/-- The capacity that the same reply names (R80 with R82). UNVERIFIED, a free value; assumption 8. -/
opaque freeReplyCapacity : Nat → Nat

end Sys2Proof.Config
end

