-- ==== Sys2Proof/Machine/Placement.lean ====
section
/-! DEFINITION. The Allocator's placement work (chapter 4): arrival, the take, the fault judgements, asks,
moves, resizes, relocation attempts, the reply in build and CANCEL. -/

namespace Sys2Proof.Machine

/-! ### The fault judgements (4.3) -/

/-- What a decision stands at as its judgements go on: the place, the profile, the level, the grant to
preempt, the faults that occurred, whether the profile is acceptable, and whether the PROFILE remedy
was applied. -/
structure Trial where
  place : Place
  profile : Nat
  level : Option Int
  preempt : Option Nat
  faults : FaultSet
  acceptable : Bool
  remedied : Bool
  deriving DecidableEq, Repr

/-- A judgement refuses with its status and the set of faults that occurred, or goes on (R70). -/
abbrev Judged := Except (Status × FaultSet) Trial

/-- One judgement: a fault that occurs is refused when it is unmasked or its remedy cannot be applied,
and is answered with its remedy otherwise (R70). -/
def judge (f : FaultClass) (mask : FaultSet) (occurs : Bool) (remedy : Option Trial) (t : Trial) : Judged :=
  let faults := t.faults ||| f.bit
  if !occurs then .ok t
  else
    match (if f.maskedBy mask then remedy else none) with
    | some r => .ok { r with faults := faults }
    | none => .error (f.status, faults)

/-- A trial at a place, its profile selected there (R83, R84). -/
def Part.trialAt (p : Part) (t : TenantRecord) (c : Place) (level : Option Int) (preempt : Option Nat) : Trial :=
  ⟨c, p.windowProfile t c.first c.width, level, preempt, 0, p.windowAcceptable t c.first c.width, false⟩

/-- The FIT judgement of an ask or a move, from where the scan ended and, for a DATA ask, pass 3 (R71). -/
def Part.judgeFit (p : Part) (t : TenantRecord) (width : Nat) (level : Option Int) (found : Found)
    (three : Option (Nat × Nat)) : Judged :=
  match found with
  | .fit c d => .ok (p.trialAt t ⟨c, width⟩ level d)
  | .shape c => .ok (p.trialAt t ⟨c, width⟩ level none)
  | .nothing =>
    judge .fit t.mask true (three.map fun (c, w) => p.trialAt t ⟨c, w⟩ level none)
      ⟨⟨0, 0⟩, 0, level, none, 0, false, false⟩

/-- The PROFILE judgement: the remedy takes profile 1, or for VIDEO the fixed profile (R72). -/
def judgeProfile (t : TenantRecord) (x : Trial) : Judged :=
  judge .profile t.mask (!x.acceptable)
    (some { x with profile := if t.cls == .video then t.maxProfile else 1, remedied := true }) x

/-- The profile at a narrower trial width: selected there, or 1 under the PROFILE remedy (R73). -/
def Part.trialProfile (p : Part) (t : TenantRecord) (x : Trial) (width : Nat) : Nat :=
  if x.remedied then x.profile else p.windowProfile t x.place.first width

/-- The largest width from `most` down to `least` at which the tenant's total stays at or below its
ceiling, `counted` being the rest of the total (R73, R81). -/
def Part.narrowed (p : Part) (t : TenantRecord) (x : Trial) (counted least most : Nat) : Option Trial :=
  ((List.range' least (most + 1 - least)).reverse.find? fun w =>
    counted + capacityOf t.cls w (p.trialProfile t x w) ≤ t.ceiling).map fun w =>
      { x with place := ⟨x.place.first, w⟩, profile := p.trialProfile t x w }

/-- The CAPACITY judgement: `counted` is the tenant's capacity but for the carrier placed, `least` the
least width that the DATA remedy may give (R73, R81). -/
def Part.judgeCapacity (p : Part) (t : TenantRecord) (counted least : Nat) (x : Trial) : Judged :=
  judge .capacity t.mask (t.ceiling < counted + capacityOf t.cls x.place.width x.profile)
    (if t.cls == .data then p.narrowed t x counted least (x.place.width - 1) else some x) x

/-- The levels the POWER remedy tries, from one below `l` down to −96 (R74). -/
def lowerLevels (l : Int) : List Int := (List.range (l + 96).toNat).map fun i => l - 1 - i

/-- The POWER judgement of a forward grant: `present` is its contribution now, and `carriers` are what it
counts in its new state (R74, R92, R99). A return grant has no level and is not judged. -/
def Part.judgePower (p : Part) (t : TenantRecord) (present : Nat) (carriers : Trial → List Place) (x : Trial) : Judged :=
  match x.level with
  | none => .ok x
  | some l =>
    let fitsAt := fun v => p.fits (p.composite - present + p.carriersWeight v (carriers x))
    judge .power t.mask (!fitsAt l) (((lowerLevels l).find? fitsAt).map fun v => { x with level := some v }) x

/-- A decision ends: refused with its status, or carried out; its faults are sticky either way (R33, R70). -/
def Part.conclude (p : Part) (tenant : Nat) (j : Judged) (accept : Trial → Part → Part × Placed) : Part × Reply :=
  match j with
  | .error (why, faults) => (p.setSticky tenant faults, refuseFault why faults)
  | .ok x =>
    let (q, a) := accept x p
    (q.setSticky tenant x.faults, ⟨.accepted, false, a.payload⟩)

/-! ### Preemption (R76) -/

/-- The grant D is shrunk to `width`: RESIZING, its RESIZE job queued, PREEMPTED raised. The job's id is
answered (R76). -/
def Part.preempt (p : Part) (d width : Nat) : Part × Nat :=
  match p.grant d with
  | none => (p, 0)
  | some r =>
    let q := (p.setGrant d (some { r with state := .resizing })).queueJob d .resize (some ⟨r.first, width⟩)
    (q.1.raise r.tenant .preempted, q.2)

/-- What a preempting placement does first: D's job id, and D with its width after the shrink (R76, R82). -/
def Part.preemptFor (p : Part) (cls : CarrierClass) (c : Nat) : Option Nat → Part × Option Nat × Option (Nat × Nat)
  | none => (p, none, none)
  | some d =>
    let width := windowBottom cls c - ((p.grant d).map (·.first)).getD 0
    let q := p.preempt d width
    (q.1, some q.2, some (d, width))

/-! ### Asks (4.4) -/

/-- The id joins the tenant's grant list (R28). -/
def Part.enlist (p : Part) (t g : Nat) : Part :=
  match p.tenant t with
  | none => p
  | some r => p.setTenant t { r with grants := r.grants ++ [g] }

/-- The width that a class fixes, or that a DATA ask names (R45). -/
def askWidth (cls : CarrierClass) (q : AskFields) : Nat :=
  match cls with
  | .voice => 1
  | .video => 4
  | .data => q.width.getD 0

/-- The direction of a placement, where its code names one: 0 FORWARD or 1 RETURN (R45, 11.3). -/
def directionOf (code : Byte) : Option Direction :=
  if code == 0 then some .forward else if code == 1 then some .ret else none

/-- The direction is among the tenant's directions (R45). -/
def allowsDirection (dirs : Directions) (d : Direction) : Bool :=
  match dirs, d with
  | .both, _ | .forward, .forward | .ret, .ret => true
  | _, _ => false

/-- The width and floor width of an ask have the shape of its class (R45). -/
def askShapeOk (cls : CarrierClass) (q : AskFields) : Bool :=
  match cls with
  | .data =>
    let w := q.width.getD 0
    2 ≤ w && w ≤ 128 && q.floor.all fun f => 2 ≤ f && f ≤ w
  | _ => q.floor.isNone && q.width.all fun w => w == askWidth cls q

/-- The direction of an ask that passes the checks of R45. -/
def askDirection (t : TenantRecord) (q : AskFields) : Option Direction :=
  (directionOf q.dir).filter fun d =>
    allowsDirection t.dirs d && askShapeOk t.cls q && (d == .forward || q.level.isNone) && q.level.all levelInRange

/-- The floor width of a new grant: a DATA ask without one takes its width (R45). -/
def askFloor (cls : CarrierClass) (q : AskFields) : Option Nat :=
  match cls with
  | .data => some (q.floor.getD (askWidth cls q))
  | _ => none

/-- The level an ask starts from (R46, R75). -/
def askLevel (t : TenantRecord) (d : Direction) (q : AskFields) : Option Int :=
  match d with
  | .forward => some (q.level.getD t.defaultLevel)
  | .ret => none

/-- An accepted ask (R42, R76): the record, the grant list, the jobs, the claim, the flags and the rover. -/
def Part.acceptAsk (tenant : Nat) (t : TenantRecord) (d : Direction) (floor : Option Nat) (g : Nat) (x : Trial)
    (p : Part) : Part × Placed :=
  let capacity := capacityOf t.cls x.place.width x.profile
  let r : Grant := ⟨tenant, t.cls, d, x.place.first, x.place.width, floor, x.level, x.profile, capacity,
    .arriving, false, false⟩
  let (p, after, preempted) := p.preemptFor t.cls x.place.first x.preempt
  let q := ((p.setGrant g (some r)).enlist tenant g).queueJob g .activate (some x.place) after
  let placed := (q.1.claimWindow g t.cls x.place).moveRover tenant d x.place
  (if x.remedied then placed.setFlags g else placed,
    ⟨g, x.place, x.level, x.profile, capacity, x.faults, after.toList ++ [q.2], preempted⟩)

/-- The judgements of an ask (R75). -/
def Part.judgeAsk (p : Part) (tenant : Nat) (t : TenantRecord) (d : Direction) (q : AskFields) : Judged :=
  let width := askWidth t.cls q
  let floor := (askFloor t.cls q).getD width
  let found := p.scan t width none (p.scanOrder t d width)
  let three := if t.cls == .data then p.passThree t d width floor else none
  let counted := p.delivered tenant + p.arrivingCapacity tenant
  do
    let x ← p.judgeFit t width (askLevel t d q) found three
    let x ← judgeProfile t x
    let x ← p.judgeCapacity t counted floor x
    p.judgePower t 0 (fun x => [x.place]) x

/-- The decision on a GRANT_ASK (R75, R76). -/
def Part.decideAsk (q : AskFields) (p : Part) : Part × Reply :=
  match p.placementRefusal q.tenant, p.tenant q.tenant with
  | none, some t =>
    match askDirection t q with
    | none => (p, refuse .badField)
    | some d =>
      match p.lowestFree with
      | none => (p, refuse .noRecord)
      | some g =>
        if classLimit t.cls ≤ t.grants.length then (p, refuse .noRecord)
        else p.conclude q.tenant (p.judgeAsk q.tenant t d q) (Part.acceptAsk q.tenant t d (askFloor t.cls q) g)
  | why, _ => (p, refuse (why.getD .noTenant))

/-! ### Moves (4.5) -/

/-- An accepted move or relocation (R78, R79): the level it leaves, MOVING, the jobs, the claim, the rover. -/
def Part.acceptMove (g : Nat) (r : Grant) (relocation : Bool) (x : Trial) (p : Part) : Part × Placed :=
  let (p, after, preempted) := p.preemptFor r.cls x.place.first x.preempt
  let q := (p.setGrant g (some { r with state := .moving, level := x.level })).queueJob g .move (some x.place) after
    relocation
  let placed := (q.1.claimWindow g r.cls x.place).moveRover r.tenant r.dir x.place
  (if x.remedied then placed.setFlags g else placed,
    ⟨g, x.place, x.level, x.profile, capacityOf r.cls x.place.width x.profile, x.faults, after.toList ++ [q.2],
      preempted⟩)

/-- A target is a candidate position whose window shares no slice with the grant's present place (R78). -/
def Part.targetOk (p : Part) (r : Grant) (c : Nat) : Bool :=
  let (lo, hi) := p.band r.dir
  isCandidate r.cls lo hi r.width c &&
    (List.range 1024).all fun n => !(windowCovers r.cls c r.width n && r.covers n)

/-- Checks 1 to 3 of R78: the refusal of a move or a resize before its own fields are read. -/
def Part.changeRefusal (p : Part) (g : Nat) : Option Status :=
  match p.grantRefusal g, p.grant g with
  | none, some r =>
    match p.placementRefusal r.tenant with
    | some why => some why
    | none => if r.state == .active then none else some .busy
  | why, _ => some (why.getD .noGrant)

/-- The positions a move tries: its target alone, or the scan (R78). -/
def Part.moveOrder (p : Part) (t : TenantRecord) (r : Grant) (target : Option Nat) : List Nat :=
  match target with
  | some c => [c]
  | none => p.scanOrder t r.dir r.width

/-- Both carriers of a move (R74). -/
def movedCarriers (r : Grant) (x : Trial) : List Place := [⟨r.first, r.width⟩, x.place]

/-- The judgements of a move (R78). -/
def Part.judgeMove (p : Part) (g : Nat) (r : Grant) (t : TenantRecord) (target : Option Nat) : Judged := do
  let x ← p.judgeFit t r.width r.level (p.scan t r.width (some r) (p.moveOrder t r target)) none
  let x ← judgeProfile t x
  p.judgePower t (p.contribution g) (movedCarriers r) x

/-- The decision on a GRANT_MOVE (R78). -/
def Part.decideMove (q : MoveFields) (p : Part) : Part × Reply :=
  match p.changeRefusal q.grant, p.grant q.grant with
  | none, some r =>
    match p.tenant r.tenant with
    | none => (p, refuse .noTenant)
    | some t =>
      if !(q.target.all (p.targetOk r)) then (p, refuse .badField)
      else p.conclude r.tenant (p.judgeMove q.grant r t q.target) (Part.acceptMove q.grant r false)
  | why, _ => (p, refuse (why.getD .noGrant))

/-! ### Resizes (4.6) -/

/-- Check 3 of R80: the new width and the floor width that would stand with it. -/
def resizeFieldsOk (r : Grant) (q : ResizeFields) : Bool :=
  2 ≤ q.width && q.width ≤ 128 &&
    match q.floor with
    | some f => 2 ≤ f && f ≤ q.width
    | none => r.floor.getD 0 ≤ q.width

/-- The floor width after an accepted resize (R80). -/
def resizeFloor (r : Grant) (q : ResizeFields) : Option Nat := if q.floor.isSome then q.floor else r.floor

/-- The reply to a resize that selects no profile: its profile and capacity are free values (R80, R82;
assumption 8). -/
def Part.resizedFreely (p : Part) (g : Nat) (r : Grant) (width : Nat) (jobs : List Nat) : Part × Reply :=
  ({ p with drawn := p.drawn + 1 },
    ⟨.accepted, false, (Placed.mk g ⟨r.first, width⟩ r.level (Config.freeReplyProfile p.drawn % 7)
      (Config.freeReplyCapacity p.drawn % 16777216) 0 jobs none).payload⟩)

/-- A resize to the present width: no job (R80). -/
def Part.resizeSame (g : Nat) (r : Grant) (q : ResizeFields) (p : Part) : Part × Reply :=
  (p.setGrant g (some { r with floor := resizeFloor r q })).resizedFreely g r q.width []

/-- A shrink: RESIZING with a RESIZE job (R80). -/
def Part.shrink (g : Nat) (r : Grant) (q : ResizeFields) (p : Part) : Part × Reply :=
  let s := (p.setGrant g (some { r with floor := resizeFloor r q, state := .resizing })).queueJob g .resize
    (some ⟨r.first, q.width⟩)
  s.1.resizedFreely g r q.width [s.2]

/-- The growth slices of a grow to a width (R81). -/
def growthSlices (r : Grant) (width : Nat) : List Nat := List.range' (r.first + r.width) (width - r.width)

/-- The slice lies in the band of a direction and is available. -/
def Part.openIn (p : Part) (d : Direction) (n : Nat) : Bool := p.inBand d n && (p.slice n).available

/-- The least width that a masked remedy may leave a grow: above the present width (R81), and at or above
the floor width that would stand with it (R45; assumption 24). -/
def leastGrown (r : Grant) (q : ResizeFields) : Nat := max (r.width + 1) ((resizeFloor r q).getD 0)

/-- The width a grow reaches over the run of available slices directly above its top slice (R81). -/
def Part.openRun (p : Part) (r : Grant) (width : Nat) : Nat :=
  r.width + ((growthSlices r width).takeWhile (p.openIn r.dir)).length

/-- The FIT judgement of a grow (R81). -/
def Part.judgeGrowFit (p : Part) (r : Grant) (t : TenantRecord) (q : ResizeFields) : Judged :=
  let run := p.openRun r q.width
  judge .fit t.mask (run < q.width)
    (if leastGrown r q ≤ run then some (p.trialAt t ⟨r.first, run⟩ r.level none) else none)
    (p.trialAt t ⟨r.first, q.width⟩ r.level none)

/-- The judgements of a grow (R81). -/
def Part.judgeGrow (p : Part) (g : Nat) (r : Grant) (t : TenantRecord) (q : ResizeFields) : Judged := do
  let counted := p.delivered r.tenant - r.capacity + p.arrivingCapacity r.tenant
  let x ← p.judgeGrowFit r t q
  let x ← judgeProfile t x
  let x ← p.judgeCapacity t counted (leastGrown r q) x
  p.judgePower t (p.contribution g) (fun x => [x.place]) x

/-- An accepted grow (R81). -/
def Part.acceptGrow (g : Nat) (r : Grant) (q : ResizeFields) (x : Trial) (p : Part) : Part × Placed :=
  let s := (p.setGrant g (some { r with floor := resizeFloor r q, state := .resizing, level := x.level })).queueJob g
    .resize (some x.place)
  let placed := s.1.claimWindow g r.cls x.place
  (if x.remedied then placed.setFlags g else placed,
    ⟨g, x.place, x.level, x.profile, capacityOf r.cls x.place.width x.profile, x.faults, [s.2], none⟩)

/-- The decision on a GRANT_RESIZE (R80, R81). -/
def Part.decideResize (q : ResizeFields) (p : Part) : Part × Reply :=
  match p.changeRefusal q.grant, p.grant q.grant with
  | none, some r =>
    match p.tenant r.tenant with
    | none => (p, refuse .noTenant)
    | some t =>
      if r.cls != .data then (p, refuse .wrongClass)
      else if !resizeFieldsOk r q then (p, refuse .badField)
      else if q.width == r.width then p.resizeSame q.grant r q
      else if q.width < r.width then p.shrink q.grant r q
      else p.conclude r.tenant (p.judgeGrow q.grant r t q) (Part.acceptGrow q.grant r q)
  | why, _ => (p, refuse (why.getD .noGrant))

/-! ### Relocation (R63, R79) -/

/-- The conditions under which an entry that is taken becomes an attempt (R63). -/
def Part.attemptable (p : Part) (g : Nat) : Option (Grant × TenantRecord) :=
  match p.grant g with
  | none => none
  | some r =>
    match p.tenant r.tenant with
    | none => none
    | some t =>
      if r.state == .active && r.relocationPending && t.status != .retiring then some (r, t) else none

/-- The power check of a relocation (R79). -/
def Part.relocationFits (p : Part) (g : Nat) (r : Grant) (x : Trial) : Bool :=
  match r.level with
  | none => true
  | some l => p.fits (p.composite - p.contribution g + p.carriersWeight l (movedCarriers r x))

/-- A relocation attempt (R79). -/
def Part.attempt (g : Nat) (p : Part) : Part :=
  match p.attemptable g with
  | none => p
  | some (r, t) =>
    match p.scan t r.width (some r) (p.scanOrder t r.dir r.width) with
    | .fit c d =>
      let x := p.trialAt t ⟨c, r.width⟩ r.level d
      if p.relocationFits g r x then (p.acceptMove g r true x).1 else p.raise r.tenant .relocateFailed
    | _ => p.raise r.tenant .relocateFailed

/-! ### The take (4.1) -/

/-- The four conditions of R59. -/
def Part.mayTake (p : Part) : Bool :=
  !p.alloc.work.isEmpty && p.alloc.reply.isNone && !p.alloc.restoreHold && p.engine.jobs.length ≤ 22

/-- The KIND of a placement request (11.3). -/
def PlacementFields.kind : PlacementFields → Byte
  | .ask _ => 0x20
  | .move _ => 0x21
  | .resize _ => 0x22

/-- The front piece of work leaves. -/
def Part.dropFront (p : Part) : Part := { p with alloc := { p.alloc with work := p.alloc.work.tail } }

/-- The outcome of an item becomes the reply in build (R60). -/
def QueueItem.build (i : QueueItem) (out : Part × Reply) : Part :=
  { out.1 with alloc := { out.1.alloc with reply := some ⟨i.tag, i.fields.kind, out.2, i.detached⟩ } }

/-- The oldest work is a GRANT_ASK and is taken (R59, R60, R75). -/
def Part.takeAsk (p : Part) : Part :=
  match p.alloc.work with
  | .item ⟨tag, .ask q, detached⟩ :: _ =>
    if p.mayTake then QueueItem.build ⟨tag, .ask q, detached⟩ (p.dropFront.decideAsk q) else p
  | _ => p

/-- The oldest work is a GRANT_MOVE and is taken (R59, R60, R78). -/
def Part.takeMove (p : Part) : Part :=
  match p.alloc.work with
  | .item ⟨tag, .move q, detached⟩ :: _ =>
    if p.mayTake then QueueItem.build ⟨tag, .move q, detached⟩ (p.dropFront.decideMove q) else p
  | _ => p

/-- The oldest work is a GRANT_RESIZE and is taken (R59, R60, R80). -/
def Part.takeResize (p : Part) : Part :=
  match p.alloc.work with
  | .item ⟨tag, .resize q, detached⟩ :: _ =>
    if p.mayTake then QueueItem.build ⟨tag, .resize q, detached⟩ (p.dropFront.decideResize q) else p
  | _ => p

/-- The oldest work is an attempt list entry and is taken (R59, R63, R79). -/
def Part.takeAttempt (p : Part) : Part :=
  match p.alloc.work with
  | .attempt g :: _ => if p.mayTake then p.dropFront.attempt g else p
  | _ => p

/-! ### Arrival, the reply in build, and CANCEL -/

/-- An item joins the placement queue (R58). -/
def Part.enqueue (p : Part) (i : QueueItem) : Part := { p with alloc := { p.alloc with work := p.alloc.work ++ [.item i] } }

/-- A placement request arrives: refused BAD_FIELD or FULL at once, or queued with no reply yet (R58). -/
def State.arrive (s : State) (cmd : Instr) (tag kind : Byte) (fields : Option PlacementFields) : Result :=
  let (l, detached) := s.link.takeIn cmd tag
  match fields with
  | none => .next { s with link := l.produce detached tag kind (refuse .badField) }
  | some f =>
    if 8 ≤ s.part.placementQueue.length then .next { s with link := l.produce detached tag kind (refuse .full) }
    else .next { s with link := l, part := s.part.enqueue ⟨tag, f, detached⟩ }

/-- The reply in build enters the outbound queue (R60, R164). -/
def State.deliverBuilt (s : State) : State :=
  match s.part.alloc.reply with
  | none => s
  | some b =>
    { s with
      link := s.link.produce b.detached b.tag b.kind b.reply
      part := { s.part with alloc := { s.part.alloc with reply := none } } }

/-- The work is the undetached queue item of a tag (R61). -/
def Work.carries (tag : Byte) : Work → Bool
  | .item i => i.tag == tag && !i.detached
  | .attempt _ => false

/-- A CANCEL of the tag `named` (R61). DESIGN CHOICE (assumption 29): its CANCELLED reply enters the
outbound queue at once, before the reply still in build of an item taken earlier (R82). -/
def State.withdraw (s : State) (l : Link) (detached : Bool) (tag named : Byte) : State :=
  match s.part.alloc.work.find? (Work.carries named) with
  | some (.item i) =>
    { s with
      link := (l.produce i.detached named i.fields.kind (refuse .cancelled)).produce detached tag 0x25 (doneWith [])
      part := { s.part with alloc := { s.part.alloc with
        work := s.part.alloc.work.filter fun w => !w.carries named } } }
  | _ =>
    let why : Status := if l.outstanding.contains named then .tooLate else .notFound
    { s with link := l.produce detached tag 0x25 (refuse why) }

/-! ### The commands -/

/-- GRANT_ASK. -/
def execGrantAsk (tag : Byte) (q : Payload AskFields) (s : State) : Result :=
  s.arrive (.grantAsk tag q) tag 0x20 (q.map .ask)

/-- GRANT_MOVE. -/
def execGrantMove (tag : Byte) (q : Payload MoveFields) (s : State) : Result :=
  s.arrive (.grantMove tag q) tag 0x21 (q.map .move)

/-- GRANT_RESIZE. -/
def execGrantResize (tag : Byte) (q : Payload ResizeFields) (s : State) : Result :=
  s.arrive (.grantResize tag q) tag 0x22 (q.map .resize)

/-- GRANT_ASK_TAKE. -/
def execGrantAskTake (s : State) : Result := s.act Part.takeAsk

/-- GRANT_MOVE_TAKE. -/
def execGrantMoveTake (s : State) : Result := s.act Part.takeMove

/-- GRANT_RESIZE_TAKE. -/
def execGrantResizeTake (s : State) : Result := s.act Part.takeResize

/-- RELOCATION_ATTEMPT. -/
def execRelocationAttempt (s : State) : Result := s.act Part.takeAttempt

/-- REPLY_BUILT. -/
def execReplyBuilt (s : State) : Result := .next s.deliverBuilt

/-- CANCEL. -/
def execCancel (tag : Byte) (q : Payload Byte) (s : State) : Result :=
  let (l, detached) := s.link.takeIn (.cancel tag q) tag
  match q with
  | none => .next { s with link := l.produce detached tag 0x25 (refuse .badField) }
  | some named => .next (s.withdraw l detached tag named)

end Sys2Proof.Machine
end

