-- ==== Sys2Proof/Machine/LinkCommands.lean ====
section
/-! DEFINITION. The select periods and the link-reset input (chapter 9). -/

namespace Sys2Proof.Machine

/-- A waiting placement item becomes detached (R64, R168). -/
def Work.detach : Work → Work
  | .item i => .item { i with detached := true }
  | .attempt g => .attempt g

/-- LINK_RESET at the link: the slot and the queue are emptied, no tag is outstanding, LINK_ERR is clear,
and every undelivered reply is to be discarded (R168). -/
def Link.reset (l : Link) : Link where
  held := true
  inbound := []
  outbound := []
  outstanding := []
  linkErr := false
  delivered := l.delivered.map fun d => { d with detached := true }
  dataOut := []

/-- The placement items and the reply in build become detached (R64, R168). -/
def Part.detachAll (p : Part) : Part :=
  { p with alloc := { p.alloc with
      work := p.alloc.work.map Work.detach
      reply := p.alloc.reply.map fun b => { b with detached := true } } }

/-! ### The commands -/

/-- SEND: a select period with command byte 0xA5. -/
def execSend (bytes : List Byte) (s : State) : Result := s.transaction 0xA5 bytes

/-- FETCH: a select period with command byte 0x5A; data in is ignored in it (R165). -/
def execFetch (clocks : Nat) (s : State) : Result := s.transaction 0x5A (List.replicate clocks 0)

/-- STATUS_READ: a select period with another command byte (R158). -/
def execStatusRead (cmd : Byte) (clocks : Nat) (s : State) : Result := s.transaction cmd (List.replicate clocks 0)

/-- LINK_RESET. -/
def execLinkReset (s : State) : Result := .next { s with link := s.link.reset, part := s.part.detachAll }

/-- LINK_RESET_RELEASED. -/
def execLinkResetReleased (s : State) : Result := .next { s with link := { s.link with held := false } }

end Sys2Proof.Machine
end

