-- ==== Sys2Proof/Machine/MapCommands.lean ====
section
/-! DEFINITION. Reservation, reading the map, and park expiry (1.5, 1.7, 1.8). -/

namespace Sys2Proof.Machine

/-- A slice that may be reserved: FREE, PARKED or QUARANTINED (R15). -/
def SliceEntry.reservable (e : SliceEntry) : Bool :=
  match e.use with
  | .free | .parked _ _ | .quarantined => true
  | _ => false

/-- A slice becomes RESERVED; from QUARANTINED it carries the impaired mark and keeps its pin (R15). -/
def SliceEntry.reserve (e : SliceEntry) : SliceEntry :=
  match e.use with
  | .quarantined => ⟨.reserved, true, e.pinned⟩
  | _ => ⟨.reserved, false, false⟩

/-- A RESERVED slice leaves reservation: QUARANTINED with its pin where it carries the impaired mark, FREE
otherwise; any other slice is left (R16). -/
def SliceEntry.unreserve (e : SliceEntry) : SliceEntry :=
  match e.use with
  | .reserved => e.released
  | _ => e

/-- Every slice of a range is changed in one act. -/
def Part.mapSlices (p : Part) (f : SliceEntry → SliceEntry) (ns : List Nat) : Part :=
  ns.foldl (fun q n => q.setSlice n (f (q.slice n))) p

/-- SLICE_RESERVE (R15): the fills that end are gone from the composite, and the cap is tested (R100).
DESIGN CHOICE (assumption 28): the three refusals are tested in the order in which R15 lists them, so BUSY
is answered where CONFLICT applies as well. -/
def Part.reserve (q : RangeFields) (p : Part) : Part × Reply :=
  if !rangeOk 64 q then (p, refuse .badField)
  else if p.alloc.restoreHold then (p, refuse .busy)
  else if !((rangeSlices q).all fun n => (p.slice n).reservable) then (p, refuse .conflict)
  else ((p.mapSlices SliceEntry.reserve (rangeSlices q)).capTest, doneWith [])

/-- SLICE_UNRESERVE (R16). -/
def Part.unreserve (q : RangeFields) (p : Part) : Part × Reply :=
  if !rangeOk 64 q then (p, refuse .badField)
  else (p.mapSlices SliceEntry.unreserve (rangeSlices q),
    doneWith [byte ((rangeSlices q).countP fun n => (p.slice n).use == .reserved)])

/-- MAP_READ (R17). -/
def Part.readMap (q : RangeFields) (p : Part) : Part × Reply :=
  if !rangeOk 32 q then (p, refuse .badField) else (p, doneWith (p.mapPayload q))

/-- A park timer expires: the time left of it passes, and the parking ends. A slice that is not PARKED has
no timer (R9, R10). -/
def Part.expirePark (n : Nat) (p : Part) : Part :=
  match (p.slice n).use with
  | .parked left _ => (p.elapse left).endParking n
  | _ => p

/-! ### The commands -/

/-- SLICE_RESERVE. -/
def execSliceReserve (tag : Byte) (q : Payload RangeFields) (s : State) : Result :=
  s.serve (.sliceReserve tag q) tag 0x26 (served q Part.reserve)

/-- SLICE_UNRESERVE. -/
def execSliceUnreserve (tag : Byte) (q : Payload RangeFields) (s : State) : Result :=
  s.serve (.sliceUnreserve tag q) tag 0x27 (served q Part.unreserve)

/-- MAP_READ. -/
def execMapRead (tag : Byte) (q : Payload RangeFields) (s : State) : Result :=
  s.serve (.mapRead tag q) tag 0x28 (served q Part.readMap)

/-- PARK_EXPIRY. -/
def execParkExpiry (n : Nat) (s : State) : Result := s.act (Part.expirePark n)

end Sys2Proof.Machine
end

