-- ==== Sys2Proof/Machine/MonitorCommands.lean ====
section
/-! DEFINITION. The Plant Monitor's requests and events (chapter 7). -/

namespace Sys2Proof.Machine

/-- The release threshold after its own clamp, before it is raised to Qt + 4 (R129). -/
def storedRt (q : SweepFields) (m : Monitor) : Nat := storeNat 4 255 q.rt m.rt

def storedQt (q : SweepFields) (m : Monitor) : Nat := storeNat 0 251 q.qt m.qt

/-- The carried fields are stored: window, dwell and k as pending, thresholds and limits at once (R129). -/
def storeSweep (q : SweepFields) (m : Monitor) : Monitor :=
  let w := q.window.getD (m.waiting.first, m.waiting.last)
  let stored := { m with
    waiting := ⟨w.1, w.2, storeNat 2 255 q.dwell m.waiting.dwell, storeNat 0 4 q.shift m.waiting.shift⟩
    nq := storeNat 1 15 q.nq m.nq
    nr := storeNat 1 15 q.nr m.nr }
  if q.qt.isSome || q.rt.isSome then { stored with qt := storedQt q m, rt := max (storedRt q m) (storedQt q m + 4) }
  else stored

/-- Storing the fields clamps one of them (R129). -/
def sweepClamped (q : SweepFields) (m : Monitor) : Bool :=
  outside 2 255 q.dwell || outside 0 4 q.shift || outside 0 251 q.qt || outside 4 255 q.rt || outside 1 15 q.nq ||
    outside 1 15 q.nr || ((q.qt.isSome || q.rt.isSome) && storedRt q m < storedQt q m + 4)

/-- The pending values and the stored thresholds and limits (11.4). -/
def sweepPayload (m : Monitor) : List Byte :=
  be2 m.waiting.first ++ be2 m.waiting.last ++
    [byte m.waiting.dwell, byte m.waiting.shift, byte m.qt, byte m.rt, byte m.nq, byte m.nr]

/-- SWEEP_SET (R129). -/
def Part.sweepSet (q : SweepFields) (p : Part) : Part × Reply :=
  if !(q.window.all fun w => w.1 ≤ w.2 && w.2 ≤ 1023) then (p, refuse .badField)
  else
    let m := storeSweep q p.monitor
    ({ p with monitor := m }, ⟨.done, sweepClamped q p.monitor, sweepPayload m⟩)

/-- SWEEP_RESTART (R130): at once with no dwell in progress, else at the dwell's end. -/
def Part.sweepRestart (_ : Unit) (p : Part) : Part × Reply :=
  if p.monitor.dwell.isSome then
    ({ p with monitor := { p.monitor with restartWaiting := true } }, doneWith [1])
  else (p.restart, doneWith [0])

/-- SWEEP_RESTART_TAKES_EFFECT (R130): the dwell in progress ends while a restart waits; a restart that
waits with no dwell in progress takes effect at once. -/
def Part.restartTakesEffect (m : Nat) (p : Part) : Part :=
  if !p.monitor.restartWaiting then p
  else if p.monitor.dwell.isSome then (p.endDwell m).progressBatch
  else p.restart

/-- DWELL_END (R126, R131 to R134): a dwell's verdict may end jobs, so the batch goes on. -/
def Part.dwellEnd (m : Nat) (p : Part) : Part := (p.endDwell m).progressBatch

/-- One slice of a QUARANTINE_FORCE (R135). DESIGN CHOICE (assumption 38): its abandonments come before the next
slice takes its verdict. -/
def Part.forceSlice (p : Part) (n : Nat) : Part :=
  if (p.slice n).use == .crossover then p else (p.quarantineVerdict true n).clearCounts n

/-- QUARANTINE_FORCE (R135). -/
def Part.quarantineForce (q : RangeFields) (p : Part) : Part × Reply :=
  if !rangeOk 64 q then (p, refuse .badField)
  else
    let forced := (rangeSlices q).foldl Part.forceSlice p
    let kept := forced.upkeepAll (forced.grantsOn fun n => (rangeSlices q).contains n)
    (kept.progressBatch, doneWith [byte ((rangeSlices q).countP fun n => (p.slice n).use != .crossover)])

/-- One slice of a QUARANTINE_LIFT (R136). -/
def Part.liftSlice (p : Part) (n : Nat) : Part := (p.liftVerdict true n).clearCounts n

/-- QUARANTINE_LIFT (R136). -/
def Part.quarantineLift (q : RangeFields) (p : Part) : Part × Reply :=
  if !rangeOk 64 q then (p, refuse .badField)
  else
    let lifted := (rangeSlices q).foldl Part.liftSlice p
    (lifted.upkeepAll (lifted.grantsOn fun n => (rangeSlices q).contains n),
      doneWith [byte ((rangeSlices q).countP fun n => (p.slice n).lift true != p.slice n)])

/-- QUALITY_READ (R141). -/
def Part.qualityRead (q : RangeFields) (p : Part) : Part × Reply :=
  if !rangeOk 32 q then (p, refuse .badField) else (p, doneWith (p.qualityPayload q))

/-! ### The commands -/

/-- SWEEP_SET. -/
def execSweepSet (tag : Byte) (q : Payload SweepFields) (s : State) : Result :=
  s.serve (.sweepSet tag q) tag 0x40 (served q Part.sweepSet)

/-- SWEEP_RESTART. -/
def execSweepRestart (tag : Byte) (q : Payload Unit) (s : State) : Result :=
  s.serve (.sweepRestart tag q) tag 0x41 (served q Part.sweepRestart)

/-- SWEEP_RESTART_TAKES_EFFECT. -/
def execSweepRestartTakesEffect (m : Byte) (s : State) : Result := s.act (Part.restartTakesEffect m.toNat)

/-- SWEEP_RESUME. -/
def execSweepResume (s : State) : Result := s.act Part.resumeSweep

/-- QUARANTINE_FORCE. -/
def execQuarantineForce (tag : Byte) (q : Payload RangeFields) (s : State) : Result :=
  s.serve (.quarantineForce tag q) tag 0x42 (served q Part.quarantineForce)

/-- QUARANTINE_LIFT. -/
def execQuarantineLift (tag : Byte) (q : Payload RangeFields) (s : State) : Result :=
  s.serve (.quarantineLift tag q) tag 0x43 (served q Part.quarantineLift)

/-- QUALITY_READ. -/
def execQualityRead (tag : Byte) (q : Payload RangeFields) (s : State) : Result :=
  s.serve (.qualityRead tag q) tag 0x44 (served q Part.qualityRead)

/-- DWELL_END. -/
def execDwellEnd (m : Byte) (s : State) : Result := s.act (Part.dwellEnd m.toNat)

end Sys2Proof.Machine
end

