-- ==== Sys2Proof/Machine/Plant.lean ====
section
/-! DEFINITION. The plant-wide requests (10.4) and the power-on reset. -/

namespace Sys2Proof.Machine

/-! ### PLANT_SET (R172) -/

/-- What a change of split makes of a map entry (R2). -/
def SliceEntry.resplit (split n : Nat) (e : SliceEntry) : SliceEntry :=
  if split ≤ n && n < split + 8 then ⟨.crossover, false, false⟩
  else
    match e.use with
    | .crossover => ⟨.free, false, false⟩
    | .parked _ _ => if n < split then ⟨.free, false, false⟩ else e
    | _ => e

/-- The counts of a slice that enters the crossover become 0 (R125). -/
def QualityEntry.resplit (old split n : Nat) (q : QualityEntry) : QualityEntry :=
  if split ≤ n && n < split + 8 && !(old ≤ n && n < old + 8) then { q with strikes := 0, clears := 0 } else q

/-- A defined tenant's rovers go to the bottom slice of each band (R2, R29). -/
def Tenant.resplit (split : Nat) (t : Tenant) : Tenant :=
  { t with record := t.record.map fun r => { r with returnRover := 0, forwardRover := split + 8 } }

/-- The split changes: the map is rebuilt, and an idle sweep may go on (R2, R128). The present split
changes nothing. -/
def Part.changeSplit (split : Nat) (p : Part) : Part :=
  if split == p.split then p
  else
    ({ p with
        split := split
        slices := p.slices.mapIdx fun n (e : SliceEntry) => e.resplit split n
        tenants := p.tenants.map (Tenant.resplit split)
        monitor := { p.monitor with quality := p.monitor.quality.mapIdx fun n (q : QualityEntry) => q.resplit p.split split n } }).resumeSweep

/-- A carried split field brings the change of split (R2). -/
def Part.storeSplit (v : Option Nat) (p : Part) : Part :=
  match v with
  | none => p
  | some v => p.changeSplit (clampNat 24 192 v)

/-- The power fields are stored (R96). -/
def LevelController.store (q : PlantFields) (l : LevelController) : LevelController :=
  { l with
    cap := storeNat 1 4194304 q.cap l.cap
    slope := storeNat 0 32 q.slope l.slope
    pivot := storeNat 0 1023 q.pivot l.pivot
    parkTime := storeNat 0 65535 q.parkTime l.parkTime
    fillDrop := storeNat 0 48 q.fillDrop l.fillDrop
    assumedSnr := storeNat 0 255 q.assumedSnr l.assumedSnr }

/-- The timings of a class are stored (R107). -/
def Timings.store (q : TimingFields) (t : Timings) : Timings where
  setup := storeNat 0 1000 q.setup t.setup
  strobeMin := storeNat 1 1000 q.strobeMin t.strobeMin
  lockMax := storeNat 0 60000 q.lockMax t.lockMax
  hold := storeNat 0 1000 q.hold t.hold
  turnaround := storeNat 0 1000 q.turnaround t.turnaround

/-- A timing field is clamped (R107). -/
def timingClamped (q : TimingFields) : Bool :=
  outside 0 1000 q.setup || outside 1 1000 q.strobeMin || outside 0 60000 q.lockMax || outside 0 1000 q.hold ||
    outside 0 1000 q.turnaround

/-- A field of the request is clamped (R2, R96, R107). -/
def plantClamped (q : PlantFields) : Bool :=
  outside 24 192 q.split || outside 1 4194304 q.cap || outside 0 32 q.slope || outside 0 1023 q.pivot ||
    outside 0 65535 q.parkTime || outside 0 48 q.fillDrop || outside 0 255 q.assumedSnr || timingClamped q.voice ||
    timingClamped q.video || timingClamped q.data

/-- The stored settings of the request but the split (R96, R107, R144). -/
def Part.storePlant (q : PlantFields) (p : Part) : Part :=
  { p with
    level := p.level.store q
    engine := { p.engine with
      voice := p.engine.voice.store q.voice, video := p.engine.video.store q.video, data := p.engine.data.store q.data }
    store := { p.store with overflowMasked := q.overflowMasked.getD p.store.overflowMasked } }

/-- The grants in use with a carrier slice whose smoothed SNR is UNKNOWN, ascending (R97). -/
def Part.unmeasuredGrants (p : Part) : List Nat := p.grantsOn fun n => (p.qualityOf n).smoothed.isNone

/-- Early unparking: PARKED slices end their parking, highest first, while the composite exceeds the cap (R98). -/
def Part.unparkDown (p : Part) : Part :=
  ((List.range 1024).reverse.filter fun n => match (p.slice n).use with | .parked _ _ => true | _ => false).foldl
    (fun q n => if q.level.cap < q.composite then q.endParking n else q) p

/-- The test of R98: OVER_CAP is set where the composite exceeds the cap, and parking ends early. -/
def Part.overCapTest (p : Part) : Part :=
  if p.composite ≤ p.level.cap then p
  else
    (if p.level.overCap then p else { p with level := { p.level with overCap := true } }.raisePlant .overCap).unparkDown

/-- The cap, the tilt slope or the tilt pivot changed (R98). -/
def powerChanged (a b : LevelController) : Bool := a.cap != b.cap || a.slope != b.slope || a.pivot != b.pivot

/-- An accepted PLANT_SET (R172): the split, the stored fields, the recomputation for a new assumed SNR
(R97), then the cap tests (R98, R100). -/
def Part.applyPlant (q : PlantFields) (p : Part) : Part :=
  let a := (p.storeSplit q.split).storePlant q
  let b := if a.level.assumedSnr != p.level.assumedSnr then a.upkeepAll a.unmeasuredGrants else a
  let c := if powerChanged p.level a.level then b.overCapTest else b
  c.capTest

/-- The split may not change: a grant record is in use, or a slice is RESERVED (R2). -/
def Part.splitHeld (p : Part) : Bool := p.grantsInUse != 0 || p.slices.any fun e => e.use == .reserved

/-- PLANT_SET (R172). -/
def Part.plantSet (q : PlantFields) (p : Part) : Part × Reply :=
  if q.split.isSome && p.splitHeld then (p, refuse .busy)
  else
    let r := p.applyPlant q
    (r, ⟨.done, plantClamped q, be3 r.composite ++ [byte (boolBit r.level.overCap 0)]⟩)

/-- PLANT_QUERY (R173). -/
def Part.plantQuery (_ : Unit) (p : Part) : Part × Reply := (p, doneWith p.plantPayload)

/-! ### QUIET (R120, R121, R128, R174) -/

/-- The QUIET flag takes a value. -/
def Part.setQuiet (p : Part) (on : Bool) : Part := { p with engine := { p.engine with quiet := on } }

/-- QUIET_ENTER: the phases pause, and a dwell in progress on a forward slice is discarded (R120, R128). -/
def Part.enterQuiet (_ : Unit) (p : Part) : Part × Reply :=
  if p.engine.quiet then (p, doneWith [1])
  else
    let q := p.setQuiet true
    let r := match q.monitor.dwell with
      | some d => if q.inForward d.slice then q.afterDwell d.slice else q
      | none => q
    (r, doneWith [3])

/-- The cycle of a channel resumes: a SETUP or HOLD with no time left ends, and a STROBE begins its lock
wait afresh (R121). DESIGN CHOICE (assumption 39): so does a STROBE that QUIET paused with nothing left to run, which
R120 has end at the leave. -/
def Part.resumeChannel (p : Part) (channel : Nat) : Part :=
  match p.jobIn channel with
  | none => p
  | some j =>
    match j.run with
    | none => p
    | some r =>
      match r.phase with
      | .setup => if r.left == 0 then p.beginStrobe j.id else p
      | .hold => if r.left == 0 then p.finish j else p
      | .strobe =>
        let fresh := { r with lockLeft := lockWait r.timings.lockMax r.strobeLeft }
        let q := p.mapJob j.id fun j => { j with run := some fresh }
        if q.strobeSatisfied j fresh then q.beginHold j.id else q

/-- QUIET_LEAVE: the cycles resume, channel by channel (assumption 17), an idle sweep goes on, and the engine
looks for jobs to start (R105, R121, R128). DESIGN CHOICE (assumption 37): a phase A that one of the channels ends
passes to phase B after all four have resumed. -/
def Part.leaveQuiet (_ : Unit) (p : Part) : Part × Reply :=
  if !p.engine.quiet then (p, doneWith [0])
  else (([0, 1, 2, 3].foldl Part.resumeChannel (p.setQuiet false)).resumeSweep.progressBatch.startJob, doneWith [2])

/-! ### ENGINE_RESET (R175) -/

/-- The job has reached the phase from which ENGINE_RESET completes it as at DONE (R122). -/
def Job.completesOnReset (j : Job) : Bool :=
  match j.kind with
  | .release => true
  | .activate => !j.silent
  | .move | .resize => j.run.any fun r => r.phase == .hold

/-- The job of an id ends; one already abandoned with the job it waited on is gone (R122, R123). -/
def Part.resetJob (p : Part) (id : Nat) : Part :=
  match p.job id with
  | none => p
  | some j => if j.completesOnReset then p.finishByReset j else p.abandon id .reset

/-- The placement queue and the attempt list are emptied, and the hold is cleared (R64). -/
def Part.resetAlloc (p : Part) : Part := { p with alloc := { p.alloc with work := [], restoreHold := false } }

/-- Every job ends in list order, and every turnaround timer stops (R122, R123). -/
def Part.resetJobs (p : Part) : Part :=
  let q := (p.engine.jobs.map (·.id)).foldl Part.resetJob p
  { q with engine := { q.engine with turnaround := q.engine.turnaround.map fun _ => none } }

/-- What phase B has not issued, its level items included, counts as failed (R157). -/
def BatchCounts.lose (c : BatchCounts) (n : Nat) : BatchCounts := { c with failed := c.failed + n, waiting := 0 }

/-- A running batch is ended (R157). -/
def Part.resetBatch (p : Part) : Part :=
  (p.mapBatch fun b => { b with counts := b.counts.lose (b.items.length + b.levels.length) }).endBatch true

/-- The counts are cleared, the dwell is discarded, and the sweep restarts at the active window (R143). -/
def Part.resetMonitor (p : Part) : Part :=
  ({ p with monitor := { p.monitor with
      quality := p.monitor.quality.map fun (q : QualityEntry) => { q with strikes := 0, clears := 0 }
      restartWaiting := false } }).startSweep

/-- Every raised set is cleared, and RESET_DONE is raised (R175, R179). -/
def Part.resetEvents (p : Part) : Part :=
  ({ p with events := p.events.cleared }).raisePlant .resetDone

/-- The part's side of ENGINE_RESET, in the order of R175. An UNDER_COMMIT of the endings would be
cleared with the raised sets, so its test is not made (R40). -/
def Part.engineReset (p : Part) : Part := p.resetAlloc.resetJobs.resetBatch.resetMonitor.resetEvents

/-- The ABORTED replies of the items that waited, oldest first (R64, R175). -/
def Link.abortAll (items : List QueueItem) (l : Link) : Link :=
  items.foldl (fun l i => l.produce i.detached i.tag i.fields.kind (refuse .aborted)) l

/-! ### The commands -/

/-- PLANT_SET. -/
def execPlantSet (tag : Byte) (q : Payload PlantFields) (s : State) : Result :=
  s.serve (.plantSet tag q) tag 0x70 (served q Part.plantSet)

/-- PLANT_QUERY. -/
def execPlantQuery (tag : Byte) (q : Payload Unit) (s : State) : Result :=
  s.serve (.plantQuery tag q) tag 0x71 (served q Part.plantQuery)

/-- QUIET_ENTER. -/
def execQuietEnter (tag : Byte) (q : Payload Unit) (s : State) : Result :=
  s.serve (.quietEnter tag q) tag 0x72 (served q Part.enterQuiet)

/-- QUIET_LEAVE. -/
def execQuietLeave (tag : Byte) (q : Payload Unit) (s : State) : Result :=
  s.serve (.quietLeave tag q) tag 0x73 (served q Part.leaveQuiet)

/-- ENGINE_RESET. -/
def execEngineReset (tag : Byte) (q : Payload Unit) (s : State) : Result :=
  let (l, detached) := s.link.takeIn (.engineReset tag q) tag
  match q with
  | none => .next { s with link := l.produce detached tag 0x74 (refuse .badField) }
  | some () =>
    let items := s.part.placementQueue
    let payload := [byte items.length, byte s.part.engine.jobs.length]
    .next { s with
      link := (l.abortAll items).produce detached tag 0x74 (doneWith payload)
      part := s.part.engineReset }

/-- POWER_ON (R18 and the power-on clauses of every chapter): everything inside the part takes its
power-on state; the ready inputs and the link-reset input are pins of the outside (assumption 3). -/
def execPowerOn (s : State) : Result :=
  .next { State.reset with
    pending := s.pending
    link := { Link.powerOn with held := s.link.held }
    part := { Part.powerOn with ready := s.part.ready } }

end Sys2Proof.Machine
end

