-- ==== Sys2Proof/Machine/Tenants.lean ====
section
/-! DEFINITION. The Tenant Table's requests and the ready inputs (chapter 2). -/

namespace Sys2Proof.Machine

/-! ### Contract values (R21) -/

/-- The request carries a contract field. -/
def carriesContract (c : ContractFields) : Bool :=
  c.committed.isSome || c.ceiling.isSome || c.margin.isSome || c.maxProfile.isSome || c.defaultLevel.isSome

/-- The max profile after its own clamp, before the VIDEO condition. -/
def storedProfile (c : ContractFields) (r : TenantRecord) : Nat := storeNat 1 6 c.maxProfile r.maxProfile

/-- The committed capacity after its own clamp, before it is lowered to the ceiling. -/
def storedCommitted (c : ContractFields) (r : TenantRecord) : Nat := storeNat 0 16777215 c.committed r.committed

def storedCeiling (c : ContractFields) (r : TenantRecord) : Nat := storeNat 0 16777215 c.ceiling r.ceiling

/-- The carried fields are stored: each clamped, then the two joint conditions (R21, R25). -/
def storeContract (c : ContractFields) (r : TenantRecord) : TenantRecord :=
  let s := { r with scan := c.scan.getD r.scan, polarity := c.polarity.getD r.polarity }
  if carriesContract c then
    { s with
      ceiling := storedCeiling c r
      committed := min (storedCommitted c r) (storedCeiling c r)
      margin := storeNat 0 40 c.margin r.margin
      maxProfile := if r.cls == .video then max 3 (storedProfile c r) else storedProfile c r
      defaultLevel := storeLevel c.defaultLevel r.defaultLevel }
  else s

/-- Storing the fields clamps one of them, singly or jointly (R21). -/
def contractClamped (c : ContractFields) (r : TenantRecord) : Bool :=
  carriesContract c &&
    (outside 0 16777215 c.committed || outside 0 16777215 c.ceiling || outside 0 40 c.margin ||
      outside 1 6 c.maxProfile || (c.defaultLevel.any fun v => !levelInRange v) ||
      (r.cls == .video && storedProfile c r < 3) || storedCeiling c r < storedCommitted c r)

/-! ### Defining and amending -/

/-- The record of a definition before its carried contract fields are stored (R24). -/
def TenantRecord.fresh (q : DefineFields) (split : Nat) : TenantRecord where
  status := .active
  cls := q.cls
  dirs := q.dirs
  committed := 0
  ceiling := 16777215
  margin := 0
  maxProfile := 6
  defaultLevel := 0
  scan := .up
  returnRover := 0
  forwardRover := split + 8
  polarity := .high
  mask := 0
  sticky := 0
  grants := []
  lastFailure := none

/-- TENANT_DEFINE (R21, R23, R24). The Lineup Store is told of the definition (R148). -/
def Part.define (q : DefineFields) (p : Part) : Part × Reply :=
  if 16 ≤ q.tenant || (q.cls == .video && q.dirs != .forward) then (p, refuse .badField)
  else if (p.tenant q.tenant).isSome then (p, refuse .busy)
  else
    let fresh := TenantRecord.fresh q p.split
    let gen := (p.generation q.tenant + 1) % 256
    let defined := { p with tenants := p.tenants.set q.tenant ⟨gen, some (storeContract q.contract fresh)⟩ }
    (defined.markStale q.tenant, ⟨.done, contractClamped q.contract fresh, [byte gen]⟩)

/-- The effects an amend has on grants and cycles (R26). DESIGN CHOICE (assumption 32): the recomputation comes
before the lock wait that a new polarity ends. -/
def Part.amendEffects (t : Nat) (before after : TenantRecord) (p : Part) : Part :=
  let q := if before.margin != after.margin || before.maxProfile != after.maxProfile then p.upkeepAll after.grants
    else p
  if before.polarity != after.polarity then (q.judgeLock t).progressBatch else q

/-- TENANT_AMEND (R21, R25, R26). -/
def Part.amend (q : AmendFields) (p : Part) : Part × Reply :=
  match p.tenantRefusal q.tenant, p.tenant q.tenant with
  | none, some r =>
    let after := storeContract q.contract r
    ((p.setTenant q.tenant after).amendEffects q.tenant r after, ⟨.done, contractClamped q.contract r, []⟩)
  | why, _ => (p, refuse (why.getD .noTenant))

/-! ### Retiring -/

/-- TENANT_RETIRE with the force option clear (R30). -/
def Part.retire (t : Nat) (p : Part) : Part × Reply :=
  match p.tenantRefusal t, p.tenant t with
  | none, some r => if r.grants.isEmpty then (p.completeRetire t, doneWith []) else (p, refuse .busy)
  | why, _ => (p, refuse (why.getD .noTenant))

/-- One release of a forced retire. A grant for which no job entry is free stays in the backlog; where the
release frees an entry of the full queue, the backlogs take it in their rounds (R31, R54). DESIGN CHOICE (assumption
16): they take it before any grant of a phase-A list, which R153 would let take it first. -/
def Part.retireRelease (p : Part) (g : Nat) : Part :=
  let q := p.releaseGrant g false
  if !p.hasJobEntry && q.hasJobEntry then Part.backlogRounds 24 q else q

/-- The releases of a forced retire, in list order (R31). -/
def Part.retireReleases (gs : List Nat) (p : Part) : Part := gs.foldl Part.retireRelease p

/-- TENANT_RETIRE with the force option set (R30, R31). -/
def Part.forceRetire (t : Nat) (p : Part) : Part × Reply :=
  match p.tenantRefusal t, p.tenant t with
  | none, some r =>
    if r.grants.isEmpty then (p.completeRetire t, doneWith [])
    else (((p.setTenant t { r with status := .retiring }).retireReleases r.grants).progressBatch, doneWith [])
  | why, _ => (p, refuse (why.getD .noTenant))

/-! ### Masks and sticky faults (2.9) -/

/-- No class is both unmasked and sticky, so the tenant leaves HELD (R35). -/
def TenantRecord.settle (r : TenantRecord) : TenantRecord :=
  if r.status == .held && r.sticky &&& ~~~r.mask == 0 then { r with status := .active } else r

/-- FAULT_MASK (R34, R35). -/
def Part.faultMask (q : FaultMaskFields) (p : Part) : Part × Reply :=
  match p.tenantRefusal q.tenant, p.tenant q.tenant with
  | none, some r =>
    let holds := r.mask &&& ~~~q.mask &&& r.sticky != 0
    let after := if holds then { r with mask := q.mask, status := .held } else ({ r with mask := q.mask }).settle
    let stored := p.setTenant q.tenant after
    (if holds then stored.raise q.tenant .faultHeld else stored, doneWith [byte (tenantStateCode (some after))])
  | why, _ => (p, refuse (why.getD .noTenant))

/-- FAULT_CLEAR (R35). -/
def Part.faultClear (q : FaultClearFields) (p : Part) : Part × Reply :=
  match p.tenantRefusal q.tenant, p.tenant q.tenant with
  | none, some r =>
    let after := ({ r with sticky := r.sticky &&& ~~~(q.faults.getD 0xF) }).settle
    (p.setTenant q.tenant after, doneWith [byte (tenantStateCode (some after)), faultByte after.sticky])
  | why, _ => (p, refuse (why.getD .noTenant))

/-- TENANT_QUERY (R39). -/
def Part.queryTenant (t : Nat) (p : Part) : Part × Reply :=
  if 16 ≤ t then (p, refuse .badField) else (p, doneWith (p.tenantPayload t))

/-- The raw ready input of a tenant takes a level: a rising edge raises READY_RISE, and a waiting lock is
judged (R26, R27, R111). -/
def Part.readyChange (t : Nat) (level : Bool) (p : Part) : Part :=
  let q := { p with ready := p.ready.set t level }
  let q := if level && !p.ready.getD t false then q.raise t .readyRise else q
  (q.judgeLock t).progressBatch

/-! ### The commands -/

/-- TENANT_DEFINE. -/
def execTenantDefine (tag : Byte) (q : Payload DefineFields) (s : State) : Result :=
  s.serve (.tenantDefine tag q) tag 0x10 (served q Part.define)

/-- TENANT_AMEND. -/
def execTenantAmend (tag : Byte) (q : Payload AmendFields) (s : State) : Result :=
  s.serve (.tenantAmend tag q) tag 0x11 (served q Part.amend)

/-- TENANT_RETIRE. -/
def execTenantRetire (tag : Byte) (q : Payload Nat) (s : State) : Result :=
  s.serve (.tenantRetire tag q) tag 0x12 (served q Part.retire)

/-- TENANT_RETIRE_FORCE. -/
def execTenantRetireForce (tag : Byte) (t : Nat) (s : State) : Result :=
  s.serve (.tenantRetireForce tag t) tag 0x12 (Part.forceRetire t)

/-- TENANT_QUERY. -/
def execTenantQuery (tag : Byte) (q : Payload Nat) (s : State) : Result :=
  s.serve (.tenantQuery tag q) tag 0x13 (served q Part.queryTenant)

/-- FAULT_MASK. -/
def execFaultMask (tag : Byte) (q : Payload FaultMaskFields) (s : State) : Result :=
  s.serve (.faultMask tag q) tag 0x14 (served q Part.faultMask)

/-- FAULT_CLEAR. -/
def execFaultClear (tag : Byte) (q : Payload FaultClearFields) (s : State) : Result :=
  s.serve (.faultClear tag q) tag 0x15 (served q Part.faultClear)

/-- READY_INPUT_CHANGE. -/
def execReadyInputChange (t : Nat) (level : Bool) (s : State) : Result := s.act (Part.readyChange t level)

end Sys2Proof.Machine
end

