-- ==== Sys2Proof/Machine/Dispatch.lean ====
section
/-! DEFINITION. The meaning of each command, one arm for each row of spec/opcode_table.json. -/

namespace Sys2Proof.Machine

def exec (i : Instr) (s : State) : Host.Outcome State Fault Refusal :=
  match i with
  | .powerOn => Sys2Proof.Machine.execPowerOn s
  | .linkReset => Sys2Proof.Machine.execLinkReset s
  | .send bytes => Sys2Proof.Machine.execSend bytes s
  | .fetch clocks => Sys2Proof.Machine.execFetch clocks s
  | .statusRead cmd clocks => Sys2Proof.Machine.execStatusRead cmd clocks s
  | .readyInputChange tenant level => Sys2Proof.Machine.execReadyInputChange tenant level s
  | .tenantDefine tag q => Sys2Proof.Machine.execTenantDefine tag q s
  | .tenantAmend tag q => Sys2Proof.Machine.execTenantAmend tag q s
  | .tenantRetire tag q => Sys2Proof.Machine.execTenantRetire tag q s
  | .tenantRetireForce tag tenant => Sys2Proof.Machine.execTenantRetireForce tag tenant s
  | .tenantQuery tag q => Sys2Proof.Machine.execTenantQuery tag q s
  | .faultMask tag q => Sys2Proof.Machine.execFaultMask tag q s
  | .faultClear tag q => Sys2Proof.Machine.execFaultClear tag q s
  | .grantAsk tag q => Sys2Proof.Machine.execGrantAsk tag q s
  | .grantMove tag q => Sys2Proof.Machine.execGrantMove tag q s
  | .grantResize tag q => Sys2Proof.Machine.execGrantResize tag q s
  | .grantAskTake => Sys2Proof.Machine.execGrantAskTake s
  | .grantMoveTake => Sys2Proof.Machine.execGrantMoveTake s
  | .grantResizeTake => Sys2Proof.Machine.execGrantResizeTake s
  | .relocationAttempt => Sys2Proof.Machine.execRelocationAttempt s
  | .replyBuilt => Sys2Proof.Machine.execReplyBuilt s
  | .grantRelease tag q => Sys2Proof.Machine.execGrantRelease tag q s
  | .grantQuery tag q => Sys2Proof.Machine.execGrantQuery tag q s
  | .cancel tag q => Sys2Proof.Machine.execCancel tag q s
  | .sliceReserve tag q => Sys2Proof.Machine.execSliceReserve tag q s
  | .sliceUnreserve tag q => Sys2Proof.Machine.execSliceUnreserve tag q s
  | .mapRead tag q => Sys2Proof.Machine.execMapRead tag q s
  | .grantLevel tag q => Sys2Proof.Machine.execGrantLevel tag q s
  | .sweepSet tag q => Sys2Proof.Machine.execSweepSet tag q s
  | .sweepRestart tag q => Sys2Proof.Machine.execSweepRestart tag q s
  | .sweepRestartTakesEffect m => Sys2Proof.Machine.execSweepRestartTakesEffect m s
  | .sweepResume => Sys2Proof.Machine.execSweepResume s
  | .quarantineForce tag q => Sys2Proof.Machine.execQuarantineForce tag q s
  | .quarantineLift tag q => Sys2Proof.Machine.execQuarantineLift tag q s
  | .qualityRead tag q => Sys2Proof.Machine.execQualityRead tag q s
  | .lineupPush tag q => Sys2Proof.Machine.execLineupPush tag q s
  | .lineupPop tag q => Sys2Proof.Machine.execLineupPop tag q s
  | .phaseARelease => Sys2Proof.Machine.execPhaseARelease s
  | .lineupItemIssue => Sys2Proof.Machine.execLineupItemIssue s
  | .lineupRotate tag q => Sys2Proof.Machine.execLineupRotate tag q s
  | .lineupDrop tag q => Sys2Proof.Machine.execLineupDrop tag q s
  | .lineupStatus tag q => Sys2Proof.Machine.execLineupStatus tag q s
  | .eventsRead tag q => Sys2Proof.Machine.execEventsRead tag q s
  | .eventsMask tag q => Sys2Proof.Machine.execEventsMask tag q s
  | .plantSet tag q => Sys2Proof.Machine.execPlantSet tag q s
  | .plantQuery tag q => Sys2Proof.Machine.execPlantQuery tag q s
  | .quietEnter tag q => Sys2Proof.Machine.execQuietEnter tag q s
  | .quietLeave tag q => Sys2Proof.Machine.execQuietLeave tag q s
  | .engineReset tag q => Sys2Proof.Machine.execEngineReset tag q s
  | .jobStart => Sys2Proof.Machine.execJobStart s
  | .setupEnd channel => Sys2Proof.Machine.execSetupEnd channel s
  | .strobeMinimumElapsed channel => Sys2Proof.Machine.execStrobeMinimumElapsed channel s
  | .lockWaitTimeout channel => Sys2Proof.Machine.execLockWaitTimeout channel s
  | .holdEnd channel => Sys2Proof.Machine.execHoldEnd channel s
  | .retireBacklogRelease => Sys2Proof.Machine.execRetireBacklogRelease s
  | .turnaroundExpiry tenant => Sys2Proof.Machine.execTurnaroundExpiry tenant s
  | .parkExpiry slice => Sys2Proof.Machine.execParkExpiry slice s
  | .dwellEnd m => Sys2Proof.Machine.execDwellEnd m s
  | .linkResetReleased => Sys2Proof.Machine.execLinkResetReleased s

end Sys2Proof.Machine
end

