-- ==== Sys2Proof/Machine/Step.lean ====
section
/-! DEFINITION. One step of the block: the command at the front of the queue is carried out, and with none
waiting a millisecond passes. -/

namespace Sys2Proof.Machine

/-- One step. A waiting command is taken from the front of the queue. With none waiting, one millisecond
passes on every running timer (DESIGN CHOICE, assumption 5). -/
def step (s : State) : Host.Outcome State Fault Refusal :=
  match s.pending with
  | [] => .next { s with part := s.part.elapse 1 }
  | c :: rest => exec c { s with pending := rest }

/-- The state with the command that a word spells put in front; the opcode table gives no row any bits, so
no word spells one, and the state is unchanged. -/
def State.withFetchWord (s : State) (nbits w : Nat) : State :=
  match decodeTableWord nbits w with
  | some c => { s with pending := c :: s.pending }
  | none => s

end Sys2Proof.Machine
end

