-- ==== Sys2Proof/Safety.lean ====
section
/-! DEFINITION. What counts as a safe state of the part, and the vocabulary in which statements speak of a
request that awaits its service and of its answer. -/

namespace Sys2Proof.Machine

/-! ### The tables keep their sizes -/

/-- Every table of the part has the number of entries the manual gives it (R3, R20, R41, R115, R125, R144, R176). -/
abbrev Part.shaped (p : Part) : Prop :=
  p.ready.length = 16 ∧ p.tenants.length = 16 ∧ p.slices.length = 1024 ∧ p.grants.length = 96 ∧
    p.engine.turnaround.length = 16 ∧ p.monitor.quality.length = 1024 ∧ p.events.raised.length = 16 ∧
    p.events.masks.length = 16 ∧ p.store.slots.length = 4

/-! ### The map -/

/-- A map entry carries marks only where its state may, and two guard owners are distinct (R3). -/
def SliceEntry.sound (e : SliceEntry) : Bool :=
  match e.use with
  | .claimed _ | .granted _ | .guard _ none | .reserved => !e.pinned || e.impaired
  | .guard a (some b) => a != b && (!e.pinned || e.impaired)
  | .quarantined => !e.impaired
  | _ => !e.impaired && !e.pinned

/-- Every map entry is sound, and the crossover slices s..s+7 are the ones in state CROSSOVER (R1, R3). -/
abbrev Part.mapped (p : Part) : Prop :=
  ∀ n, n < 1024 → (p.slice n).sound = true ∧ ((p.slice n).use = .crossover ↔ p.split ≤ n ∧ n < p.split + 8)

/-- A slice on which a verdict sets or clears the marks and leaves the state (R12, R13). -/
def SliceEntry.keepsState (e : SliceEntry) : Bool :=
  match e.use with
  | .claimed _ | .granted _ | .guard _ _ | .reserved => true
  | _ => false

/-! ### Upkeep -/

/-- The carrier of a grant at a place is judged bad: one of its slices carries the impaired mark, or its
effective SNR does not support its profile (R138). -/
def Part.placeBad (p : Part) (cls : CarrierClass) (t : TenantRecord) (c : Place) : Bool :=
  (List.range' c.first c.width).any (fun n => (p.slice n).impaired) ||
    !profileAcceptable cls t.maxProfile (p.effectiveSnr t.margin (List.range' c.first c.width))

/-- The profile of a grant at a place (R83, R84). -/
def Part.placeProfile (p : Part) (cls : CarrierClass) (t : TenantRecord) (c : Place) : Nat :=
  runningProfile cls t.maxProfile (p.effectiveSnr t.margin (List.range' c.first c.width))

/-- The record that upkeep leaves at a profile and a judgement: both flags turn with the judgement, and where
the judgement is as it was the relocation-pending flag stays (R137 to R139). -/
def Grant.judged (r : Grant) (profile : Nat) (bad : Bool) : Grant :=
  { r with
    profile := profile
    capacity := capacityOf r.cls r.width profile
    impaired := bad
    relocationPending := if bad = r.impaired then r.relocationPending else bad }

/-! ### The settings stay in their ranges -/

/-- The five timings of a class lie in their ranges (R107). -/
abbrev Timings.inRange (t : Timings) : Prop :=
  t.setup ≤ 1000 ∧ 1 ≤ t.strobeMin ∧ t.strobeMin ≤ 1000 ∧ t.lockMax ≤ 60000 ∧ t.hold ≤ 1000 ∧ t.turnaround ≤ 1000

/-- The stored power fields lie in their ranges (R96). -/
abbrev LevelController.inRange (l : LevelController) : Prop :=
  1 ≤ l.cap ∧ l.cap ≤ 4194304 ∧ l.slope ≤ 32 ∧ l.pivot ≤ 1023 ∧ l.parkTime ≤ 65535 ∧ l.fillDrop ≤ 48 ∧
    l.assumedSnr ≤ 255

/-- A sweep's window, dwell and smoothing shift lie in their ranges (R129). -/
abbrev SweepSettings.inRange (w : SweepSettings) : Prop :=
  w.first ≤ w.last ∧ w.last ≤ 1023 ∧ 2 ≤ w.dwell ∧ w.dwell ≤ 255 ∧ w.shift ≤ 4

/-- The sweep settings, thresholds and limits lie in their ranges (R129). -/
abbrev Monitor.inRange (m : Monitor) : Prop :=
  m.active.inRange ∧ m.waiting.inRange ∧ m.qt + 4 ≤ m.rt ∧ m.rt ≤ 255 ∧ 1 ≤ m.nq ∧ m.nq ≤ 15 ∧ 1 ≤ m.nr ∧ m.nr ≤ 15

/-- The last measurement and the smoothed SNR are steps 0..255 and the counts run from 0 to 15 (R125). -/
abbrev QualityEntry.inRange (q : QualityEntry) : Prop :=
  (∀ m ∈ q.last, m ≤ 255) ∧ (∀ m ∈ q.smoothed, m ≤ 255) ∧ q.strikes ≤ 15 ∧ q.clears ≤ 15

/-- Every stored setting of the plant lies in its range (R1, R96, R107, R129, R144), and so do the quality
entries (R125) and the next-id counter (R103). -/
abbrev Part.inRange (p : Part) : Prop :=
  24 ≤ p.split ∧ p.split ≤ 192 ∧ p.level.inRange ∧ p.engine.voice.inRange ∧ p.engine.video.inRange ∧
    p.engine.data.inRange ∧ p.monitor.inRange ∧ p.store.top < 4 ∧ (∀ q ∈ p.monitor.quality, q.inRange) ∧
    p.engine.nextId < 256

/-! ### The link's accounts -/

/-- The outbound frames plus the replies owed never exceed 8, and no tag is owed twice (R163, R167). -/
abbrev Link.accounted (l : Link) : Prop := l.outbound.length + l.outstanding.length ≤ 8 ∧ l.outstanding.Nodup

/-- The inbound slot is empty between transactions (R161). -/
abbrev Link.settled (l : Link) : Prop := l.inbound = []

/-! ### The job list -/

/-- The job list holds at most 24 jobs (R102). -/
abbrev Part.jobsBounded (p : Part) : Prop := p.engine.jobs.length ≤ 24

/-! ### Claims -/

/-- The slices of a window stand claimed for a grant in `u`, and every other slice as in `p` (R5): the
carrier slices CLAIMED, the VOICE guards GUARD. -/
def Part.claimedSince (p u : Part) (g : Nat) (cls : CarrierClass) (c : Place) : Prop :=
  (∀ n, c.first ≤ n → n < c.first + c.width → u.slice n = ⟨.claimed g, false, false⟩) ∧
    (cls = .voice → ∀ n, n + 1 = c.first ∨ n = c.first + 1 →
      ((p.slice n).available = true → u.slice n = ⟨.guard g none, false, false⟩) ∧
        ∀ a, (p.slice n).use = .guard a none → a ≠ g → u.slice n = { p.slice n with use := .guard a (some g) }) ∧
    ∀ n, windowCovers cls c.first c.width n = false → u.slice n = p.slice n

/-- What a grant holds outside `keep` has been let go since `p`, its carrier at `level`, and every other slice stands as
in `p` (R7, R93). The cap is tested as the carrier leaves, and the slices go in ascending order: a CLAIMED slice and a
GUARD of one owner is FREE, or QUARANTINED where it is marked, and a GUARD of two goes to the other owner. So is a
GRANTED slice, but that an unmarked forward one is PARKED where its fill fits beside the fills below it. -/
def Part.letGoSince (p u : Part) (g : Nat) (level : Option Int) (keep : Nat → Bool) : Prop :=
  let free : SliceEntry := ⟨.free, false, false⟩
  let parked : SliceEntry := ⟨.parked p.level.parkTime (max (-96) (level.getD 0 - p.level.fillDrop)), false, false⟩
  let upTo := fun (n : Nat) (e : List SliceEntry) => ({ p with
    grants := u.grants, engine := u.engine, slices := u.slices.take n ++ e ++ p.slices.drop (n + e.length) } : Part)
  let cleared := p.level.overCap = true ∧ (upTo 0 []).composite ≤ p.level.cap
  let fits := fun n => (p.level.overCap = false ∨ cleared) ∧ (upTo n [parked]).composite ≤ p.level.cap
  (u.level.overCap = true ↔ p.level.overCap = true ∧ ¬cleared) ∧
    (∀ n, (p.slice n).heldBy g = false ∨ keep n = true → u.slice n = p.slice n) ∧
    ∀ n, keep n = false →
      let e := p.slice n
      let bad : SliceEntry := ⟨.quarantined, false, e.pinned⟩
      (e.use = .claimed g ∨ e.use = .guard g none → u.slice n = if e.impaired then bad else free) ∧
        (e.use = .granted g → e.impaired = true → u.slice n = bad) ∧
        (e.use = .granted g → e.impaired = false → n < p.split → u.slice n = free) ∧
        (e.use = .granted g → e.impaired = false → p.split ≤ n →
          (p.level.parkTime ≠ 0 ∧ fits n → u.slice n = parked) ∧ (¬(p.level.parkTime ≠ 0 ∧ fits n) → u.slice n = free)) ∧
        (∀ h, e.use = .guard g (some h) → u.slice n = { e with use := .guard h none }) ∧
        ∀ h, h ≠ g → e.use = .guard h (some g) → u.slice n = { e with use := .guard h none }

/-- The job that a queuing appends, under the id that it takes (R103, R104). -/
def Part.newJob (p : Part) (g : Nat) (kind : JobKind) (dest : Option Place) : Job :=
  ⟨firstFreeId p.engine.jobs p.engine.nextId, g, kind, kind, dest, none, false, none, none⟩

/-- The Retune Engine with one more job, the next-id counter moved on (R103). -/
def Engine.withJob (e : Engine) (j : Job) : Engine := { e with jobs := e.jobs ++ [j], nextId := (j.id + 1) % 256 }

/-! ### Requests and their answers -/

/-- A request has been delivered to its owner and awaits its service: its tag is owed, and every delivered
request that this command serves is undetached (R163). -/
abbrev State.awaits (s : State) (cmd : Instr) (tag : Byte) : Prop :=
  tag ∈ s.link.outstanding ∧ (⟨cmd, false⟩ : Delivered) ∈ s.link.delivered ∧
    ∀ d ∈ s.link.delivered, d.command = cmd → d.detached = false

/-- The link once a delivered request has been answered: the request gone from what is delivered, its tag
no longer owed, its frame at the end of the outbound queue (R164). -/
def Link.answered (l : Link) (cmd : Instr) (tag kind : Byte) (r : Reply) : Link :=
  { l with
    delivered := l.delivered.erase ⟨cmd, false⟩
    outstanding := l.outstanding.erase tag
    outbound := l.outbound ++ [replyFrame tag kind r] }

/-- The link once a delivered request has been taken in with no reply yet (R58). -/
def Link.withdrawn (l : Link) (cmd : Instr) : Link := { l with delivered := l.delivered.erase ⟨cmd, false⟩ }

/-- The request of a command answered, the part otherwise as `p`. -/
def State.answers (s : State) (cmd : Instr) (tag kind : Byte) (r : Reply) (p : Part) : State :=
  { s with link := s.link.answered cmd tag kind r, part := p }

/-- The bytes of a request frame (R162, R166): SYNC 0xC3, LEN, TAG, KIND, payload, CHECK. -/
def requestFrame (tag kind : Byte) (payload : List Byte) : List Byte :=
  let body := byte payload.length :: tag :: kind :: payload
  0xC3 :: (body ++ be2 (checkSum body))

end Sys2Proof.Machine
end

