-- ==== Sys2Proof/Certificates/Slice0/Obligations.lean ====
section
/-! DEFINITION. The statements for the provers: each is a claim about the part, from the manual's rules. -/

open Sys2Proof Sys2Proof.Machine

/-! ### The machine -/

/-- With commands waiting, one step is the front command on the rest of the queue. With none, one millisecond passes
(the model's choice, assumption 5): park timers, turnaround timers and the dwell count down, the phases outside
QUIET too, and nothing else changes. -/
def Obligations.StepTakesFrontCommand : Prop :=
  ∀ s : State,
    (∀ (c : Instr) (rest : List Instr), s.pending = c :: rest → step s = exec c { s with pending := rest }) ∧
    (s.pending = [] → ∃ u, step s = .next { s with part := u } ∧
      u = { s.part with
        slices := u.slices
        engine := { s.part.engine with jobs := u.engine.jobs, turnaround := u.engine.turnaround }
        monitor := { s.part.monitor with
          dwell := s.part.monitor.dwell.map fun d => { d with left := d.left - 1 } } } ∧
      u.slices.length = s.part.slices.length ∧
      (∀ n left fill, (s.part.slice n).use = .parked left fill →
        u.slice n = { s.part.slice n with use := .parked (left - 1) fill }) ∧
      (∀ n, (∀ left fill, (s.part.slice n).use ≠ .parked left fill) → u.slice n = s.part.slice n) ∧
      (∀ t, u.engine.turnaround.getD t none = (s.part.engine.turnaround.getD t none).map (· - 1)) ∧
      (s.part.engine.quiet = true → u.engine.jobs = s.part.engine.jobs) ∧
      (s.part.engine.quiet = false → u.engine.jobs = s.part.engine.jobs.map fun j => { j with run := j.run.map fun r =>
        if r.phase = .strobe then { r with strobeLeft := r.strobeLeft - 1, lockLeft := r.lockLeft.map (· - 1) }
        else { r with left := r.left - 1 } }))

/-- Every command answers a next state, and leaves the queue of waiting commands alone. -/
def Obligations.EveryCommandCompletes : Prop :=
  ∀ (c : Instr) (s : State), ∃ t, exec c s = .next t ∧ t.pending = s.pending

/-- The state after power-on has the values the manual states, block by block, and meets every invariant stated here;
POWER_ON gives every block that state, the pins and the waiting commands being the outside's (assumption 3). -/
def Obligations.PowerOnState : Prop :=
  let p := State.reset.part
  let l := State.reset.link
  (p.split = 64 ∧ (∀ n, n < 1024 → (p.slice n).impaired = false ∧ (p.slice n).pinned = false ∧
      (p.slice n).use = if 64 ≤ n ∧ n < 72 then .crossover else .free) ∧
    p.composite = 0 ∧ (∀ t, t < 16 → p.tenant t = none ∧ p.generation t = 0) ∧ (∀ g, p.grant g = none) ∧
    p.alloc = ⟨[], none, false⟩ ∧ p.level = ⟨262144, 0, 512, 10000, 24, 120, false⟩) ∧
  (p.engine.jobs = [] ∧ p.engine.nextId = 0 ∧ p.engine.quiet = false ∧
    (∀ t, p.engine.turnaround.getD t none = none) ∧ p.engine.voice = ⟨20, 20, 500, 20, 50⟩ ∧
    p.engine.video = ⟨50, 100, 2000, 50, 100⟩ ∧ p.engine.data = ⟨100, 200, 5000, 100, 200⟩) ∧
  (p.monitor.active = ⟨0, 1023, 8, 2⟩ ∧ p.monitor.waiting = ⟨0, 1023, 8, 2⟩ ∧ p.monitor.pointer = 0 ∧
    p.monitor.dwell = some ⟨0, 8⟩ ∧ p.monitor.restartWaiting = false ∧
    p.monitor.qt = 60 ∧ p.monitor.rt = 80 ∧ p.monitor.nq = 3 ∧ p.monitor.nr = 5 ∧
    ∀ n, p.qualityOf n = ⟨none, none, 0, 0⟩) ∧
  ((∀ n, p.store.slot n = .empty) ∧ p.store.top = 0 ∧ p.store.overflowMasked = false ∧ p.store.batch = none ∧
    p.store.last = none ∧ (∀ t, p.events.raised.getD t 0 = 0) ∧ p.events.plantRaised = 0 ∧
    (∀ t, t < 16 → p.events.masks.getD t 0 = 0b1011111111#10) ∧ p.events.plantMask = 0b1101111#7) ∧
  (l.inbound = [] ∧ l.outbound = [] ∧ l.outstanding = [] ∧ l.linkErr = false ∧ l.delivered = [] ∧
    State.reset.atn = false) ∧
  (p.shaped ∧ p.mapped ∧ p.inRange ∧ p.jobsBounded ∧ l.accounted ∧ l.settled) ∧
  ∀ s : State, exec .powerOn s = .next ⟨s.pending, { l with held := s.link.held }, { p with ready := s.part.ready }⟩

/-- Every table keeps its size over every step, and the job list never outgrows its 24 entries; a job's id is the
first free one counting upward from the counter, so no job in the list holds it. -/
def Obligations.TablesKeepTheirSizes : Prop :=
  (∀ s t : State, step s = .next t →
    (s.part.shaped → t.part.shaped) ∧ (s.part.jobsBounded → t.part.jobsBounded)) ∧
  ∀ (js : List Job) (start : Nat), js.length ≤ 24 → start < 256 →
    (∀ j ∈ js, j.id ≠ firstFreeId js start) ∧ firstFreeId js start < 256 ∧
      ∃ k, k < 256 ∧ firstFreeId js start = (start + k) % 256 ∧ ∀ i, i < k → ∃ j ∈ js, j.id = (start + i) % 256

/-- The map keeps its form over every step: every entry carries marks only where its state may, two guard owners are
distinct, and the slices s..s+7 of the split s are the ones in state CROSSOVER. -/
def Obligations.MapKeepsItsForm : Prop :=
  ∀ s t : State, s.part.shaped → s.part.mapped → step s = .next t → t.part.mapped

/-- Every stored setting stays in its range over every step, and so do the quality entries and the next-id
counter. -/
def Obligations.SettingsStayInRange : Prop :=
  ∀ s t : State, s.part.inRange → step s = .next t → t.part.inRange

/-- The link's accounts and its empty slot are kept by every step. -/
def Obligations.LinkAccountsKept : Prop :=
  ∀ s t : State, s.link.accounted → s.link.settled → step s = .next t → t.link.accounted ∧ t.link.settled

/-- Only QUIET_ENTER, QUIET_LEAVE and POWER_ON change the QUIET flag, and only PLANT_SET and POWER_ON the split. -/
def Obligations.QuietAndSplitAreGuarded : Prop :=
  ∀ (c : Instr) (s t : State), exec c s = .next t →
    ((∀ tag q, c ≠ .quietEnter tag q ∧ c ≠ .quietLeave tag q) → c ≠ .powerOn → t.part.engine.quiet = s.part.engine.quiet) ∧
      ((∀ tag q, c ≠ .plantSet tag q) → c ≠ .powerOn → t.part.split = s.part.split)

/-! ### The link -/

/-- The status byte carries its five flags in bits 0 to 4, and 0 above. A status read sends it and then 0x00, and
clears a reported LINK_ERR and nothing else. A FETCH sends the oldest frame, which leaves the queue exactly when it
has been sent whole. -/
def Obligations.StatusReadAndFetchReport : Prop :=
  (∀ s : State,
    ((s.statusByte.getLsbD 0 = true) ↔ s.link.inbound = [] ∧ s.link.outbound.length + s.link.outstanding.length < 8) ∧
      ((s.statusByte.getLsbD 1 = true) ↔ s.link.outbound ≠ []) ∧
      (s.statusByte.getLsbD 2 = s.part.events.pending) ∧ (s.statusByte.getLsbD 3 = s.link.linkErr) ∧
      (s.statusByte.getLsbD 4 = s.part.engine.quiet) ∧ s.statusByte.toNat < 32 ∧
      ∀ (cmd : Byte) (n : Nat), s.link.held = false → cmd ≠ 0xA5 → cmd ≠ 0x5A →
        exec (.statusRead cmd n) s = .next { s with
          link := { s.link with linkErr := false, dataOut := s.statusByte :: List.replicate n 0 } }) ∧
  ∀ (n : Nat) (s : State), s.link.held = false →
    ∃ t, exec (.fetch n) s = .next t ∧ t.part = s.part ∧ t.link.linkErr = false ∧
      t.link = { s.link with linkErr := false, outbound := t.link.outbound, dataOut := t.link.dataOut } ∧
      (s.link.outbound = [] → t.link.outbound = [] ∧ t.link.dataOut = s.statusByte :: List.replicate n 0) ∧
      ∀ frame rest, s.link.outbound = frame :: rest →
        (frame.length ≤ n → t.link.outbound = rest ∧
          t.link.dataOut = s.statusByte :: (frame ++ List.replicate (n - frame.length) 0)) ∧
        (n < frame.length → t.link.outbound = s.link.outbound ∧ t.link.dataOut = s.statusByte :: frame.take n)

/-- A SEND that is taken discards a frame with a wrong SYNC, a wrong LEN, too few bytes or a wrong CHECK. -/
def Obligations.SendDiscardsBadFrames : Prop :=
  ∀ (bytes : List Byte) (s : State), s.link.held = false → s.link.inSpace = true →
    ((∃ b rest, bytes = b :: rest ∧ b ≠ 0xC3) ∨ (∃ len rest, bytes = 0xC3 :: len :: rest ∧ 250 < len.toNat) ∨
      bytes = [0xC3] ∨ (∃ len rest, bytes = 0xC3 :: len :: rest ∧ len.toNat ≤ 250 ∧ rest.length < len.toNat + 4) ∨
      (∃ len tag kind payload hi lo rest, bytes = 0xC3 :: len :: tag :: kind :: (payload ++ hi :: lo :: rest) ∧
        len.toNat ≤ 250 ∧ payload.length = len.toNat ∧
        hi.toNat * 256 + lo.toNat ≠
          (len.toNat + tag.toNat + kind.toNat + (payload.map (·.toNat)).sum) % 65536)) →
    exec (.send bytes) s = .next { s with link := { s.link with
      inbound := [], linkErr := true, dataOut := s.statusByte :: List.replicate bytes.length 0 } }

/-- A SEND that is taken checks a well-made frame: a free tag is taken and its request delivered, an unknown
KIND is answered BAD_KIND, an owed tag TAG_IN_USE; bytes after the frame are ignored. A SEND without
IN_SPACE, or with no frame bytes, takes nothing. -/
def Obligations.SendTakesRequests : Prop :=
  ∀ (tag kind : Byte) (payload extra : List Byte) (s : State), s.link.held = false → payload.length ≤ 250 →
    let bytes := requestFrame tag kind payload ++ extra
    let sent := { s.link with
      linkErr := false, dataOut := s.statusByte :: List.replicate bytes.length 0 }
    (s.link.inSpace = false → exec (.send bytes) s = .next { s with link := sent }) ∧
    (s.link.inSpace = true →
      (tag ∈ s.link.outstanding → exec (.send bytes) s =
        .next { s with link := { sent with outbound := s.link.outbound ++ [replyFrame tag kind (refuse .tagInUse)] } }) ∧
      (tag ∉ s.link.outstanding →
        (requestOf kind tag payload = none → exec (.send bytes) s =
          .next { s with link := { sent with outbound := s.link.outbound ++ [replyFrame tag kind (refuse .badKind)] } }) ∧
        ∀ cmd, requestOf kind tag payload = some cmd → exec (.send bytes) s =
          .next { s with link := { sent with
            outstanding := s.link.outstanding ++ [tag], delivered := s.link.delivered ++ [⟨cmd, false⟩] } })) ∧
    exec (.send []) s = .next { s with link := { s.link with
      inbound := s.link.inbound, linkErr := false, dataOut := [s.statusByte] } }

/-- LINK_RESET empties the link's accounts, detaches every undelivered reply and touches nothing else. While the
input stays asserted every select period is ignored, the part sending 0x00 (the model's choice, assumption 6); its
release lets transactions begin again. -/
def Obligations.LinkResetClearsTheLink : Prop :=
  ∀ s : State,
    (∃ t, exec .linkReset s = .next t ∧ t.link.held = true ∧ t.link.inbound = [] ∧ t.link.outbound = [] ∧
      t.link.outstanding = [] ∧ t.link.linkErr = false ∧ (∀ d ∈ t.link.delivered, d.detached = true) ∧
      t.link.delivered.map (·.command) = s.link.delivered.map (·.command) ∧
      t.part = { s.part with alloc := t.part.alloc } ∧ t.part.alloc.restoreHold = s.part.alloc.restoreHold ∧
      t.part.attemptList = s.part.attemptList ∧ (∀ i ∈ t.part.placementQueue, i.detached = true) ∧
      t.part.placementQueue.map (fun i => (i.tag, i.fields)) = s.part.placementQueue.map (fun i => (i.tag, i.fields)) ∧
      t.part.alloc.reply = s.part.alloc.reply.map fun b => { b with detached := true }) ∧
    (s.link.held = true → ∀ (cmd : Byte) (bytes : List Byte) (n : Nat),
      exec (.send bytes) s =
          .next { s with link := { s.link with dataOut := List.replicate (bytes.length + 1) 0 } } ∧
        exec (.fetch n) s = .next { s with link := { s.link with dataOut := List.replicate (n + 1) 0 } } ∧
        exec (.statusRead cmd n) s = .next { s with link := { s.link with dataOut := List.replicate (n + 1) 0 } }) ∧
    exec .linkResetReleased s = .next { s with link := { s.link with held := false } }

/-- CANCEL withdraws the undetached item of its tag, CANCELLED before DONE; else it is TOO_LATE while the tag
is owed, and NOT_FOUND otherwise. The CANCELLED reply enters the outbound queue at once, ahead of a reply still in build
of an item taken earlier: the model's choice (assumption 29). -/
def Obligations.CancelOutcomes : Prop :=
  ∀ (s : State) (tag named : Byte), s.awaits (.cancel tag (some named)) tag →
    let l := s.link.withdrawn (.cancel tag (some named))
    (∀ i, s.part.alloc.work.find? (Work.carries named) = some (.item i) → named ∈ s.link.outstanding → named ≠ tag →
      exec (.cancel tag (some named)) s = .next { s with
        link := { l with
          outbound := s.link.outbound ++
            [replyFrame named i.fields.kind (refuse .cancelled), replyFrame tag 0x25 (doneWith [])]
          outstanding := (s.link.outstanding.erase named).erase tag }
        part := { s.part with alloc := { s.part.alloc with
          work := s.part.alloc.work.filter fun w => !w.carries named } } }) ∧
    (s.part.alloc.work.find? (Work.carries named) = none →
      exec (.cancel tag (some named)) s = .next (s.answers (.cancel tag (some named)) tag 0x25
        (refuse (if named ∈ s.link.outstanding then .tooLate else .notFound)) s.part))

/-- The decoder reads back the range, level and grant requests from the bytes R180 lays out for them. -/
def Obligations.RangeRequestsDecode : Prop :=
  ∀ (tag : Byte) (first count grant : Nat) (level : Int), first < 65536 → count < 256 → grant < 256 → -128 ≤ level →
    level < 128 →
    let payload := be2 first ++ [byte count]
    let q := some (RangeFields.mk first count)
    requestOf 0x26 tag payload = some (.sliceReserve tag q) ∧ requestOf 0x27 tag payload = some (.sliceUnreserve tag q) ∧
      requestOf 0x28 tag payload = some (.mapRead tag q) ∧ requestOf 0x42 tag payload = some (.quarantineForce tag q) ∧
      requestOf 0x43 tag payload = some (.quarantineLift tag q) ∧ requestOf 0x44 tag payload = some (.qualityRead tag q) ∧
      requestOf 0x23 tag [byte grant] = some (.grantRelease tag (some grant)) ∧
      requestOf 0x24 tag [byte grant] = some (.grantQuery tag (some grant)) ∧
      requestOf 0x30 tag [byte grant, signedByte level] = some (.grantLevel tag (some ⟨grant, level⟩)) ∧
      requestOf 0x21 tag (byte grant :: 1 :: be2 first) = some (.grantMove tag (some ⟨grant, some first⟩))

/-- A malformed payload of any kind is refused BAD_FIELD and changes nothing. A payload with an unlisted code, a set bit
that names no member, or a force option other than 0 and 1 counts as malformed, and its BAD_FIELD comes before NO_TENANT
or GONE: the model's choice (assumption 31). The six reading requests answer their records and change nothing; what they
name wrongly is refused. The unnamed bits of the records' flag bytes are 0: the model's choice (assumption 41). -/
def Obligations.MalformedAndQueriesChangeNothing : Prop :=
  (∀ (s : State) (tag : Byte),
    let bad := fun (cmd : Instr) (kind : Byte) =>
      s.awaits cmd tag → exec cmd s = .next (s.answers cmd tag kind (refuse .badField) s.part)
    (bad (.tenantDefine tag none) 0x10 ∧ bad (.tenantAmend tag none) 0x11 ∧ bad (.tenantRetire tag none) 0x12 ∧
      bad (.tenantQuery tag none) 0x13 ∧ bad (.faultMask tag none) 0x14 ∧ bad (.faultClear tag none) 0x15) ∧
    (bad (.grantAsk tag none) 0x20 ∧ bad (.grantMove tag none) 0x21 ∧ bad (.grantResize tag none) 0x22 ∧
      bad (.grantRelease tag none) 0x23 ∧ bad (.grantQuery tag none) 0x24 ∧ bad (.cancel tag none) 0x25 ∧
      bad (.sliceReserve tag none) 0x26 ∧ bad (.sliceUnreserve tag none) 0x27 ∧ bad (.mapRead tag none) 0x28) ∧
    (bad (.grantLevel tag none) 0x30 ∧ bad (.sweepSet tag none) 0x40 ∧ bad (.sweepRestart tag none) 0x41 ∧
      bad (.quarantineForce tag none) 0x42 ∧ bad (.quarantineLift tag none) 0x43 ∧ bad (.qualityRead tag none) 0x44) ∧
    (bad (.lineupPush tag none) 0x50 ∧ bad (.lineupPop tag none) 0x51 ∧ bad (.lineupRotate tag none) 0x52 ∧
      bad (.lineupDrop tag none) 0x53 ∧ bad (.lineupStatus tag none) 0x54) ∧
    (bad (.eventsRead tag none) 0x60 ∧ bad (.eventsMask tag none) 0x61 ∧ bad (.plantSet tag none) 0x70 ∧
      bad (.plantQuery tag none) 0x71 ∧ bad (.quietEnter tag none) 0x72 ∧ bad (.quietLeave tag none) 0x73 ∧
      bad (.engineReset tag none) 0x74)) ∧
  ∀ (s : State) (tag : Byte),
    let answers := fun (cmd : Instr) (kind : Byte) (r : Reply) =>
      s.awaits cmd tag → exec cmd s = .next (s.answers cmd tag kind r s.part)
    (∀ t, answers (.tenantQuery tag (some t)) 0x13
      (if 16 ≤ t then refuse .badField else doneWith (s.part.tenantPayload t))) ∧
    (∀ g, 96 ≤ g → answers (.grantQuery tag (some g)) 0x24 (refuse .badField)) ∧
    (∀ g, g < 96 → s.part.grant g = none → answers (.grantQuery tag (some g)) 0x24 (refuse .noGrant)) ∧
    (∀ g r, g < 96 → s.part.grant g = some r →
      answers (.grantQuery tag (some g)) 0x24 (doneWith (s.part.grantPayload g r))) ∧
    (∀ q : RangeFields, answers (.mapRead tag (some q)) 0x28
      (if 1 ≤ q.count ∧ q.count ≤ 32 ∧ q.first + q.count ≤ 1024 then doneWith (s.part.mapPayload q)
        else refuse .badField)) ∧
    (∀ q : RangeFields, answers (.qualityRead tag (some q)) 0x44
      (if 1 ≤ q.count ∧ q.count ≤ 32 ∧ q.first + q.count ≤ 1024 then doneWith (s.part.qualityPayload q)
        else refuse .badField)) ∧
    answers (.lineupStatus tag (some ())) 0x54 (doneWith s.part.store.payload) ∧
    answers (.plantQuery tag (some ())) 0x71 (doneWith s.part.plantPayload)

/-! ### Tenants -/

/-- UNDER_COMMIT is raised in a tenant's source exactly where an act turned the relation from true to false
for a tenant that is not RETIRING; every other event and every other part of the state is left. -/
def Obligations.UnderCommitTurns : Prop :=
  ∀ p q : Part, q.events.raised.length = 16 →
    (p.commitTest q) = { q with events := { q.events with raised := (p.commitTest q).events.raised } } ∧
    ∀ t, t < 16 → (p.commitTest q).events.raised.getD t 0 =
      if (∃ r, p.tenant t = some r ∧ r.committed ≤ p.delivered t) ∧
          (∃ r, q.tenant t = some r ∧ r.status ≠ .retiring ∧ q.delivered t < r.committed)
      then q.events.raised.getD t 0 ||| 0x040 else q.events.raised.getD t 0

/-- TENANT_DEFINE of an EMPTY tenant sets up its record, advances the generation, marks the referencing slots STALE
and changes nothing else. A bad id or a VIDEO tenant not FORWARD is refused BAD_FIELD, a defined one BUSY. -/
def Obligations.DefineSetsUpTenant : Prop :=
  ∀ (s : State) (tag : Byte) (q : DefineFields), s.awaits (.tenantDefine tag (some q)) tag →
    let refused := fun why =>
      exec (.tenantDefine tag (some q)) s = .next (s.answers (.tenantDefine tag (some q)) tag 0x10 (refuse why) s.part)
    let fresh : TenantRecord := ⟨.active, q.cls, q.dirs, 0, 16777215, 0, 6, 0, .up, 0, s.part.split + 8, .high, 0, 0, [],
      none⟩
    let gen := (s.part.generation q.tenant + 1) % 256
    (16 ≤ q.tenant ∨ (q.cls = .video ∧ q.dirs ≠ .forward) → refused .badField) ∧
    (q.tenant < 16 → (q.cls = .video → q.dirs = .forward) →
      ((s.part.tenant q.tenant).isSome → refused .busy) ∧
      (s.part.tenant q.tenant = none →
        exec (.tenantDefine tag (some q)) s = .next (s.answers (.tenantDefine tag (some q)) tag 0x10
          ⟨.done, contractClamped q.contract fresh, [byte gen]⟩
          { s.part with
            tenants := s.part.tenants.set q.tenant ⟨gen, some (storeContract q.contract fresh)⟩
            store := { s.part.store with slots := s.part.store.slots.map (Slot.staleFor q.tenant) } })))

/-- The contract fields are clamped singly, then jointly; CLAMPED says whether any was; the other fields stay, and fields
without a contract value clamp nothing. TENANT_AMEND stores its fields in one act, UNDER_COMMIT following on the turn.
A new margin or max profile brings the upkeep of every listed grant that is not LEAVING. A new polarity ends a STROBE
whose minimum has elapsed where the input is asserted under it, and nothing else. Any other amend has no further
effect. -/
def Obligations.AmendClampsAndStores : Prop :=
  (∀ (c : ContractFields) (r : TenantRecord),
    ((c.committed.isSome ∨ c.ceiling.isSome ∨ c.margin.isSome ∨ c.maxProfile.isSome ∨ c.defaultLevel.isSome) →
      let ceiling := min 16777215 (c.ceiling.getD r.ceiling)
      let committed := min 16777215 (c.committed.getD r.committed)
      let profile := max 1 (min 6 (c.maxProfile.getD r.maxProfile))
      (r.ceiling ≤ 16777215 → r.committed ≤ 16777215 → r.margin ≤ 40 → 1 ≤ r.maxProfile → r.maxProfile ≤ 6 →
        -96 ≤ r.defaultLevel → r.defaultLevel ≤ 48 →
        storeContract c r = { r with
          committed := min committed ceiling
          ceiling := ceiling
          margin := min 40 (c.margin.getD r.margin)
          maxProfile := if r.cls = .video then max 3 profile else profile
          defaultLevel := max (-96) (min 48 (c.defaultLevel.getD r.defaultLevel))
          scan := c.scan.getD r.scan
          polarity := c.polarity.getD r.polarity }) ∧
      (contractClamped c r = true ↔
        (∃ v, c.committed = some v ∧ 16777215 < v) ∨ (∃ v, c.ceiling = some v ∧ 16777215 < v) ∨
          (∃ v, c.margin = some v ∧ 40 < v) ∨ (∃ v, c.maxProfile = some v ∧ (v < 1 ∨ 6 < v)) ∨
          (∃ v, c.defaultLevel = some v ∧ (v < -96 ∨ 48 < v)) ∨ (r.cls = .video ∧ storedProfile c r < 3) ∨
          storedCeiling c r < storedCommitted c r)) ∧
    (c.committed = none → c.ceiling = none → c.margin = none → c.maxProfile = none → c.defaultLevel = none →
      storeContract c r = { r with scan := c.scan.getD r.scan, polarity := c.polarity.getD r.polarity } ∧
        contractClamped c r = false)) ∧
  ∀ (s : State) (tag : Byte) (q : AmendFields) (r : TenantRecord), s.awaits (.tenantAmend tag (some q)) tag →
    q.tenant < 16 → s.part.tenant q.tenant = some r → r.status ≠ .retiring →
    let after := storeContract q.contract r
    let p := s.part.setTenant q.tenant after
    let amends := fun (u : Part) => exec (.tenantAmend tag (some q)) s = .next (s.answers (.tenantAmend tag (some q)) tag
      0x11 ⟨.done, contractClamped q.contract r, []⟩ u)
    let turned := fun (u : Part) => if r.committed ≤ s.part.delivered q.tenant ∧ s.part.delivered q.tenant < after.committed
      then u.raise q.tenant .underCommit else u
    (after.margin = r.margin → after.maxProfile = r.maxProfile → after.polarity = r.polarity → amends (turned p)) ∧
    (after.margin ≠ r.margin ∨ after.maxProfile ≠ r.maxProfile → after.polarity = r.polarity → s.part.shaped →
      ∃ u, amends u ∧ u = { p with grants := u.grants, events := u.events, alloc := u.alloc } ∧
        (∀ g, g ∉ r.grants → u.grant g = s.part.grant g) ∧
        (r.committed ≤ s.part.delivered q.tenant → u.delivered q.tenant < after.committed →
          u.events.raised.getD q.tenant 0 &&& 0x40 = 0x40) ∧
        ∀ g x, g ∈ r.grants → g < 96 → s.part.grant g = some x → x.tenant = q.tenant →
          let bad := p.placeBad x.cls after ⟨x.first, x.width⟩
          (x.state = .leaving → u.grant g = some x) ∧
          (x.state ≠ .leaving → u.grant g = some (x.judged (p.placeProfile x.cls after ⟨x.first, x.width⟩) bad) ∧
            (bad = true → x.impaired = false →
              u.events.raised.getD q.tenant 0 &&& 8 = 8 ∧ .attempt g ∈ u.alloc.work))) ∧
    (after.margin = r.margin → after.maxProfile = r.maxProfile → after.polarity ≠ r.polarity → s.part.store.batch = none →
      let asserted := s.part.ready.getD q.tenant false = true ↔ after.polarity = .high
      (s.part.engine.quiet = true ∨ (∀ j x, j ∈ s.part.engine.jobs → s.part.jobTenant j = some q.tenant → j.run = some x →
          x.phase = .strobe → x.strobeLeft ≠ 0 ∨ (¬asserted ∧ x.lockLeft.isSome)) → amends (turned p)) ∧
      ∀ j x, s.part.engine.quiet = false → j ∈ s.part.engine.jobs → s.part.jobTenant j = some q.tenant → j.run = some x →
        x.phase = .strobe → x.strobeLeft = 0 → asserted → x.timings.hold ≠ 0 →
        (∀ k ∈ s.part.engine.jobs, k.id = j.id ∨ (s.part.jobTenant k = some q.tenant ∧ k.run.isSome) → k = j) →
        amends (turned { p with engine := { p.engine with jobs := p.engine.jobs.map fun k =>
          if k.id = j.id then { k with run := some { x with phase := .hold, left := x.timings.hold } } else k } }))

/-- FAULT_MASK replaces the mask; a withdrawn masking with its flag sticky holds the tenant and raises FAULT_HELD.
FAULT_CLEAR clears the named flags, or all. After either, a HELD tenant with no class both unmasked and sticky is
ACTIVE again. -/
def Obligations.FaultMaskHoldsAndClearReleases : Prop :=
  ∀ (s : State) (tag : Byte) (r : TenantRecord),
    (∀ q : FaultMaskFields, s.awaits (.faultMask tag (some q)) tag → q.tenant < 16 →
      s.part.tenant q.tenant = some r → r.status ≠ .retiring →
      let holds := r.mask &&& ~~~q.mask &&& r.sticky ≠ 0
      let status := if holds then TenantStatus.held
        else if r.status = .held ∧ r.sticky &&& ~~~q.mask = 0 then .active else r.status
      let p := s.part.setTenant q.tenant { r with mask := q.mask, status := status }
      exec (.faultMask tag (some q)) s = .next (s.answers (.faultMask tag (some q)) tag 0x14
        (doneWith [if status = .held then 2 else 1]) (if holds then p.raise q.tenant .faultHeld else p))) ∧
    ∀ q : FaultClearFields, s.awaits (.faultClear tag (some q)) tag → q.tenant < 16 →
      s.part.tenant q.tenant = some r → r.status ≠ .retiring →
      let sticky := r.sticky &&& ~~~(q.faults.getD 0xF)
      let status := if r.status = .held ∧ sticky &&& ~~~r.mask = 0 then TenantStatus.active else r.status
      exec (.faultClear tag (some q)) s = .next (s.answers (.faultClear tag (some q)) tag 0x15
        (doneWith [if status = .held then 2 else 1, sticky.setWidth 8])
        (s.part.setTenant q.tenant { r with sticky := sticky, status := status }))

/-- A retire of a tenant without grants completes at once, forced or not; a plain one of a tenant with grants is
refused BUSY. A forced one of a tenant with one ACTIVE grant makes it RETIRING and gives the grant its RELEASE job
where an entry is free; with none free the grant stays ACTIVE in the backlog. With one RETIRING tenant whose list
holds one ACTIVE grant, the backlog gives it the free job entry. -/
def Obligations.RetireAndItsBacklog : Prop :=
  (∀ (s : State) (tag : Byte) (t : Nat) (r : TenantRecord), t < 16 → s.part.tenant t = some r → r.status ≠ .retiring →
    let gone : Part := { s.part with
      tenants := s.part.tenants.set t ⟨(s.part.generation t + 1) % 256, none⟩
      engine := { s.part.engine with turnaround := s.part.engine.turnaround.set t none }
      store := { s.part.store with slots := s.part.store.slots.map (Slot.staleFor t) } }
    (s.awaits (.tenantRetire tag (some t)) tag →
      (r.grants = [] → exec (.tenantRetire tag (some t)) s =
        .next (s.answers (.tenantRetire tag (some t)) tag 0x12 (doneWith []) gone)) ∧
      (r.grants ≠ [] → exec (.tenantRetire tag (some t)) s =
        .next (s.answers (.tenantRetire tag (some t)) tag 0x12 (refuse .busy) s.part))) ∧
    (s.awaits (.tenantRetireForce tag t) tag →
      (r.grants = [] → exec (.tenantRetireForce tag t) s =
        .next (s.answers (.tenantRetireForce tag t) tag 0x12 (doneWith []) gone)) ∧
      ∀ g x, r.grants = [g] → s.part.grant g = some x → x.tenant = t → x.state = .active → s.part.store.batch = none →
        let p := s.part.setTenant t { r with status := .retiring }
        exec (.tenantRetireForce tag t) s = .next (s.answers (.tenantRetireForce tag t) tag 0x12 (doneWith [])
          (if s.part.engine.jobs.length < 24 then
            { p with
              grants := s.part.grants.set g (some { x with state := .leaving, relocationPending := false })
              engine := s.part.engine.withJob (s.part.newJob g .release none) }
          else p)))) ∧
  ∀ (s : State) (t g : Nat) (r : TenantRecord) (x : Grant), t < 16 → s.part.tenant t = some r → r.status = .retiring →
    g ∈ r.grants → s.part.grant g = some x → x.state = .active → x.tenant = t → g < s.part.grants.length →
    (∀ h ∈ r.grants, h ≠ g → ∀ y, s.part.grant h = some y → y.state ≠ .active) →
    (∀ k, k < 16 → k ≠ t → s.part.backlogFront k = none) → s.part.engine.jobs.length < 24 → s.part.store.batch = none →
    exec .retireBacklogRelease s = .next { s with part := { s.part with
      grants := s.part.grants.set g (some { x with state := .leaving, relocationPending := false })
      engine := s.part.engine.withJob (s.part.newJob g .release none) } }

/-! ### Grants -/

/-- GRANT_RELEASE is refused in the order of its five checks, and changes nothing then. Of an ACTIVE grant it makes
it LEAVING, clears relocation-pending and queues a RELEASE job; the reply says LEAVING, UNDER_COMMIT follows its
test, and nothing else changes. -/
def Obligations.ReleaseOfActiveGrant : Prop :=
  ∀ (s : State) (tag : Byte) (g : Nat), s.awaits (.grantRelease tag (some g)) tag →
    let refused := fun why =>
      exec (.grantRelease tag (some g)) s = .next (s.answers (.grantRelease tag (some g)) tag 0x23 (refuse why) s.part)
    (96 ≤ g → refused .badField) ∧ (g < 96 → s.part.grant g = none → refused .noGrant) ∧
      ∀ r, g < 96 → s.part.grant g = some r →
        let retiring := ∃ t, s.part.tenant r.tenant = some t ∧ t.status = .retiring
        (retiring → refused .gone) ∧ (¬retiring → r.state = .leaving → refused .already) ∧
          (¬retiring → r.state = .active → 24 ≤ s.part.engine.jobs.length → refused .full) ∧
          (¬retiring → r.state = .active → s.part.engine.jobs.length < 24 → s.part.store.batch = none →
            let left : Part := { s.part with
              grants := s.part.grants.set g (some { r with state := .leaving, relocationPending := false })
              engine := s.part.engine.withJob (s.part.newJob g .release none) }
            exec (.grantRelease tag (some g)) s = .next (s.answers (.grantRelease tag (some g)) tag 0x23 (doneWith [4])
              (s.part.commitTest left)))

/-- GRANT_RELEASE of a grant with a cycle in flight, by its state and phase. ARRIVING in QUEUED or SETUP: the job and
the record go, the slices are let go, and a started job begins the turnaround. MOVING or RESIZING in QUEUED or SETUP:
the destination is let go, and the job becomes a RELEASE in its place. In STROBE or HOLD every slice is kept until
DONE. HOLD begins at once in full from SETUP and STROBE, and runs on otherwise. The turned job loses its relocation
mark: the model's reading (assumption 22). -/
def Obligations.ReleaseCutsCyclesShort : Prop :=
  ∀ (s : State) (tag : Byte) (g : Nat) (r : Grant) (t : TenantRecord) (j : Job),
    s.awaits (.grantRelease tag (some g)) tag → s.part.shaped → s.part.store.batch = none → g < 96 →
    s.part.grant g = some r → r.tenant < 16 → s.part.tenant r.tenant = some t → t.status ≠ .retiring →
    s.part.jobOf g = some j → (∀ k ∈ s.part.engine.jobs, k.id = j.id → k = j) →
    (∀ x, j.run = some x → x.phase ≠ .hold → x.timings.hold ≠ 0) →
    let answered := fun (state : Byte) (u : Part) => exec (.grantRelease tag (some g)) s =
      .next (s.answers (.grantRelease tag (some g)) tag 0x23 (doneWith [state]) u)
    let silent := ∀ x, j.run = some x → x.phase = .setup
    let interval := (s.part.engine.timings t.cls).turnaround
    let turned := fun (dest : Option Place) (run : Option Run) => s.part.engine.jobs.map fun k =>
      if k.id = j.id then { j with kind := .release, relocation := false, after := none, dest := dest, run := run } else k
    let leaving := s.part.grants.set g (some { r with state := .leaving, relocationPending := false })
    let goes := fun (u : Part) (n : Nat) => (s.part.slice n).use ≠ .guard g (some g) → (u.slice n).heldBy g = false
    (r.state = .arriving → silent → ∃ u, answered 5 u ∧ u.grants = s.part.grants.set g none ∧
      u.engine = { s.part.engine with
        jobs := s.part.engine.jobs.filter fun k => k.id != j.id
        turnaround := if j.run = none then s.part.engine.turnaround else
          s.part.engine.turnaround.set r.tenant (if interval = 0 then none else some interval) } ∧
      u.tenant r.tenant = some { t with grants := t.grants.filter fun k => k != g } ∧
      (∀ n, (s.part.slice n).heldBy g = true → goes u n) ∧
      ∀ n, (s.part.slice n).heldBy g = false → u.slice n = s.part.slice n) ∧
    (r.state = .moving ∨ r.state = .resizing → silent → ∃ u, answered 4 u ∧ u.grants = leaving ∧
      u.engine = { s.part.engine with jobs := turned none (j.run.map fun x =>
        { x with phase := .hold, left := x.timings.hold }) } ∧ u.tenants = s.part.tenants ∧
      (∀ n, (s.part.slice n).heldBy g = true → r.covers n = false → goes u n) ∧
      ∀ n, (s.part.slice n).heldBy g = false ∨ r.covers n = true → u.slice n = s.part.slice n) ∧
    ∀ x, j.run = some x → x.phase ≠ .setup →
      (r.state = .arriving ∨ r.state = .moving ∨ r.state = .resizing) →
      let run := if x.phase = .strobe then { x with phase := .hold, left := x.timings.hold } else x
      answered 4 (s.part.commitTest { s.part with
        grants := leaving
        engine := { s.part.engine with
          jobs := turned (if r.state = .arriving then none else j.dest) (some run) } })

/-! ### Placement -/

/-- A placement request is refused FULL at its arrival when eight wait, and joins the end of the queue with no
reply otherwise. While a condition of the take fails, waiting work stays where it is. The reply in build enters the
outbound queue, its tag no longer owed; a detached one is discarded. -/
def Obligations.PlacementsWaitTheirTurn : Prop :=
  (∀ (s : State) (tag : Byte),
    let arrives := fun (cmd : Instr) (kind : Byte) (f : PlacementFields) =>
      s.awaits cmd tag →
        (8 ≤ s.part.placementQueue.length → exec cmd s = .next (s.answers cmd tag kind (refuse .full) s.part)) ∧
        (s.part.placementQueue.length < 8 → ∃ t, exec cmd s = .next t ∧ t.link = s.link.withdrawn cmd ∧
          t.pending = s.pending ∧ t.part = { s.part with alloc := { s.part.alloc with work := t.part.alloc.work } } ∧
          t.part.placementQueue = s.part.placementQueue ++ [⟨tag, f, false⟩] ∧ t.part.attemptList = s.part.attemptList)
    (∀ q, arrives (.grantAsk tag (some q)) 0x20 (.ask q)) ∧ (∀ q, arrives (.grantMove tag (some q)) 0x21 (.move q)) ∧
      (∀ q, arrives (.grantResize tag (some q)) 0x22 (.resize q)) ∧
      (s.part.alloc.work = [] ∨ s.part.alloc.reply.isSome ∨ s.part.alloc.restoreHold = true ∨
          23 ≤ s.part.engine.jobs.length →
        exec .grantAskTake s = .next s ∧ exec .grantMoveTake s = .next s ∧ exec .grantResizeTake s = .next s ∧
          exec .relocationAttempt s = .next s)) ∧
  ∀ (s : State) (b : BuiltReply), s.part.alloc.reply = some b →
    let p := { s.part with alloc := { s.part.alloc with reply := none } }
    (b.detached = true → exec .replyBuilt s = .next { s with part := p }) ∧
    (b.detached = false → b.tag ∈ s.link.outstanding → exec .replyBuilt s = .next { s with
      link := { s.link with
        outbound := s.link.outbound ++ [replyFrame b.tag b.kind b.reply]
        outstanding := s.link.outstanding.erase b.tag }
      part := p })

/-- The checks of the requests that name a tenant or a grant, in the order of their rules: the id's range, the tenant's
state, the grant's, then the fields. They are made when TENANT_AMEND, FAULT_MASK, FAULT_CLEAR, TENANT_RETIRE and
GRANT_LEVEL are served, and when a placement item is taken. A refusal changes nothing but that the item has left the
queue, its reply in build. -/
def Obligations.ChecksRefuseInOrder : Prop :=
  (∀ (s : State) (tag : Byte),
    let refused := fun (cmd : Instr) (kind : Byte) (why : Status) =>
      s.awaits cmd tag → exec cmd s = .next (s.answers cmd tag kind (refuse why) s.part)
    let checked := fun (t : Nat) (cmd : Instr) (kind : Byte) =>
      (16 ≤ t → refused cmd kind .badField) ∧ (t < 16 → s.part.tenant t = none → refused cmd kind .noTenant) ∧
        ∀ r, t < 16 → s.part.tenant t = some r → r.status = .retiring → refused cmd kind .gone
    (∀ q, checked q.tenant (.tenantAmend tag (some q)) 0x11) ∧ (∀ q, checked q.tenant (.faultMask tag (some q)) 0x14) ∧
      (∀ q, checked q.tenant (.faultClear tag (some q)) 0x15) ∧ (∀ t, checked t (.tenantRetire tag (some t)) 0x12) ∧
      (∀ t, checked t (.tenantRetireForce tag t) 0x12)) ∧
  ∀ s : State,
    let tenants := fun (t : TenantRecord) (refused : Status → Prop) =>
      (t.status = .held → refused .held) ∧ (t.status = .retiring → refused .gone)
    let grants := fun (g : Nat) (refused : Status → Prop) (further : Grant → Prop) =>
      (96 ≤ g → refused .badField) ∧ (g < 96 → s.part.grant g = none → refused .noGrant) ∧
        ∀ r t, g < 96 → s.part.grant g = some r → r.tenant < 16 → s.part.tenant r.tenant = some t →
          tenants t refused ∧ (t.status = .active → further r)
    (∀ (tag : Byte) (q : LevelFields), s.awaits (.grantLevel tag (some q)) tag →
      let refused := fun (why : Status) => exec (.grantLevel tag (some q)) s =
        .next (s.answers (.grantLevel tag (some q)) tag 0x30 (refuse why) s.part)
      grants q.grant refused fun r =>
        (r.dir = .ret → refused .wrongClass) ∧ (r.dir = .forward → r.state ≠ .active → refused .busy) ∧
          (r.dir = .forward → r.state = .active → q.level < -96 ∨ 48 < q.level → refused .badField)) ∧
    ∀ (tag : Byte) (detached : Bool) (rest : List Work), s.part.mayTake = true → s.part.shaped →
      let item := fun (f : PlacementFields) => s.part.alloc.work = .item ⟨tag, f, detached⟩ :: rest
      let taken := fun (cmd : Instr) (kind : Byte) (why : Status) => exec cmd s = .next { s with part := { s.part with
        alloc := { s.part.alloc with work := rest, reply := some ⟨tag, kind, refuse why, detached⟩ } } }
      (∀ q : AskFields, item (.ask q) →
        let refused := taken .grantAskTake 0x20
        (16 ≤ q.tenant → refused .badField) ∧ (q.tenant < 16 → s.part.tenant q.tenant = none → refused .noTenant) ∧
          ∀ t, q.tenant < 16 → s.part.tenant q.tenant = some t →
            let data := t.cls = .data
            let bad := (q.dir ≠ 0 ∧ q.dir ≠ 1) ∨ (q.dir = 0 ∧ t.dirs = .ret) ∨ (q.dir = 1 ∧ t.dirs = .forward) ∨
              (data ∧ ∀ w, q.width = some w → w < 2 ∨ 128 < w) ∨
              (data ∧ ∃ w f, q.width = some w ∧ q.floor = some f ∧ (f < 2 ∨ w < f)) ∨
              (t.cls = .voice ∧ ∃ w, q.width = some w ∧ w ≠ 1) ∨ (t.cls = .video ∧ ∃ w, q.width = some w ∧ w ≠ 4) ∨
              (¬data ∧ q.floor.isSome) ∨ (q.dir = 1 ∧ q.level.isSome) ∨
              ∃ l, q.level = some l ∧ (l < -96 ∨ 48 < l)
            tenants t refused ∧ (t.status = .active → bad → refused .badField) ∧
              (t.status = .active → ¬bad → (∀ g, g < 96 → s.part.grant g ≠ none) ∨
                  (match t.cls with | .voice => 12 | .video => 48 | .data => 6) ≤ t.grants.length →
                refused .noRecord)) ∧
      (∀ q : MoveFields, item (.move q) →
        let refused := taken .grantMoveTake 0x21
        grants q.grant refused fun r =>
          (r.state ≠ .active → refused .busy) ∧
          ∀ c, r.state = .active → q.target = some c →
            let bottom := if r.dir = .ret then 0 else s.part.split + 8
            let top := if r.dir = .ret then s.part.split - 1 else 1023
            (r.cls = .data → c < bottom ∨ top + 1 < c + r.width → refused .badField) ∧
            (r.cls = .video → c % 4 ≠ 0 ∨ c < bottom ∨ top < c + 3 → refused .badField) ∧
            (r.cls = .voice → c < bottom + 1 ∨ top < c + 1 → refused .badField) ∧
            ∀ n, n < 1024 → windowCovers r.cls c r.width n = true → r.covers n = true → refused .badField) ∧
      ∀ q : ResizeFields, item (.resize q) →
        let refused := taken .grantResizeTake 0x22
        grants q.grant refused fun r =>
          (r.state ≠ .active → refused .busy) ∧ (r.state = .active → r.cls ≠ .data → refused .wrongClass) ∧
          (r.state = .active → r.cls = .data →
            q.width < 2 ∨ 128 < q.width ∨ (∃ f, q.floor = some f ∧ (f < 2 ∨ q.width < f)) ∨
                (q.floor = none ∧ ∃ f, r.floor = some f ∧ q.width < f) →
              refused .badField)

/-- The scan of a band. Its candidates are the windows of the class that lie in the band, each visited once: upward from
the rover and then from the bottom, or downward from the rover and then from the top, VIDEO rounding the start to a
multiple of 4. A placement leaves the rover past its carrier, wrapping at the band's ends. A shape fit has its carrier
slices available and its guards available or GUARD of one owner, outside the origin; pass 1 asks for its profile too.
Pass 2 names the DATA grant at whose top the window begins, shrunk neither below its floor width nor its tenant below
its commitment. Pass 3 takes the longest open run, between the floor width and the width asked for. -/
def Obligations.ScanFollowsItsRules : Prop :=
  ∀ (p : Part) (t : TenantRecord) (d : Direction) (w : Nat), 24 ≤ p.split → p.split ≤ 192 → 1 ≤ w →
    (t.cls = .voice → w = 1) →
    let lo := if d = .ret then 0 else p.split + 8
    let hi := if d = .ret then p.split - 1 else 1023
    let rover := if d = .ret then t.returnRover else t.forwardRover
    let order := p.scanOrder t d w
    let open_ := fun (n : Nat) => (p.slice n).use = .free ∨ ∃ left fill, (p.slice n).use = .parked left fill
    let shared := fun (n : Nat) => open_ n ∨ ∃ a, (p.slice n).use = .guard a none
    (∀ c, c ∈ order ↔ match t.cls with
      | .data => lo ≤ c ∧ c + w ≤ hi + 1
      | .video => c % 4 = 0 ∧ lo ≤ c ∧ c + 3 ≤ hi
      | .voice => lo + 1 ≤ c ∧ c + 1 ≤ hi) ∧
    (∃ start : Int,
      (t.scan = .up →
        (if t.cls = .video then start % 4 = 0 ∧ rover ≤ start ∧ start < rover + 4 else start = rover) ∧
        order.Pairwise fun (a b : Nat) => if start ≤ a then b < start ∨ a < b else b < start ∧ a < b) ∧
      (t.scan = .down →
        (if t.cls = .video then start % 4 = 0 ∧ start ≤ (rover : Int) - 3 ∧ (rover : Int) - 3 < start + 4
          else start = (rover : Int) - w + 1) ∧
        order.Pairwise fun (a b : Nat) => if a ≤ start then start < b ∨ b < a else start < b ∧ b < a)) ∧
    (∀ c v : Nat, lo ≤ c → 1 ≤ v → c + v ≤ hi + 1 → p.roverPast t.scan d ⟨c, v⟩ =
      if t.scan = .up then (if c + v ≤ hi then c + v else lo) else if lo < c then c - 1 else hi) ∧
    (∀ (origin : Option Grant) (c : Nat), (t.cls = .voice → 1 ≤ c) →
      let clear := fun (n : Nat) => ∀ r, origin = some r →
        ¬(r.first ≤ n ∧ n < r.first + r.width) ∧ (r.cls = .voice → n + 1 ≠ r.first ∧ n ≠ r.first + r.width)
      let carriers := fun (from_ : Nat) => ∀ n, c ≤ n → n < c + w → from_ ≤ n → open_ n ∧ clear n
      let guards := fun (from_ : Nat) =>
        t.cls = .voice → ∀ n, n + 1 = c ∨ n = c + 1 → from_ ≤ n → shared n ∧ clear n
      (p.shapeOk t.cls w origin c = true ↔ carriers 0 ∧ guards 0) ∧
      (p.passOne t w origin c = true ↔ carriers 0 ∧ guards 0 ∧ p.windowAcceptable t c w = true) ∧
      ∀ v, p.passTwo t w origin c = some v ↔
        let bottom := if t.cls = .voice then c - 1 else c
        ∃ x y, p.grant v = some x ∧ p.tenant x.tenant = some y ∧ x.cls = .data ∧ x.state = .active ∧
          y.status ≠ .retiring ∧ x.first + x.floor.getD x.width ≤ bottom ∧ bottom ≤ x.first + x.width - 1 ∧
          (∀ n, windowCovers t.cls c w n = true → n ≤ x.first + x.width - 1 →
            (p.slice n).use = .granted v ∧ (p.slice n).impaired = false) ∧
          carriers (x.first + x.width - 1 + 1) ∧ guards (x.first + x.width - 1 + 1) ∧
          p.windowAcceptable t c w = true ∧
          y.committed ≤ p.delivered x.tenant - x.capacity + capacityOf .data (bottom - x.first) x.profile) ∧
    ∀ floor c v, 1 ≤ floor → floor ≤ w →
      let run := fun (k : Nat) => ∃ a, lo ≤ a ∧ a + k ≤ hi + 1 ∧ ∀ n, a ≤ n → n < a + k → open_ n
      let clear := fun (c : Nat) => ∀ n, c ≤ n → n < c + v → open_ n
      p.passThree t d w floor = some (c, v) ↔ floor ≤ v ∧ v ≤ w ∧ run v ∧ (v < w → ¬run (v + 1)) ∧ clear c ∧
        ∃ before rest, p.scanOrder t d v = before ++ c :: rest ∧ ∀ b ∈ before, ¬clear b

/-- A GRANT_ASK that meets no fault is placed at the first position of its scan that passes pass 1: the record, the
list, the claim, the job, the rover and the ACCEPTED reply in build. Under OVER_CAP a forward ask does not fit, and a
return ask is placed as ever. The unnamed bits of the reply's flag byte are 0: the model's choice (assumption 41). -/
def Obligations.AskWithoutFaultIsPlaced : Prop :=
  ∀ (s : State) (tag : Byte) (detached : Bool) (q : AskFields) (rest : List Work) (t : TenantRecord) (d : Direction)
    (c g : Nat),
    s.part.shaped → s.part.alloc.work = .item ⟨tag, .ask q, detached⟩ :: rest →
    s.part.mayTake = true → q.tenant < 16 → s.part.tenant q.tenant = some t → t.status = .active →
    askDirection t q = some d → s.part.lowestFree = some g → t.grants.length < classLimit t.cls →
    let w := askWidth t.cls q
    let prof := s.part.windowProfile t c w
    let cap := capacityOf t.cls w prof
    let level := askLevel t d q
    (s.part.scanOrder t d w).find? (s.part.passOne t w none) = some c →
    s.part.delivered q.tenant + s.part.arrivingCapacity q.tenant + cap ≤ t.ceiling →
    (∀ l, level = some l → s.part.fits (s.part.composite + s.part.carrierWeight l ⟨c, w⟩) = true) →
    let job := s.part.newJob g .activate (some ⟨c, w⟩)
    let rover := s.part.roverPast t.scan d ⟨c, w⟩
    ∃ u, exec .grantAskTake s = .next { s with part := u } ∧
      u = ({ s.part with
        tenants := u.tenants
        slices := u.slices
        grants := s.part.grants.set g
          (some ⟨q.tenant, t.cls, d, c, w, askFloor t.cls q, level, prof, cap, .arriving, false, false⟩)
        alloc := { s.part.alloc with work := rest, reply := some ⟨tag, 0x20, ⟨.accepted, false,
          (Placed.mk g ⟨c, w⟩ level prof cap 0 [job.id] none).payload⟩, detached⟩ }
        engine := s.part.engine.withJob job } : Part).capTest ∧
      s.part.claimedSince u g t.cls ⟨c, w⟩ ∧
      u.tenant q.tenant = some { t with
        grants := t.grants ++ [g]
        returnRover := if d = .ret then rover else t.returnRover
        forwardRover := if d = .forward then rover else t.forwardRover } ∧
      ∀ k, k ≠ q.tenant → u.tenants[k]? = s.part.tenants[k]?

/-- The faults of an ask, FIT, PROFILE, CAPACITY and POWER, one at a time. Unmasked it is refused with that status, its
sticky flag set. Masked it is placed with the remedy: the narrowed width of pass 3, profile 1 (VIDEO: its own) with
both flags, the largest width under the ceiling (VOICE and VIDEO: above it), the highest level that fits; where no
remedy applies it is refused all the same. The unnamed bits of the reply's flag byte are 0: the model's choice
(assumption 41). -/
def Obligations.PlacementFaultsRefuseOrRemedy : Prop :=
  ∀ (s : State) (tag : Byte) (detached : Bool) (q : AskFields) (rest : List Work) (t : TenantRecord) (d : Direction)
    (g : Nat),
    s.part.shaped → s.part.alloc.work = .item ⟨tag, .ask q, detached⟩ :: rest → s.part.mayTake = true →
    q.tenant < 16 → s.part.tenant q.tenant = some t → t.status = .active → askDirection t q = some d →
    s.part.lowestFree = some g → t.grants.length < classLimit t.cls →
    let p := s.part
    let w := askWidth t.cls q
    let floor := (askFloor t.cls q).getD w
    let order := p.scanOrder t d w
    let level := askLevel t d q
    let total := fun (width prof : Nat) =>
      p.delivered q.tenant + p.arrivingCapacity q.tenant + capacityOf t.cls width prof
    let fitsAt := fun (c : Place) (v : Int) => p.fits (p.composite + p.carrierWeight v c)
    let levelFits := fun (c : Place) => ∀ l, level = some l → fitsAt c l = true
    let refused := fun (why : Status) (faults : FaultSet) =>
      exec .grantAskTake s = .next { s with part := { p.setTenant q.tenant { t with sticky := t.sticky ||| faults } with
        alloc := { p.alloc with
          work := rest, reply := some ⟨tag, 0x20, ⟨why, false, [faults.setWidth 8]⟩, detached⟩ } } }
    let placed := fun (c : Place) (prof : Nat) (v : Option Int) (faults : FaultSet) (flagged : Bool) =>
      let cap := capacityOf t.cls c.width prof
      let job := p.newJob g .activate (some c)
      ∃ u, exec .grantAskTake s = .next { s with part := u } ∧
        u.grant g = some ⟨q.tenant, t.cls, d, c.first, c.width, askFloor t.cls q, v, prof, cap, .arriving, flagged,
          flagged⟩ ∧
        (∀ h, h ≠ g → u.grant h = p.grant h) ∧ u.engine = p.engine.withJob job ∧ p.claimedSince u g t.cls c ∧
        (u.tenant q.tenant).map (fun x => (x.sticky, x.grants)) = some (t.sticky ||| faults, t.grants ++ [g]) ∧
        u.alloc.reply = some ⟨tag, 0x20, ⟨.accepted, false, (Placed.mk g c v prof cap faults [job.id] none).payload⟩,
          detached⟩ ∧
        (flagged = false → u.alloc.work = rest) ∧
        (flagged = true → u.events.raised.getD q.tenant 0 &&& 8 = 8 ∧ .attempt g ∈ u.alloc.work)
    ((∀ c ∈ order, p.shapeOk t.cls w none c = false) → (t.cls ≠ .data → ∀ c ∈ order, p.passTwo t w none c = none) →
      (t.mask &&& 1 = 0 ∨ t.cls ≠ .data ∨ p.passThree t d w floor = none → refused .fit 1) ∧
      ∀ c v, t.mask &&& 1 ≠ 0 → t.cls = .data → p.passThree t d w floor = some (c, v) →
        let prof := p.windowProfile t c v
        (floor ≤ v ∧ v ≤ w) ∧
          (prof ≠ 0 → total v prof ≤ t.ceiling → levelFits ⟨c, v⟩ → placed ⟨c, v⟩ prof level 1 false)) ∧
    (∀ c, order.find? (p.passOne t w none) = none → (t.cls ≠ .data → ∀ c ∈ order, p.passTwo t w none c = none) →
      order.find? (p.shapeOk t.cls w none) = some c →
      (t.mask &&& 2 = 0 → refused .profile 2) ∧
      (t.mask &&& 2 ≠ 0 →
        let prof := if t.cls = .video then t.maxProfile else 1
        total w prof ≤ t.ceiling → levelFits ⟨c, w⟩ → placed ⟨c, w⟩ prof level 2 true)) ∧
    ∀ c, order.find? (p.passOne t w none) = some c →
      let prof := p.windowProfile t c w
      (t.ceiling < total w prof →
        (t.mask &&& 4 = 0 → refused .capacity 4) ∧
        (t.mask &&& 4 ≠ 0 → t.cls ≠ .data → levelFits ⟨c, w⟩ → placed ⟨c, w⟩ prof level 4 false) ∧
        (t.mask &&& 4 ≠ 0 → t.cls = .data →
          ((∀ v, floor ≤ v → v < w → t.ceiling < total v (p.windowProfile t c v)) → refused .capacity 4) ∧
          ∀ v, floor ≤ v → v < w → total v (p.windowProfile t c v) ≤ t.ceiling →
            (∀ x, v < x → x < w → t.ceiling < total x (p.windowProfile t c x)) → levelFits ⟨c, v⟩ →
            placed ⟨c, v⟩ (p.windowProfile t c v) level 4 false)) ∧
      (total w prof ≤ t.ceiling → ∀ l, level = some l → fitsAt ⟨c, w⟩ l = false →
        (t.mask &&& 8 = 0 ∨ p.level.overCap = true ∨ (∀ v, -96 ≤ v → v < l → fitsAt ⟨c, w⟩ v = false) →
          refused .power 8) ∧
        ∀ v, t.mask &&& 8 ≠ 0 → -96 ≤ v → v < l → fitsAt ⟨c, w⟩ v = true →
          (∀ x, v < x → x < l → fitsAt ⟨c, w⟩ x = false) → placed ⟨c, w⟩ prof (some v) 8 false)

/-- The faults of a move, FIT, PROFILE and POWER, and of a grow, FIT, PROFILE, CAPACITY and POWER, one at a time.
Unmasked they are refused with that status, the sticky flag set. Masked they are placed with the remedy: for a grow the
run of open slices above it or the largest width under the ceiling, and for both profile 1 (VIDEO: its own) with both
flags and the highest level that fits. A move has no remedy for FIT. A grow that would end below the floor width that
stands with it is refused, masked or not: the model's reading of R45 (assumption 24). The unnamed bits of the reply's
flag byte are 0: the model's choice (assumption 41). -/
def Obligations.MoveAndGrowFaultsRefuseOrRemedy : Prop :=
  (∀ (s : State) (tag : Byte) (detached : Bool) (q : MoveFields) (rest : List Work) (r : Grant) (t : TenantRecord),
    s.part.shaped → s.part.alloc.work = .item ⟨tag, .move q, detached⟩ :: rest → s.part.mayTake = true → q.grant < 96 →
    s.part.grant q.grant = some r → r.state = .active → r.tenant < 16 → s.part.tenant r.tenant = some t →
    t.status = .active → t.cls = r.cls → (r.cls = .voice → r.width = 1) →
    (∀ x, q.target = some x → s.part.targetOk r x = true) →
    let p := s.part
    let order := p.moveOrder t r q.target
    let fitsAt := fun (c : Nat) (v : Int) => p.fits (p.composite - p.contribution q.grant +
      (p.carrierWeight v ⟨r.first, r.width⟩ + p.carrierWeight v ⟨c, r.width⟩))
    let refused := fun (why : Status) (faults : FaultSet) =>
      exec .grantMoveTake s = .next { s with part := { p.setTenant r.tenant { t with sticky := t.sticky ||| faults } with
        alloc := { p.alloc with
          work := rest, reply := some ⟨tag, 0x21, ⟨why, false, [faults.setWidth 8]⟩, detached⟩ } } }
    let placed := fun (c prof : Nat) (v : Option Int) (faults : FaultSet) (flagged : Bool) =>
      let job := p.newJob q.grant .move (some ⟨c, r.width⟩)
      ∃ u, exec .grantMoveTake s = .next { s with part := u } ∧
        u.grant q.grant = some { r with
          state := .moving, level := v
          impaired := r.impaired || flagged, relocationPending := r.relocationPending || flagged } ∧
        (∀ h, h ≠ q.grant → u.grant h = p.grant h) ∧ u.engine = p.engine.withJob job ∧
        p.claimedSince u q.grant r.cls ⟨c, r.width⟩ ∧
        (u.tenant r.tenant).map (·.sticky) = some (t.sticky ||| faults) ∧
        u.alloc.reply = some ⟨tag, 0x21, ⟨.accepted, false, (Placed.mk q.grant ⟨c, r.width⟩ v prof
          (capacityOf r.cls r.width prof) faults [job.id] none).payload⟩, detached⟩ ∧
        (flagged = true → r.impaired = false →
          u.events.raised.getD r.tenant 0 &&& 8 = 8 ∧ .attempt q.grant ∈ u.alloc.work)
    ((∀ c ∈ order, p.shapeOk t.cls r.width (some r) c = false) →
      (t.cls ≠ .data → ∀ c ∈ order, p.passTwo t r.width (some r) c = none) → refused .fit 1) ∧
    (∀ c, order.find? (p.passOne t r.width (some r)) = none →
      (t.cls ≠ .data → ∀ c ∈ order, p.passTwo t r.width (some r) c = none) →
      order.find? (p.shapeOk t.cls r.width (some r)) = some c →
      (t.mask &&& 2 = 0 → refused .profile 2) ∧
      (t.mask &&& 2 ≠ 0 → (∀ l, r.level = some l → fitsAt c l = true) →
        placed c (if t.cls = .video then t.maxProfile else 1) r.level 2 true)) ∧
    ∀ c l, order.find? (p.passOne t r.width (some r)) = some c → r.level = some l → fitsAt c l = false →
      (t.mask &&& 8 = 0 ∨ p.level.overCap = true ∨ (∀ v, -96 ≤ v → v < l → fitsAt c v = false) → refused .power 8) ∧
      ∀ v, t.mask &&& 8 ≠ 0 → -96 ≤ v → v < l → fitsAt c v = true → (∀ x, v < x → x < l → fitsAt c x = false) →
        placed c (p.windowProfile t c r.width) (some v) 8 false) ∧
  ∀ (s : State) (tag : Byte) (detached : Bool) (q : ResizeFields) (rest : List Work) (r : Grant) (t : TenantRecord),
    s.part.shaped → s.part.alloc.work = .item ⟨tag, .resize q, detached⟩ :: rest → s.part.mayTake = true → q.grant < 96 →
    s.part.grant q.grant = some r → r.state = .active → r.tenant < 16 → s.part.tenant r.tenant = some t →
    t.status = .active → r.cls = .data → t.cls = .data → resizeFieldsOk r q = true → r.width < q.width →
    let p := s.part
    let floor := if q.floor.isSome then q.floor else r.floor
    let least := max (r.width + 1) (floor.getD 0)
    let open_ := fun (w : Nat) => ∀ n, r.first + r.width ≤ n → n < r.first + w → p.openIn r.dir n = true
    let profile := fun (w : Nat) => p.windowProfile t r.first w
    let total := fun (w prof : Nat) =>
      p.delivered r.tenant - r.capacity + p.arrivingCapacity r.tenant + capacityOf .data w prof
    let fitsAt := fun (w : Nat) (v : Int) =>
      p.fits (p.composite - p.contribution q.grant + p.carrierWeight v ⟨r.first, w⟩)
    let levelFits := fun (w : Nat) => ∀ l, r.level = some l → fitsAt w l = true
    let refused := fun (why : Status) (faults : FaultSet) =>
      exec .grantResizeTake s = .next { s with part := { p.setTenant r.tenant { t with sticky := t.sticky ||| faults } with
        alloc := { p.alloc with
          work := rest, reply := some ⟨tag, 0x22, ⟨why, false, [faults.setWidth 8]⟩, detached⟩ } } }
    let placed := fun (w prof : Nat) (v : Option Int) (faults : FaultSet) (flagged : Bool) =>
      let job := p.newJob q.grant .resize (some ⟨r.first, w⟩)
      (∀ n, r.first ≤ n → n < r.first + r.width → (p.slice n).use = .granted q.grant) →
      ∃ u, exec .grantResizeTake s = .next { s with part := u } ∧
        u.grant q.grant = some { r with
          state := .resizing, floor := floor, level := v
          impaired := r.impaired || flagged, relocationPending := r.relocationPending || flagged } ∧
        (∀ h, h ≠ q.grant → u.grant h = p.grant h) ∧ u.engine = p.engine.withJob job ∧
        (∀ n, u.slice n = if r.first + r.width ≤ n ∧ n < r.first + w then ⟨.claimed q.grant, false, false⟩
          else p.slice n) ∧
        (u.tenant r.tenant).map (·.sticky) = some (t.sticky ||| faults) ∧
        u.alloc.reply = some ⟨tag, 0x22, ⟨.accepted, false, (Placed.mk q.grant ⟨r.first, w⟩ v prof
          (capacityOf .data w prof) faults [job.id] none).payload⟩, detached⟩ ∧
        (flagged = true → r.impaired = false →
          u.events.raised.getD r.tenant 0 &&& 8 = 8 ∧ .attempt q.grant ∈ u.alloc.work)
    (¬open_ q.width →
      (t.mask &&& 1 = 0 ∨ ¬open_ least → refused .fit 1) ∧
      ∀ w, t.mask &&& 1 ≠ 0 → least ≤ w → w < q.width → open_ w → p.openIn r.dir (r.first + w) = false →
        profile w ≠ 0 → total w (profile w) ≤ t.ceiling → levelFits w → placed w (profile w) r.level 1 false) ∧
    (open_ q.width →
      (profile q.width = 0 →
        (t.mask &&& 2 = 0 → refused .profile 2) ∧
        (t.mask &&& 2 ≠ 0 → total q.width 1 ≤ t.ceiling → levelFits q.width → placed q.width 1 r.level 2 true)) ∧
      (profile q.width ≠ 0 → t.ceiling < total q.width (profile q.width) →
        (t.mask &&& 4 = 0 ∨ (∀ w, least ≤ w → w < q.width → t.ceiling < total w (profile w)) → refused .capacity 4) ∧
        ∀ w, t.mask &&& 4 ≠ 0 → least ≤ w → w < q.width → total w (profile w) ≤ t.ceiling →
          (∀ x, w < x → x < q.width → t.ceiling < total x (profile x)) → levelFits w →
          placed w (profile w) r.level 4 false) ∧
      (profile q.width ≠ 0 → total q.width (profile q.width) ≤ t.ceiling → ∀ l, r.level = some l →
        fitsAt q.width l = false →
        (t.mask &&& 8 = 0 ∨ p.level.overCap = true ∨ (∀ v, -96 ≤ v → v < l → fitsAt q.width v = false) →
          refused .power 8) ∧
        ∀ v, t.mask &&& 8 ≠ 0 → -96 ≤ v → v < l → fitsAt q.width v = true →
          (∀ x, v < x → x < l → fitsAt q.width x = false) → placed q.width (profile q.width) (some v) 8 false))

/-- A placement that passes pass 2 preempts, be it an ask, a move or a relocation attempt. The DATA grant is RESIZING,
down to the window's bottom and not below its floor width or its tenant's committed capacity, with PREEMPTED raised.
The ask is placed, or the grant is MOVING, with its ACTIVATE or MOVE waiting on that RESIZE. Slices still the other
grant's stay so, the rover moves past the window, and a reply names both jobs and the grant with its width. The unnamed
bits of the reply's flag byte are 0: the model's choice (assumption 41). -/
def Obligations.PreemptionShrinksGrant : Prop :=
  let narrowed := fun (cls : CarrierClass) (c : Nat) (x : Grant) => (if cls = .voice then c - 1 else c) - x.first
  let shrink := fun (p : Part) (cls : CarrierClass) (c v : Nat) (x : Grant) =>
    p.newJob v .resize (some ⟨x.first, narrowed cls c x⟩)
  let waiting := fun (p : Part) (cls : CarrierClass) (g c w v : Nat) (x : Grant) (kind : JobKind) (relocation : Bool) =>
    ({ ({ p with engine := p.engine.withJob (shrink p cls c v x) } : Part).newJob g kind (some ⟨c, w⟩) with
      after := some (shrink p cls c v x).id, relocation := relocation } : Job)
  let preempts := fun (p u : Part) (cls : CarrierClass) (g c w v : Nat) (x : Grant) (kind : JobKind) (relocation : Bool) =>
    let bottom := if cls = .voice then c - 1 else c
    let width := narrowed cls c x
    (x.cls = .data ∧ x.state = .active ∧ x.first ≤ bottom ∧ x.floor.getD x.width ≤ width ∧
      (x.width ≠ 0 → width < x.width) ∧ ∃ y, p.tenant x.tenant = some y ∧ y.status ≠ .retiring ∧
        y.committed ≤ p.delivered x.tenant - x.capacity + capacityOf .data width x.profile) ∧
    u.grant v = some { x with state := .resizing } ∧ (∀ h, h ≠ g → h ≠ v → u.grant h = p.grant h) ∧
    u.engine = (p.engine.withJob (shrink p cls c v x)).withJob (waiting p cls g c w v x kind relocation) ∧
    u.events.raised.getD x.tenant 0 &&& 0x80 = 0x80 ∧
    (∀ n, (p.slice n).use = .granted v ∨ windowCovers cls c w n = false → u.slice n = p.slice n) ∧
    (∀ n, c ≤ n → n < c + w → (p.slice n).available = true → u.slice n = ⟨.claimed g, false, false⟩) ∧
    (cls = .voice → ∀ n, n + 1 = c ∨ n = c + 1 →
      ((p.slice n).available = true → u.slice n = ⟨.guard g none, false, false⟩) ∧
        ∀ a, (p.slice n).use = .guard a none → a ≠ g → u.slice n = { p.slice n with use := .guard a (some g) })
  let roves := fun (p u : Part) (k : Nat) (t : TenantRecord) (d : Direction) (c w : Nat) (grants : List Nat) =>
    let rover := p.roverPast t.scan d ⟨c, w⟩
    u.tenant k = some { t with
      grants := grants
      returnRover := if d = .ret then rover else t.returnRover
      forwardRover := if d = .forward then rover else t.forwardRover } ∧
    ∀ h, h ≠ k → u.tenants[h]? = p.tenants[h]?
  let chosen := fun (p : Part) (t : TenantRecord) (w : Nat) (origin : Option Grant) (order : List Nat) (c v : Nat) =>
    t.cls ≠ .data ∧ order.find? (p.passOne t w origin) = none ∧
      order.findSome? (fun c => (p.passTwo t w origin c).map fun k => (c, k)) = some (c, v)
  let movesTo := fun (p : Part) (g : Nat) (r : Grant) (c : Nat) => ∀ l, r.level = some l → p.fits (p.composite -
    p.contribution g + (p.carrierWeight l ⟨r.first, r.width⟩ + p.carrierWeight l ⟨c, r.width⟩)) = true
  (∀ (s : State) (tag : Byte) (detached : Bool) (q : AskFields) (rest : List Work) (t : TenantRecord) (d : Direction)
    (g c v : Nat) (x : Grant),
    s.part.shaped → s.part.alloc.work = .item ⟨tag, .ask q, detached⟩ :: rest → s.part.mayTake = true →
    q.tenant < 16 → s.part.tenant q.tenant = some t → t.status = .active → askDirection t q = some d →
    s.part.lowestFree = some g → t.grants.length < classLimit t.cls →
    let p := s.part
    let w := askWidth t.cls q
    let prof := p.windowProfile t c w
    let cap := capacityOf t.cls w prof
    let level := askLevel t d q
    chosen p t w none (p.scanOrder t d w) c v → p.grant v = some x →
    p.delivered q.tenant + p.arrivingCapacity q.tenant + cap ≤ t.ceiling →
    (∀ l, level = some l → p.fits (p.composite + p.carrierWeight l ⟨c, w⟩) = true) →
    ∃ u, exec .grantAskTake s = .next { s with part := u } ∧ preempts p u t.cls g c w v x .activate false ∧
      u.grant g = some ⟨q.tenant, t.cls, d, c, w, askFloor t.cls q, level, prof, cap, .arriving, false, false⟩ ∧
      u.alloc = { p.alloc with work := rest, reply := some ⟨tag, 0x20, ⟨.accepted, false, (Placed.mk g ⟨c, w⟩ level prof
        cap 0 [(shrink p t.cls c v x).id, (waiting p t.cls g c w v x .activate false).id]
        (some (v, narrowed t.cls c x))).payload⟩, detached⟩ } ∧
      roves p u q.tenant t d c w (t.grants ++ [g])) ∧
  (∀ (s : State) (tag : Byte) (detached : Bool) (q : MoveFields) (rest : List Work) (r x : Grant) (t : TenantRecord)
    (c v : Nat),
    s.part.shaped → s.part.alloc.work = .item ⟨tag, .move q, detached⟩ :: rest → s.part.mayTake = true →
    q.grant < 96 → s.part.grant q.grant = some r → r.state = .active → r.tenant < 16 →
    s.part.tenant r.tenant = some t → t.status = .active → t.cls = r.cls → (r.cls = .voice → r.width = 1) →
    (∀ x, q.target = some x → s.part.targetOk r x = true) →
    let p := s.part
    let prof := p.windowProfile t c r.width
    chosen p t r.width (some r) (p.moveOrder t r q.target) c v → p.grant v = some x → movesTo p q.grant r c →
    ∃ u, exec .grantMoveTake s = .next { s with part := u } ∧
      preempts p u r.cls q.grant c r.width v x .move false ∧ u.grant q.grant = some { r with state := .moving } ∧
      u.alloc = { p.alloc with work := rest, reply := some ⟨tag, 0x21, ⟨.accepted, false, (Placed.mk q.grant ⟨c, r.width⟩
        r.level prof (capacityOf r.cls r.width prof) 0
        [(shrink p r.cls c v x).id, (waiting p r.cls q.grant c r.width v x .move false).id]
        (some (v, narrowed r.cls c x))).payload⟩, detached⟩ } ∧
      roves p u r.tenant t r.dir c r.width t.grants) ∧
  ∀ (s : State) (g c v : Nat) (rest : List Work) (r x : Grant) (t : TenantRecord), s.part.shaped →
    s.part.alloc.work = .attempt g :: rest → s.part.mayTake = true → g < 96 → s.part.grant g = some r →
    r.relocationPending = true → r.state = .active → r.tenant < 16 → s.part.tenant r.tenant = some t →
    t.status ≠ .retiring → t.cls = r.cls → (r.cls = .voice → r.width = 1) →
    let p := s.part
    chosen p t r.width (some r) (p.scanOrder t r.dir r.width) c v → p.grant v = some x → movesTo p g r c →
    ∃ u, exec .relocationAttempt s = .next { s with part := u } ∧ preempts p u r.cls g c r.width v x .move true ∧
      u.grant g = some { r with state := .moving } ∧ u.alloc = { p.alloc with work := rest } ∧
      roves p u r.tenant t r.dir c r.width t.grants

/-- A GRANT_MOVE that meets no fault, with or without a target: MOVING, both carriers counted, the destination claimed,
the MOVE job, the rover and the ACCEPTED reply in build. The unnamed bits of the reply's flag byte are 0: the model's
choice (assumption 41). -/
def Obligations.MoveWithoutFaultIsPlaced : Prop :=
  ∀ (s : State) (tag : Byte) (detached : Bool) (q : MoveFields) (rest : List Work) (r : Grant) (t : TenantRecord)
    (c : Nat),
    s.part.shaped → s.part.alloc.work = .item ⟨tag, .move q, detached⟩ :: rest →
    s.part.mayTake = true → q.grant < 96 → s.part.grant q.grant = some r → r.state = .active → r.tenant < 16 →
    s.part.tenant r.tenant = some t → t.status = .active → t.cls = r.cls → (r.cls = .voice → r.width = 1) →
    (∀ x, q.target = some x → s.part.targetOk r x = true) →
    (s.part.moveOrder t r q.target).find? (s.part.passOne t r.width (some r)) = some c →
    (∀ l, r.level = some l → s.part.fits (s.part.composite - s.part.contribution q.grant +
      (s.part.carrierWeight l ⟨r.first, r.width⟩ + s.part.carrierWeight l ⟨c, r.width⟩)) = true) →
    let prof := s.part.windowProfile t c r.width
    let job := s.part.newJob q.grant .move (some ⟨c, r.width⟩)
    let rover := s.part.roverPast t.scan r.dir ⟨c, r.width⟩
    ∃ u, exec .grantMoveTake s = .next { s with part := u } ∧
      u = ({ s.part with
        tenants := u.tenants
        slices := u.slices
        grants := s.part.grants.set q.grant (some { r with state := .moving })
        alloc := { s.part.alloc with work := rest, reply := some ⟨tag, 0x21, ⟨.accepted, false,
          (Placed.mk q.grant ⟨c, r.width⟩ r.level prof (capacityOf r.cls r.width prof) 0 [job.id] none).payload⟩,
          detached⟩ }
        engine := s.part.engine.withJob job } : Part).capTest ∧
      s.part.claimedSince u q.grant r.cls ⟨c, r.width⟩ ∧
      u.tenant r.tenant = some { t with
        returnRover := if r.dir = .ret then rover else t.returnRover
        forwardRover := if r.dir = .forward then rover else t.forwardRover } ∧
      ∀ k, k ≠ r.tenant → u.tenants[k]? = s.part.tenants[k]?

/-- A GRANT_RESIZE to the present width stores its floor width and queues nothing; a shrink makes the grant RESIZING
with a RESIZE job. The reply's profile and capacity are free values (assumption 8). The unnamed bits of the reply's
flag byte are 0: the model's choice (assumption 41). -/
def Obligations.ResizeWithinPresentWidth : Prop :=
  ∀ (s : State) (tag : Byte) (detached : Bool) (q : ResizeFields) (rest : List Work) (r : Grant) (t : TenantRecord),
    s.part.alloc.work = .item ⟨tag, .resize q, detached⟩ :: rest → s.part.mayTake = true → q.grant < 96 →
    s.part.grant q.grant = some r → r.state = .active → r.tenant < 16 → s.part.tenant r.tenant = some t →
    t.status = .active → r.cls = .data → resizeFieldsOk r q = true → q.width ≤ r.width →
    let floor := if q.floor.isSome then q.floor else r.floor
    let job := s.part.newJob q.grant .resize (some ⟨r.first, q.width⟩)
    ∃ prof cap, prof ≤ 6 ∧ cap < 16777216 ∧ exec .grantResizeTake s = .next { s with part :=
      { s.part with
        drawn := s.part.drawn + 1
        alloc := { s.part.alloc with work := rest, reply := some ⟨tag, 0x22, ⟨.accepted, false,
          (Placed.mk q.grant ⟨r.first, q.width⟩ r.level prof cap 0 (if q.width < r.width then [job.id] else [])
            none).payload⟩, detached⟩ }
        grants := s.part.grants.set q.grant
          (some { r with floor := floor, state := if q.width < r.width then .resizing else .active })
        engine := if q.width < r.width then s.part.engine.withJob job else s.part.engine } }

/-- A grow that meets no fault claims its growth slices and queues a RESIZE job to the new width. Whatever remedies a
grow takes, it ends above its present width, at or above the floor width that stands with it (assumption 24), and at or
below the width asked. The unnamed bits of the reply's flag byte are 0: the model's choice (assumption 41). -/
def Obligations.GrowWithoutFaultIsPlaced : Prop :=
  ∀ (s : State) (tag : Byte) (detached : Bool) (q : ResizeFields) (rest : List Work) (r : Grant) (t : TenantRecord),
    s.part.shaped → s.part.alloc.work = .item ⟨tag, .resize q, detached⟩ :: rest →
    s.part.mayTake = true → q.grant < 96 → s.part.grant q.grant = some r → r.state = .active → r.tenant < 16 →
    s.part.tenant r.tenant = some t → t.status = .active → r.cls = .data → t.cls = .data →
    resizeFieldsOk r q = true → r.width < q.width →
    let floor := if q.floor.isSome then q.floor else r.floor
    (∀ x, s.part.judgeGrow q.grant r t q = .ok x →
      r.width < x.place.width ∧ floor.getD 0 ≤ x.place.width ∧ x.place.width ≤ q.width) ∧
    ((∀ n, r.first ≤ n → n < r.first + r.width → (s.part.slice n).use = .granted q.grant) →
      (∀ n, r.first + r.width ≤ n → n < r.first + q.width → s.part.openIn r.dir n = true) →
      let prof := s.part.windowProfile t r.first q.width
      let cap := capacityOf .data q.width prof
      prof ≠ 0 → s.part.delivered r.tenant - r.capacity + s.part.arrivingCapacity r.tenant + cap ≤ t.ceiling →
      (∀ l, r.level = some l → s.part.fits (s.part.composite - s.part.contribution q.grant +
        s.part.carrierWeight l ⟨r.first, q.width⟩) = true) →
      let job := s.part.newJob q.grant .resize (some ⟨r.first, q.width⟩)
      ∃ u, exec .grantResizeTake s = .next { s with part := u } ∧
        u = ({ s.part with
          slices := u.slices
          grants := s.part.grants.set q.grant (some { r with floor := floor, state := .resizing })
          alloc := { s.part.alloc with work := rest, reply := some ⟨tag, 0x22, ⟨.accepted, false,
            (Placed.mk q.grant ⟨r.first, q.width⟩ r.level prof cap 0 [job.id] none).payload⟩, detached⟩ }
          engine := s.part.engine.withJob job } : Part).capTest ∧
        ∀ n, u.slice n = if r.first + r.width ≤ n ∧ n < r.first + q.width then ⟨.claimed q.grant, false, false⟩
          else s.part.slice n)

/-- A relocation attempt that finds a position and room under the cap queues a MOVE job with the relocation
mark: its grant is MOVING with its flags as they were, the destination is claimed and the rover moves past it. One that
finds no position, or no room, raises RELOCATE_FAILED, and the grant stays as it is. An entry whose grant is not in use,
not ACTIVE, not pending, or of a RETIRING tenant only leaves the list. -/
def Obligations.RelocationMovesGrant : Prop :=
  (∀ (s : State) (g c : Nat) (rest : List Work) (r : Grant) (t : TenantRecord), s.part.shaped →
      s.part.alloc.work = .attempt g :: rest → s.part.mayTake = true → g < 96 →
      s.part.grant g = some r → r.relocationPending = true → r.state = .active → r.tenant < 16 →
      s.part.tenant r.tenant = some t → t.status ≠ .retiring → t.cls = r.cls → (r.cls = .voice → r.width = 1) →
      (s.part.scanOrder t r.dir r.width).find? (s.part.passOne t r.width (some r)) = some c →
      (∀ l, r.level = some l → s.part.fits (s.part.composite - s.part.contribution g +
        (s.part.carrierWeight l ⟨r.first, r.width⟩ + s.part.carrierWeight l ⟨c, r.width⟩)) = true) →
      let rover := s.part.roverPast t.scan r.dir ⟨c, r.width⟩
      ∃ u, exec .relocationAttempt s = .next { s with part := u } ∧
        u = ({ s.part with
          tenants := u.tenants
          slices := u.slices
          grants := s.part.grants.set g (some { r with state := .moving })
          alloc := { s.part.alloc with work := rest }
          engine := s.part.engine.withJob { s.part.newJob g .move (some ⟨c, r.width⟩) with relocation := true } } : Part).capTest ∧
        s.part.claimedSince u g r.cls ⟨c, r.width⟩ ∧
        u.tenant r.tenant = some { t with
          returnRover := if r.dir = .ret then rover else t.returnRover
          forwardRover := if r.dir = .forward then rover else t.forwardRover } ∧
        ∀ k, k ≠ r.tenant → u.tenants[k]? = s.part.tenants[k]?) ∧
  ∀ (s : State) (g : Nat) (rest : List Work), s.part.alloc.work = .attempt g :: rest → s.part.mayTake = true →
    let left : Part := { s.part with alloc := { s.part.alloc with work := rest } }
    let attempted := fun (r : Grant) (t : TenantRecord) => s.part.grant g = some r ∧ r.state = .active ∧
      r.relocationPending = true ∧ s.part.tenant r.tenant = some t ∧ t.status ≠ .retiring
    ((∀ r t, ¬attempted r t) → exec .relocationAttempt s = .next { s with part := left }) ∧
    ∀ r t, attempted r t →
      let order := s.part.scanOrder t r.dir r.width
      let pass := order.find? (s.part.passOne t r.width (some r))
      let preempting := order.findSome? fun c => (s.part.passTwo t r.width (some r) c).map fun d => (c, d)
      let full := fun (c : Nat) => ∃ l, r.level = some l ∧ s.part.fits (s.part.composite - s.part.contribution g +
        (s.part.carrierWeight l ⟨r.first, r.width⟩ + s.part.carrierWeight l ⟨c, r.width⟩)) = false
      (pass = none ∧ (t.cls ≠ .data → preempting = none)) ∨ (∃ c, pass = some c ∧ full c) ∨
          (pass = none ∧ t.cls ≠ .data ∧ ∃ c d, preempting = some (c, d) ∧ full c) →
        exec .relocationAttempt s = .next { s with part := { left with events := { s.part.events with
          raised := s.part.events.raised.modify r.tenant fun v => v ||| 0x20 } } }

/-! ### The map and the levels -/

/-- A let-go slice takes the state of the let-go table: what was CLAIMED, or carries a mark, or lies in the
return band never parks; an unmarked GRANTED forward slice parks where its fill fits, else it is FREE. -/
def Obligations.LetGoTable : Prop :=
  ∀ (p : Part) (g n : Nat) (level : Option Int), n < p.slices.length →
    let e := p.slice n
    let u := p.letGoSlice g level n
    let bad : SliceEntry := ⟨.quarantined, false, e.pinned⟩
    let fill := max (-96) (level.getD 0 - p.level.fillDrop)
    let parked : SliceEntry := ⟨.parked p.level.parkTime fill, false, false⟩
    (∀ k, k ≠ n → u.slice k = p.slice k) ∧ (e.heldBy g = false → u = p) ∧
      ((e.use = .claimed g ∨ e.use = .guard g none) →
        u.slice n = if e.impaired then bad else ⟨.free, false, false⟩) ∧
      (e.use = .granted g → e.impaired = true → u.slice n = bad) ∧
      (e.use = .granted g → e.impaired = false → n < p.split → u.slice n = ⟨.free, false, false⟩) ∧
      (e.use = .granted g → e.impaired = false → p.split ≤ n → u.slice n =
        if p.level.parkTime ≠ 0 ∧ p.fits (p.setSlice n parked).composite = true then parked else ⟨.free, false, false⟩) ∧
      (∀ h, e.use = .guard g (some h) → u.slice n = { e with use := .guard h none }) ∧
      (∀ h, h ≠ g → e.use = .guard h (some g) → u.slice n = { e with use := .guard h none })

/-- SLICE_RESERVE is refused BAD_FIELD, BUSY or CONFLICT and changes nothing then; where more than one applies the
first of these is answered, an order that R15 does not give (the model's choice, assumption 28). Else it makes
every slice of its range RESERVED, from QUARANTINED with the impaired mark and the pin kept. SLICE_UNRESERVE frees
the RESERVED slices of its range, quarantining the marked ones with their pins, counts them, and leaves every
other slice. -/
def Obligations.ReservationTakesAndFrees : Prop :=
  ∀ (s : State) (tag : Byte) (q : RangeFields), s.part.shaped →
    let ok := 1 ≤ q.count ∧ q.count ≤ 64 ∧ q.first + q.count ≤ 1024
    let reserves := fun (r : Reply) (p : Part) =>
      exec (.sliceReserve tag (some q)) s = .next (s.answers (.sliceReserve tag (some q)) tag 0x26 r p)
    let unreserves := fun (r : Reply) (p : Part) =>
      exec (.sliceUnreserve tag (some q)) s = .next (s.answers (.sliceUnreserve tag (some q)) tag 0x27 r p)
    let conflict := ∃ n, q.first ≤ n ∧ n < q.first + q.count ∧ (s.part.slice n).use ≠ .free ∧
      (s.part.slice n).use ≠ .quarantined ∧ ∀ left fill, (s.part.slice n).use ≠ .parked left fill
    (s.awaits (.sliceReserve tag (some q)) tag →
      (¬ok → reserves (refuse .badField) s.part) ∧
      (ok → s.part.alloc.restoreHold = true → reserves (refuse .busy) s.part) ∧
      (ok → s.part.alloc.restoreHold = false → conflict → reserves (refuse .conflict) s.part) ∧
      (ok → s.part.alloc.restoreHold = false → ¬conflict → ∃ u : List SliceEntry,
        reserves (doneWith []) ({ s.part with slices := u } : Part).capTest ∧ u.length = 1024 ∧
        ∀ n, n < 1024 → u[n]? = some (if q.first ≤ n ∧ n < q.first + q.count then
            (if (s.part.slice n).use = .quarantined then ⟨.reserved, true, (s.part.slice n).pinned⟩
              else ⟨.reserved, false, false⟩)
          else s.part.slice n))) ∧
    (s.awaits (.sliceUnreserve tag (some q)) tag →
      (¬ok → unreserves (refuse .badField) s.part) ∧
      (ok → ∃ u : List SliceEntry, unreserves
          (doneWith [byte ((List.range' q.first q.count).countP fun n => (s.part.slice n).use == .reserved)])
          { s.part with slices := u } ∧ u.length = 1024 ∧
        ∀ n, n < 1024 → u[n]? = some (if (q.first ≤ n ∧ n < q.first + q.count) ∧ (s.part.slice n).use = .reserved then
            (if (s.part.slice n).impaired then ⟨.quarantined, false, (s.part.slice n).pinned⟩ else ⟨.free, false, false⟩)
          else s.part.slice n)))

/-- PARK_EXPIRY and TURNAROUND_EXPIRY: the time left of the timer passes for every timer (assumption 5), the slice
is FREE and its fill gone, or the tenant's interval no longer runs; with OVER_CAP clear nothing else changes. -/
def Obligations.TimersRunOut : Prop :=
  ∀ s : State,
    (∀ (n left : Nat) (fill : Int), (s.part.slice n).use = .parked left fill → s.part.level.overCap = false →
      let p := s.part.elapse left
      let freed : Part := { p with slices := p.slices.set n ⟨.free, false, false⟩ }
      exec (.parkExpiry n) s = .next { s with part := freed } ∧ freed.slice n = ⟨.free, false, false⟩ ∧
        ∀ m, m ≠ n → freed.slice m = (s.part.slice m).elapse left) ∧
    ∀ t left : Nat, s.part.engine.turnaround.getD t none = some left →
      let p := s.part.elapse left
      exec (.turnaroundExpiry t) s = .next { s with part := { p with engine := { p.engine with
        turnaround := p.engine.turnaround.set t none } } }

/-- GRANT_LEVEL that passes its checks: a level not above the present one, or one that fits, becomes the grant's
level, and the cap is tested. An increase that does not fit is refused POWER, its flag set, unmasked or under
OVER_CAP; a masked one takes the highest level that fits. -/
def Obligations.LevelChangeOutcomes : Prop :=
  ∀ (s : State) (tag : Byte) (q : LevelFields) (r : Grant) (t : TenantRecord) (old : Int),
    s.awaits (.grantLevel tag (some q)) tag → q.grant < 96 → s.part.grant q.grant = some r → r.tenant < 16 →
    s.part.tenant r.tenant = some t → t.status = .active → r.dir = .forward → r.state = .active →
    r.level = some old → -96 ≤ q.level → q.level ≤ 48 →
    let at_ := fun (v : Int) =>
      s.part.composite - s.part.contribution q.grant + s.part.carrierWeight v ⟨r.first, r.width⟩
    let becomes := fun (v : Int) (remedy : FaultSet) (p : Part) =>
      let changed : Part := { p with grants := s.part.grants.set q.grant (some { r with level := some v }) }
      exec (.grantLevel tag (some q)) s = .next (s.answers (.grantLevel tag (some q)) tag 0x30
        (doneWith [signedByte v, remedy.setWidth 8]) changed.capTest)
    let sticky := s.part.setTenant r.tenant { t with sticky := t.sticky ||| 8 }
    let refused := exec (.grantLevel tag (some q)) s =
      .next (s.answers (.grantLevel tag (some q)) tag 0x30 ⟨.power, false, [8]⟩ sticky)
    (q.level ≤ old → becomes q.level 0 s.part) ∧
      (s.part.level.overCap = true → old < q.level → refused) ∧
      (s.part.level.overCap = false → old < q.level →
        (at_ q.level ≤ s.part.level.cap → becomes q.level 0 s.part) ∧
        (s.part.level.cap < at_ q.level → t.mask &&& 8 = 0 → refused) ∧
        ∀ v, old ≤ v → v < q.level → at_ v ≤ s.part.level.cap → (∀ w, v < w → w ≤ q.level → s.part.level.cap < at_ w) →
          t.mask &&& 8 ≠ 0 → becomes v 8 sticky)

/-- The weight of a level: FRAC of the remainder, shifted by the floor quotient of the clamped level by 12. FRAC is
256 times the root, rounded to the nearest integer, and weights run from 1 to 4,096. The tilt offset is the floor of the
slope's share of the distance to the pivot, from −128 to 127, and 0 in the return band. A forward carrier is charged at
its centre slice, a return carrier nothing. A grant counts its carrier; MOVING both its carriers; RESIZING the wider;
LEAVING what its turned cycle counted, told by the model's own field `queuedAs` (assumption 22). The composite is the sum over the grants and the PARKED slices at their fills. -/
def Obligations.WeightsMakeTheComposite : Prop :=
  let frac : List Nat := [256, 271, 287, 304, 323, 342, 362, 384, 406, 431, 456, 483]
  (∀ r, r < 12 → (2 * frac.getD r 0 - 1) ^ 12 < 512 ^ 12 * 2 ^ r ∧ 512 ^ 12 * 2 ^ r < (2 * frac.getD r 0 + 1) ^ 12) ∧
  (∀ l : Int, ∃ (q : Int) (r : Nat), max (-96) (min 48 l) = 12 * q + r ∧ r < 12 ∧
    (0 ≤ q → weight l = frac.getD r 0 * 2 ^ q.toNat) ∧ (q < 0 → weight l = frac.getD r 0 / 2 ^ (-q).toNat) ∧
    1 ≤ weight l ∧ weight l ≤ 4096 ∧ (l ≤ -96 → weight l = 1) ∧ (48 ≤ l → weight l = 4096) ∧ (l = 0 → weight l = 256)) ∧
  ∀ p : Part,
    (∀ n, n < p.split → p.offset n = 0) ∧
    (∀ n, p.split ≤ n → ∃ x : Int, p.offset n = x ∧ 256 * x ≤ p.level.slope * ((n : Int) - p.level.pivot) ∧
      p.level.slope * ((n : Int) - p.level.pivot) < 256 * x + 256 ∧
      (p.level.slope ≤ 32 → p.level.pivot ≤ 1023 → n ≤ 1023 → -128 ≤ x ∧ x ≤ 127) ∧ (p.level.slope = 0 → x = 0)) ∧
    (∀ g, p.grant g = none → p.contribution g = 0) ∧
    (∀ g r, p.grant g = some r →
      let charge := fun (first width : Nat) => width * weight (r.level.getD 0 + p.offset (first + width / 2))
      let job := p.jobOf g
      (r.dir = .ret → p.contribution g = 0) ∧
      (r.dir = .forward →
        (r.state = .arriving ∨ r.state = .active ∨ (∀ j d, job = some j → j.dest ≠ some d) →
          p.contribution g = charge r.first r.width) ∧
        ∀ j d, job = some j → j.dest = some d →
          let both := charge r.first r.width + charge d.first d.width
          let wider := charge r.first (max r.width d.width)
          (r.state = .moving → p.contribution g = both) ∧ (r.state = .resizing → p.contribution g = wider) ∧
            (r.state = .leaving → p.contribution g = if j.queuedAs = .move then both else wider))) ∧
    p.composite = ((List.range 96).map p.contribution).sum + ((List.range p.slices.length).map fun n =>
      match (p.slice n).use with | .parked _ fill => weight (fill + p.offset n) | _ => 0).sum

/-- The effective SNR of a window is the lowest smoothed SNR of its slices, the assumed SNR standing for an UNKNOWN one,
less the tenant's margin, and not below 0. Over it a VIDEO carrier runs its tenant's max profile and is acceptable at
that profile's threshold; any other runs the selected profile and is acceptable from 40 steps. A grant's place is judged
bad where it is not acceptable or a slice of it is marked. The selected profile is the highest up to the limit whose
threshold is at most the effective SNR, or 0; the capacity at a profile is the floor of its product by 256, 0 at profile
0 and at most 1,740,000 kbit/s. A new estimate moves the smoothed SNR by the floored fraction, and never past the
estimate (R131). -/
def Obligations.ProfileCapacityAndSmoothing : Prop :=
  let threshold := fun p : Nat => [0, 40, 68, 92, 116, 140, 164].getD p 0
  (∀ (p : Part) (t : TenantRecord) (c w : Nat), 1 ≤ w → p.level.assumedSnr ≤ 255 →
    (∀ n, ∀ v ∈ (p.qualityOf n).smoothed, v ≤ 255) → 1 ≤ t.maxProfile → t.maxProfile ≤ 6 →
    let snr := fun n => (p.qualityOf n).smoothed.getD p.level.assumedSnr
    let acceptable := fun e => if t.cls = .video then threshold t.maxProfile ≤ e else 40 ≤ e
    ∃ e n, (c ≤ n ∧ n < c + w ∧ e = snr n - t.margin) ∧ (∀ k, c ≤ k → k < c + w → e ≤ snr k - t.margin) ∧
      p.windowProfile t c w = (if t.cls = .video then t.maxProfile else selectProfile t.maxProfile e) ∧
      (p.windowAcceptable t c w = true ↔ acceptable e) ∧
      p.placeProfile t.cls t ⟨c, w⟩ = p.windowProfile t c w ∧
      (p.placeBad t.cls t ⟨c, w⟩ = true ↔ (∃ k, c ≤ k ∧ k < c + w ∧ (p.slice k).impaired = true) ∨ ¬acceptable e)) ∧
  (∀ m e : Nat, m ≤ 6 →
    selectProfile m e ≤ m ∧ (selectProfile m e ≠ 0 → threshold (selectProfile m e) ≤ e) ∧
      ∀ p, 1 ≤ p → p ≤ m → threshold p ≤ e → p ≤ selectProfile m e) ∧
  (∀ (cls : CarrierClass) (w p : Nat), p ≤ 6 →
    let ov := match cls with | .voice => 40 | .video => 16 | .data => 24
    capacityOf cls w p = w * (2 * p) * 1250 * (256 - ov) / 256 ∧ capacityOf cls w 0 = 0) ∧
  (∀ (cls : CarrierClass) (w p : Nat), (cls = .data → w ≤ 128) → (cls ≠ .data → w ≤ 4) → capacityOf cls w p ≤ 1740000) ∧
  capacityOf .data 128 6 = 1740000 ∧
  ∀ (k s m : Nat), smooth k none m = m ∧ ((smooth k (some s) m : Int) = s + ((m : Int) - s) / 2 ^ k) ∧
    min s m ≤ smooth k (some s) m ∧ smooth k (some s) m ≤ max s m ∧ smooth 0 (some s) m = m ∧
    (m < s → smooth k (some s) m < s)

/-! ### The Plant Monitor -/

/-- SWEEP_SET stores its fields, each clamped, the release threshold kept 4 above the quarantine threshold; a bad
window is refused BAD_FIELD. SWEEP_RESTART waits for a dwell in progress, and otherwise begins the pending window at
its first measurable slice in the act. One that waits takes effect at the end of the dwell, its estimate applied, in
place of the advance; the time left of the dwell passes for every timer (the model's choice, assumption 5).
SWEEP_RESUME begins an idle sweep, and leaves one that runs. The unnamed bits of the reply's flag byte are 0: the
model's choice (assumption 41). -/
def Obligations.SweepSetsAndRestarts : Prop :=
  (∀ (s : State) (tag : Byte) (q : SweepFields), s.awaits (.sweepSet tag (some q)) tag → s.part.monitor.inRange →
      let m := s.part.monitor
      let w := q.window.getD (m.waiting.first, m.waiting.last)
      let qt := min 251 (q.qt.getD m.qt)
      let rt := max (max 4 (min 255 (q.rt.getD m.rt))) (qt + 4)
      let waiting : SweepSettings := ⟨w.1, w.2, max 2 (min 255 (q.dwell.getD m.waiting.dwell)),
        min 4 (q.shift.getD m.waiting.shift)⟩
      let nq := max 1 (min 15 (q.nq.getD m.nq))
      let nr := max 1 (min 15 (q.nr.getD m.nr))
      let clamped : Prop := qt ≠ q.qt.getD m.qt ∨ rt ≠ q.rt.getD m.rt ∨ waiting.dwell ≠ q.dwell.getD m.waiting.dwell ∨
        waiting.shift ≠ q.shift.getD m.waiting.shift ∨ nq ≠ q.nq.getD m.nq ∨ nr ≠ q.nr.getD m.nr
      (w.2 < w.1 ∨ 1023 < w.2 → exec (.sweepSet tag (some q)) s =
        .next (s.answers (.sweepSet tag (some q)) tag 0x40 (refuse .badField) s.part)) ∧
      (w.1 ≤ w.2 → w.2 ≤ 1023 → ∃ c : Bool, (c = true ↔ clamped) ∧ exec (.sweepSet tag (some q)) s =
        .next (s.answers (.sweepSet tag (some q)) tag 0x40 ⟨.done, c,
          be2 w.1 ++ be2 w.2 ++ [byte waiting.dwell, byte waiting.shift, byte qt, byte rt, byte nq, byte nr]⟩
          { s.part with monitor := { m with waiting := waiting, qt := qt, rt := rt, nq := nq, nr := nr } }))) ∧
  ∀ (s : State) (tag : Byte),
    let m := s.part.monitor
    (s.awaits (.sweepRestart tag (some ())) tag → m.dwell.isSome → exec (.sweepRestart tag (some ())) s =
      .next (s.answers (.sweepRestart tag (some ())) tag 0x41 (doneWith [1])
        { s.part with monitor := { m with restartWaiting := true } })) ∧
    (∀ n, s.awaits (.sweepRestart tag (some ())) tag → m.dwell = none →
      s.part.firstMeasurable m.waiting.first m.waiting.last = some n → exec (.sweepRestart tag (some ())) s =
      .next (s.answers (.sweepRestart tag (some ())) tag 0x41 (doneWith [0])
        { s.part with monitor := { m with
          active := m.waiting, restartWaiting := false, pointer := n, dwell := some ⟨n, m.waiting.dwell⟩ } })) ∧
    (∀ (e : Byte) (d : Dwell) (n : Nat), m.dwell = some d → m.restartWaiting = true → s.part.store.batch = none →
      (s.part.slice d.slice).mode = .strike → s.part.grantsOn (· == d.slice) = [] →
      let old := s.part.qualityOf d.slice
      let sm := smooth m.active.shift old.smoothed e.toNat
      let strikes := if sm < m.qt then min 15 (old.strikes + 1) else 0
      strikes < m.nq → s.part.firstMeasurable m.waiting.first m.waiting.last = some n →
      exec (.sweepRestartTakesEffect e) s = .next { s with part := { s.part.elapse d.left with monitor := { m with
        quality := m.quality.set d.slice ⟨some e.toNat, some sm, strikes, 0⟩
        active := m.waiting
        restartWaiting := false
        pointer := n
        dwell := some ⟨n, m.waiting.dwell⟩ } } }) ∧
    (m.dwell.isSome → exec .sweepResume s = .next s) ∧
    ∀ n, m.dwell = none → s.part.firstMeasurable m.active.first m.active.last = some n →
      exec .sweepResume s =
        .next { s with part := { s.part with monitor := { m with pointer := n, dwell := some ⟨n, m.active.dwell⟩ } } }

/-- A dwell that takes no verdict, on a slice without a grant, by counting mode: strike mode counts strikes, clear mode
clears, pinned mode neither, and CROSSOVER discards the estimate. The pointer advances to the next measurable slice, or
wraps with SWEEP_DONE and an attempt for every pending grant, or the sweep is idle. The time left of the dwell passes
for every timer (the model's choice, assumption 5). -/
def Obligations.DwellCountsStrikes : Prop :=
  ∀ (s : State) (e : Byte) (d : Dwell) (quality : List QualityEntry), s.part.monitor.dwell = some d →
    s.part.monitor.restartWaiting = false → s.part.store.batch = none → s.part.grantsOn (· == d.slice) = [] →
    let m := s.part.monitor
    let old := s.part.qualityOf d.slice
    let sm := smooth m.active.shift old.smoothed e.toNat
    let strikes := if sm < m.qt then min 15 (old.strikes + 1) else 0
    let clears := if m.rt ≤ sm then min 15 (old.clears + 1) else 0
    let mode := (s.part.slice d.slice).mode
    let becomes := fun (strikes clears : Nat) => quality = m.quality.set d.slice ⟨some e.toNat, some sm, strikes, clears⟩
    (mode = .strike ∧ strikes < m.nq ∧ becomes strikes 0) ∨ (mode = .clear ∧ clears < m.nr ∧ becomes 0 clears) ∨
      (mode = .pinned ∧ becomes 0 0) ∨ (mode = .crossover ∧ quality = m.quality) →
    let p := s.part.elapse d.left
    let at_ := fun (pointer : Nat) (dwell : Option Dwell) =>
      { p with monitor := { m with quality := quality, pointer := pointer, dwell := dwell } }
    let ahead := s.part.firstMeasurable (d.slice + 1) m.active.last
    let wrapped := s.part.firstMeasurable m.active.first m.active.last
    (∀ n, ahead = some n → exec (.dwellEnd e) s = .next { s with part := at_ n (some ⟨n, m.active.dwell⟩) }) ∧
    (∀ n, ahead = none → wrapped = some n → exec (.dwellEnd e) s = .next { s with part :=
      { at_ n (some ⟨n, m.active.dwell⟩) with
        events := { s.part.events with plantRaised := s.part.events.plantRaised ||| 0x10 }
        alloc := { s.part.alloc with work := s.part.alloc.work ++ ((List.range 96).filter fun g =>
          (s.part.grant g).any (·.relocationPending) && !s.part.alloc.work.contains (.attempt g)).map .attempt } } }) ∧
    (ahead = none → wrapped = none → exec (.dwellEnd e) s = .next { s with part := at_ m.active.first none })

/-- The strike that reaches the limit quarantines a FREE or PARKED slice and marks one in use impaired, with
QUARANTINE_SET; the clear that reaches the limit frees a QUARANTINED slice and clears the mark of one in use, with
QUARANTINE_ENDED. The counts end at 0. Every other slice only loses the time that has passed (the model's choice,
assumption 5), and without a grant on the slice nothing else of the grants and tenants changes. -/
def Obligations.StrikesQuarantine : Prop :=
  ∀ (s : State) (m : Byte) (d : Dwell), s.part.shaped → s.part.monitor.dwell = some d →
    s.part.store.batch = none → d.slice < 1024 →
    let e := s.part.slice d.slice
    let old := s.part.qualityOf d.slice
    let sm := smooth s.part.monitor.active.shift old.smoothed m.toNat
    let ends := fun (after : SliceEntry) (bit : PlantEventSet) => ∃ u, exec (.dwellEnd m) s = .next { s with part := u } ∧
      u.slice d.slice = after ∧ u.qualityOf d.slice = ⟨some m.toNat, some sm, 0, 0⟩ ∧
      u.events.plantRaised &&& bit = bit ∧ (∀ n, n ≠ d.slice → u.slice n = (s.part.slice n).elapse d.left) ∧
      (∀ n, n ≠ d.slice → u.qualityOf n = s.part.qualityOf n) ∧
      (s.part.grantsOn (· == d.slice) = [] → u.events.raised = s.part.events.raised ∧ u.grants = s.part.grants ∧
        u.tenants = s.part.tenants ∧ (s.part.level.overCap = false → u.level = s.part.level))
    (e.mode = .strike → s.part.engine.jobs = [] → sm < s.part.monitor.qt → s.part.monitor.nq ≤ min 15 (old.strikes + 1) →
      (e.available = true → ends ⟨.quarantined, false, false⟩ 4) ∧
      (e.keepsState = true → ends { e with impaired := true } 4)) ∧
    (e.mode = .clear → s.part.monitor.rt ≤ sm → s.part.monitor.nr ≤ min 15 (old.clears + 1) →
      (e.use = .quarantined → ends ⟨.free, false, false⟩ 8) ∧
      (e.keepsState = true → ends { e with impaired := false } 8))

/-- The upkeep of the one grant on a measured slice: its profile and capacity follow the effective SNR, and it is bad
where a carrier slice is marked or the SNR supports no profile. Turning bad sets both flags, raises IMPAIRED and lists
an attempt; turning good clears both. A LEAVING grant and every other grant are left. -/
def Obligations.UpkeepJudgesGrants : Prop :=
  ∀ (s : State) (e : Byte) (d : Dwell) (g : Nat) (r : Grant) (t : TenantRecord), s.part.shaped →
    s.part.monitor.dwell = some d → s.part.store.batch = none → d.slice < 1024 → (s.part.slice d.slice).mode = .strike →
    s.part.grantsOn (· == d.slice) = [g] → s.part.grant g = some r → r.tenant < 16 → s.part.tenant r.tenant = some t →
    let m := s.part.monitor
    let old := s.part.qualityOf d.slice
    let sm := smooth m.active.shift old.smoothed e.toNat
    let strikes := if sm < m.qt then min 15 (old.strikes + 1) else 0
    strikes < m.nq →
    let measured := s.part.setQuality d.slice ⟨some e.toNat, some sm, strikes, 0⟩
    let bad := measured.placeBad r.cls t ⟨r.first, r.width⟩
    ∃ u, exec (.dwellEnd e) s = .next { s with part := u } ∧ u.monitor.quality = measured.monitor.quality ∧
      (r.state = .leaving → u.grant g = some r) ∧
      (r.state ≠ .leaving → u.grant g = some (r.judged (measured.placeProfile r.cls t ⟨r.first, r.width⟩) bad) ∧
        (bad = true → r.impaired = false →
          u.events.raised.getD r.tenant 0 &&& 8 = 8 ∧ .attempt g ∈ u.alloc.work)) ∧
      ∀ h, h ≠ g → u.grant h = s.part.grant h

/-- QUARANTINE_FORCE pins every slice of its range but the CROSSOVER: FREE and PARKED ones become QUARANTINED, those in
use are marked impaired and their grants judged bad. It abandons a job in QUEUED or SETUP whose destination it reaches,
a MOVE also where the slice reached is one of its origin as well, which R118 leaves open (the model's choice,
assumption 30). QUARANTINE_LIFT frees the QUARANTINED slices, clears the marks of the others and counts what it
changed. Both end the counts of their slices; a bad range is refused BAD_FIELD. -/
def Obligations.HostQuarantineForcesAndLifts : Prop :=
  ∀ (s : State) (tag : Byte) (q : RangeFields), s.part.shaped → s.part.store.batch = none →
    let ok := 1 ≤ q.count ∧ q.count ≤ 64 ∧ q.first + q.count ≤ 1024
    let inside := fun n => q.first ≤ n ∧ n < q.first + q.count
    let bare := ∀ g r, s.part.grant g = some r → ∀ n, inside n → n ∉ r.carrier
    let forces := fun (u : Part) => exec (.quarantineForce tag (some q)) s =
      .next (s.answers (.quarantineForce tag (some q)) tag 0x42
        (doneWith [byte ((List.range' q.first q.count).countP fun n => (s.part.slice n).use != .crossover)]) u)
    (¬ok → (s.awaits (.quarantineForce tag (some q)) tag → exec (.quarantineForce tag (some q)) s =
        .next (s.answers (.quarantineForce tag (some q)) tag 0x42 (refuse .badField) s.part)) ∧
      (s.awaits (.quarantineLift tag (some q)) tag → exec (.quarantineLift tag (some q)) s =
        .next (s.answers (.quarantineLift tag (some q)) tag 0x43 (refuse .badField) s.part))) ∧
    (ok → s.awaits (.quarantineForce tag (some q)) tag → s.part.engine.jobs = [] → ∃ u, forces u ∧
      (∀ n, u.slice n =
        let e := s.part.slice n
        if ¬inside n ∨ e.use = .crossover then e
        else if e.available then ⟨.quarantined, false, true⟩
        else if e.use = .quarantined then { e with pinned := true }
        else { e with impaired := true, pinned := true }) ∧
      (∀ n, inside n → (s.part.slice n).use ≠ .crossover →
        (u.qualityOf n).strikes = 0 ∧ (u.qualityOf n).clears = 0) ∧
      (bare → u.grants = s.part.grants ∧ (s.part.level.overCap = false → u.events = s.part.events)) ∧
      ∀ g r t n, g < 96 → s.part.grant g = some r → r.state ≠ .leaving → r.tenant < 16 →
        s.part.tenant r.tenant = some t → inside n → n ∈ r.carrier → (s.part.slice n).use = .granted g →
        ∃ x, u.grant g = some x ∧ x.impaired = true ∧ (r.impaired = false → x.relocationPending = true ∧
          u.events.raised.getD r.tenant 0 &&& 8 = 8 ∧ .attempt g ∈ u.alloc.work)) ∧
    (∀ (j : Job) (r : Grant) (t : TenantRecord) (d : Place) (n : Nat), ok →
      s.awaits (.quarantineForce tag (some q)) tag → s.part.engine.jobs = [j] → j.dest = some d →
      (∀ x, j.run = some x → x.phase = .setup) → s.part.grant j.grant = some r → r.tenant < 16 →
      s.part.tenant r.tenant = some t → t.status ≠ .retiring → inside n → d.first ≤ n → n < d.first + d.width →
      (s.part.slice n).use ≠ .crossover →
      (j.kind = .activate → ∃ u, forces u ∧ u.grant j.grant = none ∧ u.engine.jobs = [] ∧
        u.tenant r.tenant = some { t with
          grants := t.grants.filter fun k => k != j.grant, lastFailure := some (j.grant, .impaired) } ∧
        u.events.raised.getD r.tenant 0 &&& 2 = 2 ∧
        ∀ k, inside k → (s.part.slice k).use = .claimed j.grant → u.slice k = ⟨.quarantined, false, true⟩) ∧
      (j.kind = .move → ∃ u x, forces u ∧ u.grant j.grant = some x ∧ x.state = .active ∧ x.first = r.first ∧
        x.width = r.width ∧ u.engine.jobs = [] ∧
        (let bit : TenantEventSet := if j.relocation then 0x20 else 0x02; u.events.raised.getD r.tenant 0 &&& bit = bit) ∧
        ∀ k, inside k → r.covers k = false → (s.part.slice k).use = .claimed j.grant →
          u.slice k = ⟨.quarantined, false, true⟩)) ∧
    (ok → s.awaits (.quarantineLift tag (some q)) tag → s.part.mapped →
      ∃ u, exec (.quarantineLift tag (some q)) s = .next (s.answers (.quarantineLift tag (some q)) tag 0x43
          (doneWith [byte ((List.range' q.first q.count).countP fun n =>
            (s.part.slice n).use == .quarantined || (s.part.slice n).impaired)]) u) ∧
        (∀ n, u.slice n =
          let e := s.part.slice n
          if ¬inside n then e
          else if e.use = .quarantined then ⟨.free, false, false⟩
          else { e with impaired := false, pinned := false }) ∧
        (∀ n, inside n → (u.qualityOf n).strikes = 0 ∧ (u.qualityOf n).clears = 0) ∧
        (bare → u.grants = s.part.grants ∧ u.events = s.part.events))

/-! ### Lineups -/

/-- LINEUP_PUSH saves the present arrangement into the slot above TOP, overwriting one in use only under the OVERFLOW
mask; unmasked it is refused OVERFLOW and changes nothing. The arrangement is one entry for every grant in use that is
not LEAVING, in ascending grant id, at the place its cycle will give it: its destination while MOVING or RESIZING. -/
def Obligations.LineupPushSaves : Prop :=
  (∀ (s : State) (tag : Byte), s.awaits (.lineupPush tag (some ())) tag →
    let n := (s.part.store.top + 3) % 4
    let saved := { s.part with store := { s.part.store with
      top := n, slots := s.part.store.slots.set n (.saved false s.part.split s.part.lineupEntries) } }
    let count := byte s.part.lineupEntries.length
    (s.part.store.slot n = .empty → exec (.lineupPush tag (some ())) s =
      .next (s.answers (.lineupPush tag (some ())) tag 0x50 (doneWith [byte n, count, 0]) saved)) ∧
    (s.part.store.slot n ≠ .empty → s.part.store.overflowMasked = true → exec (.lineupPush tag (some ())) s =
      .next (s.answers (.lineupPush tag (some ())) tag 0x50 (doneWith [byte n, count, 0x10]) saved)) ∧
    (s.part.store.slot n ≠ .empty → s.part.store.overflowMasked = false → exec (.lineupPush tag (some ())) s =
      .next (s.answers (.lineupPush tag (some ())) tag 0x50 ⟨.overflow, false, [0x10]⟩ s.part))) ∧
  ∀ p : Part,
    (∀ e ∈ p.lineupEntries, e.grant < 96 ∧ ∃ r, p.grant e.grant = some r ∧ r.state ≠ .leaving ∧ e.tenant = r.tenant ∧
      e.generation = p.generation r.tenant ∧ e.cls = r.cls ∧ e.dir = r.dir ∧ e.floor = r.floor ∧ e.level = r.level ∧
      (r.state = .arriving ∨ r.state = .active → e.first = r.first ∧ e.width = r.width) ∧
      ∀ j d, r.state = .moving ∨ r.state = .resizing → p.jobOf e.grant = some j → j.dest = some d →
        e.first = d.first ∧ e.width = d.width) ∧
    (∀ g r, g < 96 → p.grant g = some r → r.state ≠ .leaving → ∃ e ∈ p.lineupEntries, e.grant = g) ∧
    (p.lineupEntries.map (·.grant)).Pairwise (· < ·)

/-- LINEUP_ROTATE moves TOP on by one and LINEUP_DROP empties its slot, in every state; nothing else changes, four
rotations bring TOP back, and a slot outside 0..3 is refused BAD_FIELD. A pop with an EMPTY slot under TOP is
refused EMPTY. -/
def Obligations.LineupRotateAndDrop : Prop :=
  ∀ (s : State) (tag : Byte),
    (s.awaits (.lineupRotate tag (some ())) tag → exec (.lineupRotate tag (some ())) s =
      .next (s.answers (.lineupRotate tag (some ())) tag 0x52 (doneWith [byte ((s.part.store.top + 1) % 4)])
        { s.part with store := { s.part.store with top := (s.part.store.top + 1) % 4 } })) ∧
    (∀ top, top < 4 → ((((top + 1) % 4 + 1) % 4 + 1) % 4 + 1) % 4 = top) ∧
    (∀ n, s.awaits (.lineupDrop tag (some n)) tag →
      let dropped : Part := { s.part with store := { s.part.store with slots := s.part.store.slots.set n .empty } }
      (n < 4 → exec (.lineupDrop tag (some n)) s =
        .next (s.answers (.lineupDrop tag (some n)) tag 0x53 (doneWith []) dropped)) ∧
      (s.part.store.slot n = .empty → dropped = s.part) ∧
      (4 ≤ n → exec (.lineupDrop tag (some n)) s =
        .next (s.answers (.lineupDrop tag (some n)) tag 0x53 (refuse .badField) s.part))) ∧
    (s.awaits (.lineupPop tag (some ())) tag → s.part.store.slot s.part.store.top = .empty →
      exec (.lineupPop tag (some ())) s =
        .next (s.answers (.lineupPop tag (some ())) tag 0x51 (refuse .empty) s.part))

/-- LINEUP_POP makes its checks in order and changes nothing at the first that fails: BUSY while a batch runs, CONFLICT
with the saved split where it differs, BUSY with a listed live grant in a cycle, CONFLICT with the lowest slice that
fails its test, POWER, NO_RECORD. The plan: an entry of a tenant that no longer stands is skipped; a listed live grant
is moved to a place that differs, or re-levelled; any other entry is re-created; the grants in the way and the unlisted
ones of the tenants named are released, ascending. The tests are spelled out. The model's choices: under OVER_CAP the
power test asks only whether forward power is added (assumption 14), an entry places its grant elsewhere than on a
slice where its window does not cover it (assumption 20), and a marked slice that a grant to be released holds fails
also as one of two guard owners (assumption 35). -/
def Obligations.LineupPopChecksItsPlan : Prop :=
  let covers := fun (e : LineupEntry) (n : Nat) => windowCovers e.cls e.first e.width n
  let live := fun (p : Part) (e : LineupEntry) (r : Grant) =>
    p.grant e.grant = some r ∧ r.tenant = e.tenant ∧ r.dir = e.dir ∧ r.state ≠ .leaving
  (∀ (s : State) (tag : Byte) (stale : Bool) (split : Nat) (es : List LineupEntry),
    s.awaits (.lineupPop tag (some ())) tag → s.part.store.slot s.part.store.top = .saved stale split es →
    let p := s.part
    let plan := p.plan es
    let refused := fun (r : Reply) => exec (.lineupPop tag (some ())) s =
      .next (s.answers (.lineupPop tag (some ())) tag 0x51 r p)
    let busy := ∃ e r, e ∈ plan.entries ∧ live p e r ∧ r.state ≠ .active
    let fails := fun (n : Nat) => n < 1024 ∧ ∃ i ∈ plan.items, covers i.entry n = true ∧
      ((p.slice n).use = .reserved ∨ (p.slice n).use = .quarantined ∨ (p.slice n).use = .crossover ∨
        (∃ h r, h ∈ plan.entries ∧ live p h r ∧ h.grant ≠ i.entry.grant ∧ (p.slice n).heldBy h.grant = true ∧
          covers h n = false) ∨
        ((p.slice n).impaired = true ∧ ∃ g ∈ plan.releases, (p.slice n).heldBy g = true) ∨
        ∃ e r, i = .move e ∧ e.cls ≠ .data ∧ p.grant e.grant = some r ∧ r.covers n = true)
    let weighs := fun (e : LineupEntry) =>
      if e.dir = .ret then 0 else e.width * weight (e.level.getD 0 + p.offset (e.first + e.width / 2))
    let left := (plan.releases.map p.contribution).sum +
      ((plan.levels ++ plan.moves).map fun e => p.contribution e.grant).sum
    let entered := ((plan.levels ++ plan.items.map BatchItem.entry).map weighs).sum
    let adds := (∃ i ∈ plan.items, i.entry.dir = .forward) ∨
      ∃ e r, e ∈ plan.levels ∧ p.grant e.grant = some r ∧ r.level.getD 0 < e.level.getD 0
    let power := (p.level.overCap = true → ¬adds) ∧
      (p.level.overCap = false → p.composite - left + entered ≤ p.level.cap)
    let records := plan.activations.length ≤ 96 - p.grants.countP (·.isSome) + plan.releases.length ∧
      ∀ t r, t < 16 → p.tenant t = some r → (r.grants.filter fun g => !plan.releases.contains g).length +
        (plan.activations.filter fun e => e.tenant == t).length ≤
          match r.cls with | .voice => 12 | .video => 48 | .data => 6
    (p.store.batch.isSome → refused (refuse .busy)) ∧
    (p.store.batch = none →
      (split ≠ p.split → refused ⟨.conflict, false, [byte split]⟩) ∧
      (split = p.split →
        (busy → refused (refuse .busy)) ∧
        (¬busy →
          (∀ n, fails n → (∀ k, k < n → ¬fails k) → refused ⟨.conflict, false, be2 n⟩) ∧
          ((∀ n, ¬fails n) →
            (¬power → refused (refuse .power)) ∧ (power → ¬records → refused (refuse .noRecord)) ∧
            (power → records → ∃ u, exec (.lineupPop tag (some ())) s = .next (s.answers (.lineupPop tag (some ())) tag
              0x51 ⟨.accepted, false, [byte p.store.top, byte plan.skipped, byte plan.releases.length,
                byte plan.moves.length, byte plan.activations.length, byte plan.levels.length]⟩ u))))))) ∧
  ∀ (p : Part) (es : List LineupEntry),
    let plan := p.plan es
    (∀ e, p.entryStands e = true ↔
      (∃ t, p.tenant e.tenant = some t ∧ t.status ≠ .retiring) ∧ p.generation e.tenant = e.generation) ∧
    plan.entries = es.filter p.entryStands ∧ plan.skipped = es.length - plan.entries.length ∧
    (∀ e, BatchItem.move e ∈ plan.items ↔
      e ∈ plan.entries ∧ ∃ r, live p e r ∧ ¬(r.first = e.first ∧ r.width = e.width)) ∧
    (∀ e, BatchItem.activate e ∈ plan.items ↔ e ∈ plan.entries ∧ ∀ r, ¬live p e r) ∧
    (plan.items.map BatchItem.entry).Sublist plan.entries ∧
    (∀ e, e ∈ plan.levels ↔
      e ∈ plan.entries ∧ ∃ r, live p e r ∧ r.first = e.first ∧ r.width = e.width ∧ r.level ≠ e.level) ∧
    plan.levels.Sublist plan.entries ∧
    (∀ g, g ∈ plan.releases ↔ g < 96 ∧ ∃ r, p.grant g = some r ∧ (∀ e x, e ∈ plan.entries → e.grant = g → ¬live p e x) ∧
      ((∃ e ∈ plan.entries, e.tenant = r.tenant) ∨
        ∃ n i, n < 1024 ∧ i ∈ plan.items ∧ (p.slice n).heldBy g = true ∧ covers i.entry n = true)) ∧
    plan.releases.Pairwise (· < ·)

/-- LINEUP_POP that passes its checks (LineupPopChecksItsPlan states them; under OVER_CAP, assumption 14) starts a
batch. With nothing to release it stands in phase B, its level items applied, decreases first; with no item and no level
item it is over in the act. ACTIVE grants to release take RELEASE jobs with batch mark A in list order while entries are
free, and the others stay in the list. A level item is applied where it lowers or fits, and fails otherwise; it stores
its entry's floor width when it is applied, and the cap is tested after each: the model's choices (assumptions 19, 36). -/
def Obligations.LineupPopStartsBatch : Prop :=
  (∀ (s : State) (tag : Byte) (stale : Bool) (es : List LineupEntry), s.awaits (.lineupPop tag (some ())) tag →
    s.part.store.slot s.part.store.top = .saved stale s.part.split es → s.part.store.batch = none →
    (∀ j ∈ s.part.engine.jobs, j.batch = none) →
    let plan := s.part.plan es
    s.part.planBusy plan = false → s.part.planConflict plan = none → s.part.planPowerOk plan = true →
    s.part.planRecordsOk plan = true →
    let popped := { s.part.store with
      slots := s.part.store.slots.set s.part.store.top .empty, top := (s.part.store.top + 1) % 4 }
    let starts := fun (u : Part) => exec (.lineupPop tag (some ())) s =
      .next (s.answers (.lineupPop tag (some ())) tag 0x51 ⟨.accepted, false, plan.payload s.part.store.top⟩ u)
    let running := fun (b : Batch) => { s.part with
      store := { popped with batch := some b }, alloc := { s.part.alloc with restoreHold := true } }
    (plan.releases = [] → plan.levels = [] → plan.items = [] → starts (({ s.part with
      store := { popped with batch := none, last := some ⟨⟨0, 0, 0, 0⟩, false⟩ }
      alloc := { s.part.alloc with restoreHold := false } } : Part).raisePlant .lineupDone)) ∧
    (plan.releases = [] →
      let levelled :=
        ((plan.levels.filter fun e => !s.part.levelRaises e) ++ plan.levels.filter s.part.levelRaises).foldl
          Part.applyLevel (running ⟨.b, [], [], plan.items, false, false, ⟨0, 0, 0, 0⟩⟩)
      starts (if plan.items = [] then levelled.endBatch false else levelled)) ∧
    (plan.releases ≠ [] → (∀ g ∈ plan.releases, ∃ r, s.part.grant g = some r ∧ r.state = .active) →
      let k := 24 - s.part.engine.jobs.length
      ∃ u new, starts u ∧
        u.store = { popped with
          batch := some ⟨.a, plan.releases.drop k, plan.levels, plan.items, false, false, ⟨0, 0, 0, 0⟩⟩ } ∧
        u.alloc = { s.part.alloc with restoreHold := true } ∧ u.engine.jobs = s.part.engine.jobs ++ new ∧
        new.map (fun k => (k.grant, k.kind, k.dest, k.after, k.batch, k.run)) =
          (plan.releases.take k).map (fun g => (g, .release, none, none, some .a, none)) ∧
        (∀ g r, g ∈ plan.releases.take k → s.part.grant g = some r →
          u.grant g = some { r with state := .leaving, relocationPending := false }) ∧
        (∀ g, g ∉ plan.releases.take k → u.grant g = s.part.grant g) ∧ u.slices = s.part.slices)) ∧
  ∀ (p : Part) (b : Batch) (e : LineupEntry) (r : Grant) (t : TenantRecord), p.store.batch = some b →
    p.grant e.grant = some r → r.state = .active → r.tenant = e.tenant → r.dir = e.dir → p.tenant e.tenant = some t →
    t.status ≠ .retiring → p.generation e.tenant = e.generation →
    let v := e.level.getD 0
    let counted := fun (c : BatchCounts) => { p.store with batch := some { b with counts := c } }
    let fits := p.fits (p.composite - p.contribution e.grant + p.entryWeight e)
    (v ≤ r.level.getD 0 ∨ fits = true → p.applyLevel e = ({ p with
      grants := p.grants.set e.grant
        (some { r with level := some v, floor := if r.cls = .data then e.floor else r.floor })
      store := counted { b.counts with done := b.counts.done + 1 } } : Part).capTest) ∧
    (r.level.getD 0 < v → fits = false →
      p.applyLevel e = { p with store := counted { b.counts with failed := b.counts.failed + 1 } })

/-- PHASE_A_RELEASE gives the first grant of the phase-A list, where it is ACTIVE, a RELEASE job with batch mark A once an
entry is free, and nothing happens while none is. A LEAVING grant's RELEASE job takes mark A. A grant with a cycle in
flight is released by its state and phase, the job that it keeps taking mark A: in STROBE and HOLD it keeps its slices,
MOVING or RESIZING in QUEUED or SETUP it lets its destination go, and ARRIVING in QUEUED or SETUP it is freed and counts
as released. Each leaves the list. A pop that releases one grant does the same in its act. One command takes one grant,
even where more entries are free, and a turned job loses its relocation mark: the model's choices (assumptions 13, 22). -/
def Obligations.PhaseAReleasesFirstGrant : Prop :=
  (∀ (s : State) (b : Batch) (g : Nat) (rest : List Nat) (r : Grant), s.part.store.batch = some b → b.phase = .a →
    b.releases = g :: rest → g ∉ rest → s.part.grant g = some r →
    let p := s.part
    let listed := fun (b : Batch) => { p.store with batch := some { b with releases := rest } }
    let leaving := p.grants.set g (some { r with state := .leaving, relocationPending := false })
    (r.state = .active →
      (24 ≤ p.engine.jobs.length → exec .phaseARelease s = .next s) ∧
      (p.engine.jobs.length < 24 → exec .phaseARelease s = .next { s with part := p.commitTest { p with
        store := listed b
        grants := leaving
        engine := p.engine.withJob { p.newJob g .release none with batch := some .a } } })) ∧
    ∀ j, p.jobOf g = some j → (∀ x, j.run = some x → x.phase ≠ .hold → x.timings.hold ≠ 0) →
      let silent := ∀ x, j.run = some x → x.phase = .setup
      let turned := fun (dest : Option Place) (run : Option Run) => { p.engine with jobs := p.engine.jobs.map fun k =>
        if k.id = j.id then { j with
          kind := .release, relocation := false, after := none, batch := some .a, dest := dest, run := run } else k }
      (r.state = .leaving → exec .phaseARelease s = .next { s with part := { p with
        store := listed b
        engine := { p.engine with jobs := p.engine.jobs.map fun k =>
          if k.id = j.id then { k with batch := some .a } else k } } }) ∧
      (∀ x, j.run = some x → x.phase ≠ .setup → r.state = .arriving ∨ r.state = .moving ∨ r.state = .resizing →
        let run := if x.phase = .strobe then { x with phase := .hold, left := x.timings.hold } else x
        exec .phaseARelease s = .next { s with part := p.commitTest { p with
          store := listed b
          grants := leaving
          engine := turned (if r.state = .arriving then none else j.dest) (some run) } }) ∧
      (r.state = .moving ∨ r.state = .resizing → silent → p.shaped →
        ∃ u, exec .phaseARelease s = .next { s with part := u } ∧ u.store = listed b ∧ u.grants = leaving ∧
          u.engine = turned none (j.run.map fun x => { x with phase := .hold, left := x.timings.hold }) ∧
          u.tenants = p.tenants ∧ p.letGoSince u g r.level r.covers) ∧
      ∀ t, r.state = .arriving → silent → p.shaped → g < 96 → r.tenant < 16 → p.tenant r.tenant = some t →
        rest ≠ [] ∨ (∃ k ∈ p.engine.jobs, k.id ≠ j.id ∧ k.batch = some .a) →
        let others := t.grants.filter fun k => k != g
        let interval := (p.engine.timings t.cls).turnaround
        ∃ u, exec .phaseARelease s = .next { s with part := u } ∧ u.grants = p.grants.set g none ∧
          u.engine.jobs = p.engine.jobs.filter (fun k => k.id != j.id) ∧
          u.store.batch = some { b with
            releases := rest, retry := true, counts := { b.counts with released := b.counts.released + 1 } } ∧
          p.letGoSince u g r.level (fun _ => false) ∧
          (t.status ≠ .retiring ∨ others ≠ [] → u.tenant r.tenant = some { t with grants := others } ∧
            u.engine.turnaround = if j.run = none then p.engine.turnaround else
              p.engine.turnaround.set r.tenant (if interval = 0 then none else some interval)) ∧
          (t.status = .retiring → others = [] → u.tenant r.tenant = none ∧
            u.generation r.tenant = (p.generation r.tenant + 1) % 256)) ∧
  ∀ (s : State) (tag : Byte) (stale : Bool) (es : List LineupEntry) (g : Nat), s.awaits (.lineupPop tag (some ())) tag →
    s.part.store.slot s.part.store.top = .saved stale s.part.split es → s.part.store.batch = none →
    let plan := s.part.plan es
    s.part.planBusy plan = false → s.part.planConflict plan = none → s.part.planPowerOk plan = true →
    s.part.planRecordsOk plan = true → plan.releases = [g] →
    let started := { s.part with
      store := { s.part.store with
        slots := s.part.store.slots.set s.part.store.top .empty
        top := (s.part.store.top + 1) % 4
        batch := some ⟨.a, [g], plan.levels, plan.items, false, false, ⟨0, 0, 0, 0⟩⟩ }
      alloc := { s.part.alloc with restoreHold := true } }
    ∃ u, exec .phaseARelease { s with part := started } = .next { s with part := u } ∧
      exec (.lineupPop tag (some ())) s = .next (s.answers (.lineupPop tag (some ())) tag 0x51
        ⟨.accepted, false, plan.payload s.part.store.top⟩ u)

/-- LINEUP_ITEM_ISSUE. An ACTIVATE item whose window is clear fills the lowest free record from the entry, ARRIVING,
its slices claimed in its band, its job marked B, and the item gone. A MOVE item that fits makes its grant MOVING at the entry's
level and floor width, its job marked B and its destination claimed. Where it does not fit while a batch job remains it
waits, counted once, until a batch job ends, which lets it be tried again. Where it fails, or does not fit with no
batch job left, it counts as failed, and the last item ends the batch. A carrier or guard slice that is not open, or that
lies outside the grant's band, fails it too (the band is the model's reading, assumption 34), as does a grant that has
come to another tenant or direction (assumption 19). A MOVE item's grant is the ACTIVE one of its tenant and direction
that now has its id: the model's choice (assumption 40). -/
def Obligations.ItemsIssueWaitOrFail : Prop :=
  (∀ (s : State) (b : Batch) (e : LineupEntry) (rest : List BatchItem) (t : TenantRecord) (g : Nat), s.part.shaped →
      s.part.store.batch = some b → b.phase = .b → b.items = .activate e :: rest →
      b.headWaits = false → s.part.engine.jobs.length < 24 → e.tenant < 16 → s.part.tenant e.tenant = some t →
      t.status ≠ .retiring → s.part.generation e.tenant = e.generation → s.part.lowestFree = some g →
      t.grants.length < classLimit t.cls → (e.cls = .voice → e.width = 1 ∧ 1 ≤ e.first) →
      s.part.itemPlaceOk e none = true →
      (e.dir = .forward → s.part.fits (s.part.composite + s.part.entryWeight e) = true) →
      ∃ u r, exec .lineupItemIssue s = .next { s with part := u } ∧ u.grant g = some r ∧ r.tenant = e.tenant ∧
        r.cls = e.cls ∧ r.dir = e.dir ∧ r.first = e.first ∧ r.width = e.width ∧ r.floor = e.floor ∧ r.level = e.level ∧
        r.state = .arriving ∧ (∀ h, h ≠ g → u.grant h = s.part.grant h) ∧
        u.store.batch = some { b with items := rest, retry := false } ∧
        u.engine = s.part.engine.withJob { s.part.newJob g .activate (some ⟨e.first, e.width⟩) with batch := some .b } ∧
        s.part.claimedSince u g e.cls ⟨e.first, e.width⟩ ∧ u.tenant e.tenant = some { t with grants := t.grants ++ [g] } ∧
        ∀ n, windowCovers e.cls e.first e.width n = true →
          if e.dir = .forward then s.part.split + 8 ≤ n ∧ n ≤ 1023 else n ≤ s.part.split - 1) ∧
  (∀ (s : State) (b : Batch) (e : LineupEntry) (rest : List BatchItem), s.part.shaped →
    s.part.store.batch = some b → b.phase = .b → b.items = .move e :: rest → s.part.engine.jobs.length < 24 →
    let p := s.part
    let ready := b.headWaits = false ∨ b.retry = true
    let waiting := if b.headWaits then b.counts.waiting - 1 else b.counts.waiting
    let place : Place := ⟨e.first, e.width⟩
    let inside := fun (d : Direction) (n : Nat) =>
      if d = .forward then p.split + 8 ≤ n ∧ n ≤ 1023 else n ≤ p.split - 1
    let stands := fun (r : Grant) => p.grant e.grant = some r ∧ r.state = .active ∧ r.tenant = e.tenant ∧
      r.dir = e.dir ∧ e.cls = r.cls ∧ (e.cls = .voice → e.width = 1 ∧ 1 ≤ e.first) ∧ e.grant < 96 ∧ p.generation e.tenant = e.generation ∧
      (∃ t, p.tenant e.tenant = some t ∧ t.status ≠ .retiring) ∧ p.itemPlaceOk e (some r) = true
    let fits := fun (r : Grant) => p.fits (p.composite - p.contribution e.grant +
      (p.carrierWeight (e.level.getD 0) ⟨r.first, r.width⟩ + p.carrierWeight (e.level.getD 0) place))
    (∀ r, ready → stands r → (r.dir = .forward → fits r = true) →
      (∀ n, windowCovers e.cls e.first e.width n = true → inside r.dir n) ∧
      ∃ u, exec .lineupItemIssue s = .next { s with part := u } ∧
        u.grant e.grant = some { r with
          state := .moving
          level := if r.dir = .forward then e.level else r.level
          floor := if r.cls = .data then e.floor else r.floor } ∧
        (∀ h, h ≠ e.grant → u.grant h = p.grant h) ∧
        u.engine = p.engine.withJob { p.newJob e.grant .move (some place) with batch := some .b } ∧
        u.store = { p.store with batch := some { b with
          items := rest, headWaits := false, retry := false, counts := { b.counts with waiting := waiting } } } ∧
        u.tenants = p.tenants ∧
        (∀ n, windowCovers e.cls e.first e.width n = false ∨ (e.first ≤ n ∧ n < e.first + e.width ∧
          (p.slice n).available = false) → u.slice n = p.slice n) ∧
        (∀ n, e.first ≤ n → n < e.first + e.width → (p.slice n).available = true →
          u.slice n = ⟨.claimed e.grant, false, false⟩) ∧
        (e.cls = .voice → ∀ n, n + 1 = e.first ∨ n = e.first + 1 →
          ((p.slice n).available = true → u.slice n = ⟨.guard e.grant none, false, false⟩) ∧
            ∀ a, (p.slice n).use = .guard a none → a ≠ e.grant →
              u.slice n = { p.slice n with use := .guard a (some e.grant) })) ∧
    (∀ r, ready → stands r → r.dir = .forward → fits r = false → (∃ j ∈ p.engine.jobs, j.batch ≠ none) →
      exec .lineupItemIssue s = .next { s with part := { p with store := { p.store with batch := some { b with
        headWaits := true, retry := false
        counts := { b.counts with waiting := if b.headWaits then b.counts.waiting else b.counts.waiting + 1 } } } } }) ∧
    (b.headWaits = true → b.retry = false → exec .lineupItemIssue s = .next s) ∧
    (ready → rest = [] → (∀ j ∈ p.engine.jobs, j.batch = none) →
      (∀ r, p.grant e.grant = some r → r.state ≠ .active ∨ r.tenant ≠ e.tenant ∨ r.dir ≠ e.dir) ∨
        (∃ r n, p.grant e.grant = some r ∧
          ((e.first ≤ n ∧ n < e.first + e.width ∧ (¬inside r.dir n ∨ ((p.slice n).available = false ∧
            ¬(r.cls = .data ∧ r.first ≤ n ∧ n < r.first + r.width)))) ∨
          (e.cls = .voice ∧ (n = e.first - 1 ∨ n = e.first + 1) ∧
            (¬inside r.dir n ∨ (p.slice n).guardEligible = false)))) ∨
        (∃ r, stands r ∧ r.dir = .forward ∧ fits r = false) →
      exec .lineupItemIssue s = .next { s with part := ({ p with
        store := { p.store with
          batch := none
          last := some ⟨{ b.counts with failed := b.counts.failed + 1, waiting := waiting }, false⟩ }
        alloc := { p.alloc with restoreHold := false } } : Part).raisePlant .lineupDone })) ∧
  ∀ (s : State) (c : Nat) (b : Batch) (j : Job) (r : Run) (g : Grant), s.part.engine.quiet = false →
    s.part.store.batch = some b → b.phase = .b → b.items ≠ [] → s.part.jobIn c = some j → j.run = some r →
    r.phase = .hold → j.kind = .activate → s.part.grant j.grant = some g → j.batch = some .b →
    ∃ u, exec (.holdEnd c) s = .next { s with part := u } ∧ u.store = { s.part.store with batch := some { b with
      retry := true, counts := { b.counts with done := b.counts.done + 1 } } }

/-! ### Events -/

/-- EVENTS_READ returns the seventeen raised sets, whatever the masks, and clears exactly what it returned.
EVENTS_MASK replaces the masks it carries, keeps the others and the raised sets, and answers all seventeen. -/
def Obligations.EventsReadAndMask : Prop :=
  ∀ (s : State) (tag : Byte),
    (s.awaits (.eventsRead tag (some ())) tag →
      ∃ u, exec (.eventsRead tag (some ())) s = .next (s.answers (.eventsRead tag (some ())) tag 0x60
          (doneWith ((s.part.events.raised.flatMap fun v => be2 v.toNat) ++ [s.part.events.plantRaised.setWidth 8]))
          { s.part with events := u }) ∧
        u.masks = s.part.events.masks ∧ u.plantMask = s.part.events.plantMask ∧ u.plantRaised = 0 ∧
        u.raised.length = s.part.events.raised.length ∧ (∀ t, u.raised.getD t 0 = 0) ∧ u.pending = false) ∧
    ∀ q : EventsMaskFields, s.awaits (.eventsMask tag (some q)) tag →
      ∃ u, exec (.eventsMask tag (some q)) s = .next (s.answers (.eventsMask tag (some q)) tag 0x61
          (doneWith ((u.masks.flatMap fun v => be2 v.toNat) ++ [u.plantMask.setWidth 8])) { s.part with events := u }) ∧
        u.raised = s.part.events.raised ∧ u.plantRaised = s.part.events.plantRaised ∧
        u.plantMask = q.plant.getD s.part.events.plantMask ∧
        u.masks.length = s.part.events.masks.length ∧ ∀ t, t < s.part.events.masks.length →
          u.masks.getD t 0 = (q.tenants.getD t none).getD (s.part.events.masks.getD t 0)

/-! ### The plant -/

/-- PLANT_SET with a split field is refused BUSY, whole, while a grant is in use or a slice RESERVED. One that leaves
the cap, the tilt, the assumed SNR and the split stores its other fields, each clamped, and changes nothing else. A new
split, clamped, rebuilds the crossover, ends parking below it, takes every rover to the bottom of its band and ends the
counts of the slices that enter the crossover. A new tilt is put to the cap test, and a new assumed SNR brings the
upkeep of every grant on an UNKNOWN slice. The unnamed bits of the reply's flag byte are 0: the model's choice
(assumption 41). -/
def Obligations.PlantSetStores : Prop :=
  (∀ (s : State) (tag : Byte) (q : PlantFields), s.awaits (.plantSet tag (some q)) tag →
    (q.split.isSome → (∃ g r, s.part.grant g = some r) ∨
        (∃ n, n < s.part.slices.length ∧ (s.part.slice n).use = .reserved) →
      exec (.plantSet tag (some q)) s =
        .next (s.answers (.plantSet tag (some q)) tag 0x70 (refuse .busy) s.part)) ∧
    (q.split = none → q.cap = none → q.slope = none → q.pivot = none → q.assumedSnr = none →
      s.part.level.overCap = false →
      let stored := fun (hi : Nat) (v : Option Nat) (old : Nat) => (v.map (min hi)).getD old
      let timings := fun (v : TimingFields) (old : Timings) => Timings.mk (stored 1000 v.setup old.setup)
        ((v.strobeMin.map fun x => max 1 (min 1000 x)).getD old.strobeMin) (stored 60000 v.lockMax old.lockMax)
        (stored 1000 v.hold old.hold) (stored 1000 v.turnaround old.turnaround)
      exec (.plantSet tag (some q)) s = .next (s.answers (.plantSet tag (some q)) tag 0x70
        ⟨.done, plantClamped q, be3 s.part.composite ++ [0]⟩
        { s.part with
          level := { s.part.level with
            parkTime := stored 65535 q.parkTime s.part.level.parkTime
            fillDrop := stored 48 q.fillDrop s.part.level.fillDrop }
          engine := { s.part.engine with
            voice := timings q.voice s.part.engine.voice
            video := timings q.video s.part.engine.video
            data := timings q.data s.part.engine.data }
          store := { s.part.store with overflowMasked := q.overflowMasked.getD s.part.store.overflowMasked } }))) ∧
  ∀ (s : State) (tag : Byte), s.part.level.overCap = false →
    let p := s.part
    let sets := fun (q : PlantFields) (capped : Byte) (u : Part) => exec (.plantSet tag (some q)) s =
      .next (s.answers (.plantSet tag (some q)) tag 0x70 ⟨.done, plantClamped q, be3 u.composite ++ [capped]⟩ u)
    (∀ v : Nat,
      let q : PlantFields := { split := some v }
      let split := max 24 (min 192 v)
      s.awaits (.plantSet tag (some q)) tag → p.shaped → (∀ g, p.grant g = none) →
      (∀ n, n < 1024 → (p.slice n).use ≠ .reserved) →
      (split = p.split → sets q 0 p) ∧
      (split ≠ p.split → p.monitor.dwell.isSome → ∃ u, sets q 0 u ∧
        u = { p with
          split := split, slices := u.slices, tenants := u.tenants
          monitor := { p.monitor with quality := u.monitor.quality } } ∧
        (∀ n, n < 1024 →
          let inside := split ≤ n ∧ n < split + 8
          let ends := (p.slice n).use = .crossover ∨ (n < split ∧ ∃ left fill, (p.slice n).use = .parked left fill)
          (inside → u.slice n = ⟨.crossover, false, false⟩) ∧ (¬inside → ends → u.slice n = ⟨.free, false, false⟩) ∧
            (¬inside → ¬ends → u.slice n = p.slice n)) ∧
        (∀ t, u.generation t = p.generation t ∧ u.tenant t = (p.tenant t).map fun r =>
          { r with returnRover := 0, forwardRover := split + 8 }) ∧
        ∀ n, u.qualityOf n = if split ≤ n ∧ n < split + 8 ∧ ¬(p.split ≤ n ∧ n < p.split + 8) then
          { p.qualityOf n with strikes := 0, clears := 0 } else p.qualityOf n)) ∧
    (∀ slope pivot : Nat,
      let q : PlantFields := { slope := some slope, pivot := some pivot }
      let u : Part := { p with level := { p.level with slope := min 32 slope, pivot := min 1023 pivot } }
      s.awaits (.plantSet tag (some q)) tag →
      (u.composite ≤ p.level.cap → sets q 0 u) ∧
      (u.level ≠ p.level → p.level.cap < u.composite →
        (∀ n, n < 1024 → ∀ left fill, (p.slice n).use ≠ .parked left fill) →
        sets q 1 (({ u with level := { u.level with overCap := true } } : Part).raisePlant .overCap))) ∧
    ∀ snr : Nat,
      let q : PlantFields := { assumedSnr := some snr }
      s.awaits (.plantSet tag (some q)) tag → min 255 snr ≠ p.level.assumedSnr →
      sets q 0 (p.commitTest
        (((List.range 96).filter fun g => (p.grant g).any fun r => r.carrier.any fun n =>
          (p.qualityOf n).smoothed.isNone).foldl Part.upkeep
          { p with level := { p.level with assumedSnr := min 255 snr } }))

/-- A PLANT_SET of the cap alone. At or above the composite it is stored, and clears an OVER_CAP that was set, with
CAP_RESTORED. Below the composite it sets OVER_CAP, with its event where it was clear, and parking ends early: slice by
slice from the highest down, no further than to bring the composite to the cap; where that is reached OVER_CAP clears
in the same act, and both events stand raised. The unnamed bits of the reply's flag byte are 0: the model's choice
(assumption 41). -/
def Obligations.CapCrossesComposite : Prop :=
  ∀ (s : State) (tag : Byte) (cap : Nat),
    let q : PlantFields := { cap := some cap }
    let p : Part := { s.part with level := { s.part.level with cap := cap } }
    let sets := fun (u : Part) => exec (.plantSet tag (some q)) s = .next (s.answers (.plantSet tag (some q)) tag 0x70
      ⟨.done, false, be3 u.composite ++ [if u.level.overCap then 1 else 0]⟩ u)
    s.awaits (.plantSet tag (some q)) tag → 1 ≤ cap → cap ≤ 4194304 → cap ≠ s.part.level.cap → s.part.shaped →
    (s.part.composite ≤ cap → s.part.level.overCap = false → sets p) ∧
    (s.part.composite ≤ cap → s.part.level.overCap = true →
      sets (({ p with level := { p.level with overCap := false } } : Part).raisePlant .capRestored)) ∧
    (cap < s.part.composite →
      let unparked := fun k => { p with slices := s.part.slices.mapIdx fun n (e : SliceEntry) =>
        match e.use with | .parked _ _ => if k ≤ n then ⟨.free, false, false⟩ else e | _ => e }
      ∃ k, (∀ m, k < m → m ≤ 1024 → cap < (unparked m).composite) ∧ (cap < (unparked k).composite → k = 0) ∧
        let above := decide (cap < (unparked k).composite)
        let raised : PlantEventSet := (if s.part.level.overCap then 0 else 1) ||| (if above then 0 else 2)
        sets { unparked k with
          level := { p.level with overCap := above }
          events := { s.part.events with plantRaised := s.part.events.plantRaised ||| raised } })

/-- QUIET_ENTER sets the flag and discards a forward dwell without applying it: the pointer advances over the slices
that stay measurable, or a waiting restart takes effect. QUIET_LEAVE clears the flag. A SETUP or HOLD with time left
resumes with it, and a STROBE begins its lock wait afresh; one whose minimum has elapsed and whose input is asserted,
or which has no lock wait, passes to HOLD; a SETUP with no time left ends as at SETUP_END, a HOLD as at HOLD_END. An
idle sweep begins a dwell, and then jobs start as at JOB_START. Several phases that end in one leave are ordered by the
model (assumption 17), and a HOLD that stands at 0 ends only at the leave (assumption 11). Each answers whether it
changed the flag, and changes nothing where it did not. The unnamed bits of the reply's flag byte are 0: the model's
choice (assumption 41). A STROBE paused with nothing left to run waits afresh too: the model's choice (assumption 39). -/
def Obligations.QuietEntersAndLeaves : Prop :=
  ∀ (s : State) (tag : Byte),
    let m := s.part.monitor
    let p := fun on => { s.part with engine := { s.part.engine with quiet := on } }
    let enters := fun (flags : Byte) (u : Part) => exec (.quietEnter tag (some ())) s =
      .next (s.answers (.quietEnter tag (some ())) tag 0x72 (doneWith [flags]) u)
    let leaves := fun (flags : Byte) (u : Part) => exec (.quietLeave tag (some ())) s =
      .next (s.answers (.quietLeave tag (some ())) tag 0x73 (doneWith [flags]) u)
    (s.awaits (.quietEnter tag (some ())) tag →
      (s.part.engine.quiet = true → enters 1 s.part) ∧
      (s.part.engine.quiet = false →
        ((∀ d, m.dwell = some d → s.part.inForward d.slice = false) → enters 3 (p true)) ∧
        ∀ d, m.dwell = some d → s.part.inForward d.slice = true →
          let q := p true
          let at_ := fun (pointer : Nat) (dwell : Option Dwell) =>
            { q with monitor := { m with pointer := pointer, dwell := dwell } }
          let ahead := q.firstMeasurable (d.slice + 1) m.active.last
          let wrapped := q.firstMeasurable m.active.first m.active.last
          (m.restartWaiting = false →
            (∀ n, ahead = some n → enters 3 (at_ n (some ⟨n, m.active.dwell⟩))) ∧
            (∀ n, ahead = none → wrapped = some n → enters 3 { at_ n (some ⟨n, m.active.dwell⟩) with
              events := { s.part.events with plantRaised := s.part.events.plantRaised ||| 0x10 }
              alloc := { s.part.alloc with work := s.part.alloc.work ++ ((List.range 96).filter fun g =>
                (s.part.grant g).any (·.relocationPending) && !s.part.alloc.work.contains (.attempt g)).map .attempt } }) ∧
            (ahead = none → wrapped = none → enters 3 (at_ m.active.first none))) ∧
          ∀ n, m.restartWaiting = true → q.firstMeasurable m.waiting.first m.waiting.last = some n →
            enters 3 { q with monitor := { m with
              active := m.waiting, restartWaiting := false, pointer := n, dwell := some ⟨n, m.waiting.dwell⟩ } })) ∧
    (s.awaits (.quietLeave tag (some ())) tag →
      (s.part.engine.quiet = false → leaves 0 s.part) ∧
      (s.part.engine.quiet = true → s.part.store.batch = none →
        (∀ k ∈ s.part.engine.jobs, ∀ l ∈ s.part.engine.jobs, k.id = l.id → k = l) →
        let starts := fun (u : Part) => ∃ v, exec .jobStart { s with part := u } = .next { s with part := v } ∧ leaves 2 v
        let renewed := fun (x : Run) =>
          { x with lockLeft := if x.timings.lockMax ≤ x.strobeLeft then none else some x.timings.lockMax }
        let satisfied := fun (j : Job) (x : Run) => x.strobeLeft = 0 ∧
          ((∃ t, s.part.jobTenant j = some t ∧ s.part.asserted t = true) ∨ x.timings.lockMax = 0)
        ((∀ k ∈ s.part.engine.jobs, ∀ x, k.run = some x → x.channel < 4 ∧ (x.phase ≠ .strobe → x.left ≠ 0) ∧
            (x.phase = .strobe → ¬satisfied k x)) →
          (∀ k ∈ s.part.engine.jobs, ∀ l ∈ s.part.engine.jobs, ∀ x y, k.run = some x → l.run = some y →
            x.channel = y.channel → k = l) →
          let again := fun (x : Run) => if x.phase = .strobe then renewed x else x
          let resumed := fun (monitor : Monitor) => { p false with
            monitor := monitor
            engine := { (p false).engine with jobs := s.part.engine.jobs.map fun k => { k with run := k.run.map again } } }
          (m.dwell.isSome → starts (resumed m)) ∧
            ∀ n, m.dwell = none → (p false).firstMeasurable m.active.first m.active.last = some n →
              starts (resumed { m with pointer := n, dwell := some ⟨n, m.active.dwell⟩ })) ∧
        ∀ j x, j ∈ s.part.engine.jobs → j.run = some x → x.channel < 4 → m.dwell.isSome →
          (∀ k ∈ s.part.engine.jobs, k.run.isSome → k = j) →
          (x.phase = .setup → x.left = 0 → ∃ h, exec (.setupEnd x.channel) { s with part := p false } =
            .next { s with part := h } ∧ starts h) ∧
          (x.phase = .hold → x.left = 0 → ∃ h, exec (.holdEnd x.channel) { s with part := p false } =
            .next { s with part := h } ∧ ((h.freeChannel = none ∨ h.engine.jobs.find? h.eligible = none) → leaves 2 h)) ∧
          (x.phase = .strobe → satisfied j x → x.timings.hold ≠ 0 → starts { p false with
            engine := { (p false).engine with jobs := s.part.engine.jobs.map fun k => if k.id = j.id then
              { k with run := some { renewed x with phase := .hold, left := x.timings.hold } } else k } })))

/-- ENGINE_RESET ends all work in progress and keeps the configuration, from every state: the split, the power fields,
the timings, the sweep settings, thresholds and limits, the masks, QUIET, every tenant that is not RETIRING but for its
grant list and last failure, and the slots' contents unless a retire completes. The placement items are answered
ABORTED, oldest first, then DONE with the two counts. The attempt list is empty. Every grant still in use is ACTIVE with
its flags as they were. A single job ends by its kind and phase: an ACTIVATE in QUEUED or SETUP is lost with the reason
RESET, and later it is ACTIVE. A MOVE or RESIZE before HOLD leaves its grant where it is, with the floor width it stored
(the model's choice, assumption 33), and one in HOLD completes, its profile and capacity recomputed at its destination.
A RELEASE frees its grant. An ACTIVATE that waits on a RESIZE which is abandoned is lost with the reason PREEMPT_LOST. -/
def Obligations.EngineResetEndsAllWork : Prop :=
  ∀ (s : State) (tag : Byte),
    let frees := fun (u : Part) (k : Nat) (g : Grant) (t : TenantRecord) (failure : Option (Nat × FailureReason)) =>
      let rest := t.grants.filter fun h => h != k
      u.grant k = none ∧
        (t.status ≠ .retiring ∨ rest ≠ [] →
          u.tenant g.tenant = some { t with grants := rest, lastFailure := failure }) ∧
        (t.status = .retiring → rest = [] → u.tenant g.tenant = none ∧
          u.generation g.tenant = (s.part.generation g.tenant + 1) % 256)
    ∃ u l, exec (.engineReset tag (some ())) s = .next { s with link := l, part := u } ∧
    (u.engine.jobs = [] ∧ u.alloc.work = [] ∧ u.alloc.restoreHold = false ∧ u.alloc.reply = s.part.alloc.reply ∧
      u.store.batch = none ∧ u.store.slots.length = s.part.store.slots.length ∧ u.store.top = s.part.store.top ∧
      u.events.plantRaised = 0x40 ∧ (∀ t, u.events.raised.getD t 0 = 0) ∧ u.events.masks = s.part.events.masks ∧
      u.events.plantMask = s.part.events.plantMask ∧ (∀ t, u.engine.turnaround.getD t none = none) ∧
      u.engine.quiet = s.part.engine.quiet ∧ u.engine.nextId = s.part.engine.nextId ∧ u.split = s.part.split ∧
      u.monitor.restartWaiting = false ∧
      u.monitor.active = s.part.monitor.active ∧ u.monitor.waiting = s.part.monitor.waiting ∧
      (∀ n, (u.qualityOf n).strikes = 0 ∧ (u.qualityOf n).clears = 0 ∧
        (u.qualityOf n).smoothed = (s.part.qualityOf n).smoothed) ∧ u.ready = s.part.ready) ∧
    (u.level = { s.part.level with overCap := u.level.overCap } ∧ u.engine.voice = s.part.engine.voice ∧
      u.engine.video = s.part.engine.video ∧ u.engine.data = s.part.engine.data ∧
      u.monitor.qt = s.part.monitor.qt ∧ u.monitor.rt = s.part.monitor.rt ∧ u.monitor.nq = s.part.monitor.nq ∧
      u.monitor.nr = s.part.monitor.nr ∧ u.store.overflowMasked = s.part.store.overflowMasked ∧
      u.monitor.dwell = (u.firstMeasurable u.monitor.active.first u.monitor.active.last).map
        fun n => ⟨n, u.monitor.active.dwell⟩) ∧
    (∀ t r, s.part.tenant t = some r → r.status ≠ .retiring → u.generation t = s.part.generation t ∧
      ∃ v, u.tenant t = some v ∧ { v with grants := r.grants, lastFailure := r.lastFailure } = r) ∧
    ((∀ t r, s.part.tenant t = some r → r.status ≠ .retiring) → u.store.slots = s.part.store.slots) ∧
    (s.part.store.batch = none → u.store.last = s.part.store.last) ∧
    (s.part.store.batch.isSome → ∃ c, u.store.last = some ⟨c, true⟩) ∧
    ((s.part.engine.jobs.map (·.id)).Nodup →
      (∀ g r, s.part.grant g = some r → r.state ≠ .active → ∃ j ∈ s.part.engine.jobs, j.grant = g) →
      ∀ g r, u.grant g = some r → r.state = .active) ∧
    (∀ g r, u.grant g = some r → ∃ v, s.part.grant g = some v ∧ r.tenant = v.tenant ∧ r.cls = v.cls ∧ r.dir = v.dir ∧
      r.floor = v.floor ∧ r.level = v.level ∧ r.impaired = v.impaired ∧ r.relocationPending = v.relocationPending) ∧
    (s.part.shaped → ∀ j g t, j.grant < 96 → j.after = none → s.part.grant j.grant = some g → g.tenant < 16 →
        s.part.tenant g.tenant = some t →
        let silent := ∀ x, j.run = some x → x.phase = .setup
        let holds := ∃ x, j.run = some x ∧ x.phase = .hold
        let stays := fun (r : Grant) => u.grant j.grant = some r ∧ u.tenants = s.part.tenants
        (s.part.engine.jobs = [j] →
          (∀ h, h ≠ j.grant → u.grant h = s.part.grant h) ∧
          (j.kind = .activate → silent → frees u j.grant g t (some (j.grant, .reset)) ∧
            s.part.letGoSince u j.grant g.level fun _ => false) ∧
          (j.kind = .activate → ¬silent → stays { g with state := .active } ∧ u.slices = s.part.slices) ∧
          (j.kind = .move ∨ j.kind = .resize → ¬holds → stays { g with state := .active } ∧
            s.part.letGoSince u j.grant g.level g.covers) ∧
          (∀ d, j.kind = .move ∨ j.kind = .resize → holds → j.dest = some d →
            let profile := s.part.placeProfile g.cls t d
            stays { g with first := d.first, width := d.width, state := .active, profile := profile
                           capacity := capacityOf g.cls d.width profile } ∧
            s.part.letGoSince u j.grant g.level (windowCovers g.cls d.first d.width)) ∧
          (j.kind = .release → frees u j.grant g t t.lastFailure ∧
            s.part.letGoSince u j.grant g.level fun _ => false)) ∧
        ∀ w h y, s.part.engine.jobs = [j, w] → j.kind = .resize → ¬holds → w.kind = .activate → w.after = some j.id →
          w.id ≠ j.id → w.grant ≠ j.grant → w.grant < 96 → s.part.grant w.grant = some h → h.tenant < 16 →
          s.part.tenant h.tenant = some y → u.grant j.grant = some { g with state := .active } ∧
            frees u w.grant h y (some (w.grant, .preemptLost))) ∧
    let items := s.part.placementQueue
    let owing := items.filter fun i => !i.detached
    (s.awaits (.engineReset tag (some ())) tag → (∀ i ∈ owing, i.tag ∈ s.link.outstanding ∧ i.tag ≠ tag) →
      (owing.map (·.tag)).Nodup → s.link.outstanding.Nodup →
      l = { s.link with
        delivered := s.link.delivered.erase ⟨.engineReset tag (some ()), false⟩
        outstanding := l.outstanding
        outbound := s.link.outbound ++ (owing.map fun i => replyFrame i.tag i.fields.kind (refuse .aborted)) ++
          [replyFrame tag 0x74 (doneWith [byte items.length, byte s.part.engine.jobs.length])] } ∧
      ∀ x, x ∈ l.outstanding ↔ x ∈ s.link.outstanding ∧ x ≠ tag ∧ ∀ i ∈ owing, i.tag ≠ x)

/-! ### Cycles -/

/-- JOB_START starts the oldest eligible job in the lowest free channel with copies of its class's timings: a
RELEASE enters HOLD, a shrink STROBE, and an ACTIVATE, a MOVE or a grow SETUP. It goes on in the same act until no
channel is free or no job eligible. -/
def Obligations.JobStartsInLowestChannel : Prop :=
  (∀ (s : State) (j : Job) (c : Nat) (r : Grant), s.part.store.batch = none →
    s.part.engine.jobs.find? s.part.eligible = some j → s.part.freeChannel = some c → s.part.grant j.grant = some r →
    (∀ k ∈ s.part.engine.jobs, k.id = j.id → k = j) →
    let stuck := fun (p : Part) => p.freeChannel = none ∨ p.engine.jobs.find? p.eligible = none
    let tm := s.part.engine.timings r.cls
    let started := fun (run : Run) => { s.part with engine := { s.part.engine with
      jobs := s.part.engine.jobs.map fun k => if k.id = j.id then { k with run := some run } else k } }
    let starts := fun (run : Run) => stuck (started run) → exec .jobStart s = .next { s with part := started run }
    (j.kind = .release → tm.hold ≠ 0 → starts ⟨c, .hold, tm.hold, 0, none, tm⟩) ∧
    (∀ d, j.kind = .resize → j.dest = some d → d.width ≤ r.width →
      (∀ n, d.first ≤ n → n < d.first + d.width → (s.part.slice n).use ≠ .claimed j.grant) →
      starts ⟨c, .strobe, 0, tm.strobeMin, if tm.lockMax ≤ tm.strobeMin then none else some tm.lockMax, tm⟩) ∧
    (j.kind = .activate ∨ j.kind = .move ∨ (j.kind = .resize ∧ ∃ d, j.dest = some d ∧ r.width < d.width) →
      tm.setup ≠ 0 → starts ⟨c, .setup, tm.setup, 0, none, tm⟩)) ∧
  ∀ s t : State, exec .jobStart s = .next t →
    t.part.freeChannel = none ∨ ∀ k ∈ t.part.engine.jobs, t.part.eligible k = false

/-- SETUP_END: the time left of SETUP passes (assumption 5), STROBE begins with its minimum and its lock wait, and
every CLAIMED slice of the destination becomes GRANTED, marks kept. -/
def Obligations.SetupEndBeginsStrobe : Prop :=
  ∀ (s : State) (c : Nat) (j : Job) (r : Run) (d : Place), s.part.shaped → s.part.engine.quiet = false →
    s.part.jobIn c = some j → j.run = some r → r.phase = .setup → j.dest = some d →
    (∀ k ∈ s.part.engine.jobs, k.id = j.id → k = j) →
    let p := s.part.elapse r.left
    let strobe : Run := { r with
      phase := .strobe
      left := 0
      strobeLeft := r.timings.strobeMin
      lockLeft := if r.timings.lockMax ≤ r.timings.strobeMin then none else some r.timings.lockMax }
    ∃ u : List SliceEntry, exec (.setupEnd c) s = .next { s with part := { p with
        slices := u
        engine := { p.engine with
          jobs := p.engine.jobs.map fun k => if k.id = j.id then { k with run := some strobe } else k } } } ∧
      u.length = 1024 ∧ ∀ n, n < 1024 → u[n]? = some
        (if d.first ≤ n ∧ n < d.first + d.width ∧ (s.part.slice n).use = .claimed j.grant then
          { s.part.slice n with use := .granted j.grant }
        else (s.part.slice n).elapse r.left)

/-- READY_INPUT_CHANGE: a raw rising edge raises READY_RISE, and a change of an input on which no STROBE waits does
nothing else. STROBE_MINIMUM_ELAPSED: with the input asserted, or with no lock wait, HOLD begins in full; otherwise
STROBE waits on with no strobe minimum left. LOCK_WAIT_TIMEOUT: with the input not asserted, LOCK_TIMEOUT is raised and
HOLD begins in full; asserted it does nothing. Each takes the time its timer had left (the model's choice, assumption
5). A change of the input on which a STROBE waits: HOLD begins in full where the minimum has elapsed and the input is
now asserted; with the minimum still running, or the input not asserted, the lock wait goes on. -/
def Obligations.ReadyRisesAndStrobeEnds : Prop :=
  (∀ (s : State) (t : Nat) (level : Bool), t < 16 → s.part.store.batch = none →
      (∀ j ∈ s.part.engine.jobs, s.part.jobTenant j = some t → ∀ r, j.run = some r → r.phase ≠ .strobe) →
      let p := { s.part with ready := s.part.ready.set t level }
      exec (.readyInputChange t level) s =
        .next { s with part := if s.part.ready.getD t false = false ∧ level = true then p.raise t .readyRise else p }) ∧
  ∀ (s : State) (c t : Nat) (j : Job) (r : Run), s.part.engine.quiet = false → s.part.store.batch = none →
    s.part.jobIn c = some j → j.run = some r → r.phase = .strobe → s.part.jobTenant j = some t →
    (∀ k ∈ s.part.engine.jobs, k.id = j.id → k = j) → r.timings.hold ≠ 0 →
    let runs := fun (p : Part) (run : Run) => { p with engine := { p.engine with
      jobs := p.engine.jobs.map fun k => if k.id = j.id then { k with run := some run } else k } }
    let p := s.part.elapse r.strobeLeft
    let waited : Run := { r with strobeLeft := 0, lockLeft := r.lockLeft.map (· - r.strobeLeft) }
    (s.part.asserted t = true ∨ r.lockLeft = none → exec (.strobeMinimumElapsed c) s =
      .next { s with part := runs p { waited with phase := .hold, left := r.timings.hold } }) ∧
    (s.part.asserted t = false → r.lockLeft.isSome →
      exec (.strobeMinimumElapsed c) s = .next { s with part := runs p waited }) ∧
    (∀ left, r.lockLeft = some left → s.part.asserted t = false →
      exec (.lockWaitTimeout c) s = .next { s with part := runs ((s.part.elapse left).raise t .lockTimeout) { r with
        phase := .hold, left := r.timings.hold, strobeLeft := r.strobeLeft - left, lockLeft := some 0 } }) ∧
    (∀ left, r.lockLeft = some left → s.part.asserted t = true → exec (.lockWaitTimeout c) s = .next s) ∧
    ((∀ k ∈ s.part.engine.jobs, s.part.jobTenant k = some t → k.run.isSome → k = j) → ∀ level : Bool,
      let changed : Part := { s.part with ready := s.part.ready.set t level }
      let q := if s.part.ready.getD t false = false ∧ level = true then changed.raise t .readyRise else changed
      (r.strobeLeft = 0 → q.asserted t = true → exec (.readyInputChange t level) s =
        .next { s with part := runs q { r with phase := .hold, left := r.timings.hold } }) ∧
      (r.strobeLeft ≠ 0 ∨ (q.asserted t = false ∧ r.lockLeft.isSome) →
        exec (.readyInputChange t level) s = .next { s with part := q }))

/-- HOLD_END of a MOVE or a RESIZE: the grant is ACTIVE at its destination, its profile, capacity and flags judged there
as after a dwell. What it holds outside its new place is let go, or passes to the grant whose job waits on this one
where it lies in that window. GRANT_DONE is raised, with RELOCATED for a relocation, the job leaves the list, the
turnaround begins, and what waited waits no longer. The time left passes for every timer (assumption 5). -/
def Obligations.HoldEndMovesAndResizes : Prop :=
  ∀ (s : State) (c : Nat) (j : Job) (r : Run) (g : Grant) (t : TenantRecord) (d : Place), s.part.shaped →
    s.part.engine.quiet = false → s.part.store.batch = none → s.part.jobIn c = some j → j.run = some r →
    r.phase = .hold → j.kind = .move ∨ j.kind = .resize → j.dest = some d → j.grant < 96 →
    s.part.grant j.grant = some g → g.tenant < 16 → s.part.tenant g.tenant = some t →
    let p := s.part.elapse r.left
    let interval := (s.part.engine.timings t.cls).turnaround
    let bad := s.part.placeBad g.cls t d
    let covers := windowCovers g.cls d.first d.width
    let passes := fun (n : Nat) (w : Job) (e : Place) => s.part.waiterOn j.id = some w ∧ w.dest = some e ∧
      (s.part.slice n).use = .granted j.grant ∧ windowCovers (s.part.jobClass w) e.first e.width n = true
    ∃ u, exec (.holdEnd c) s = .next { s with part := u } ∧
      u.grant j.grant = some (({ g with first := d.first, width := d.width, state := .active } : Grant).judged
        (s.part.placeProfile g.cls t d) bad) ∧
      (bad = true → g.impaired = false → u.events.raised.getD g.tenant 0 &&& 8 = 8 ∧ .attempt j.grant ∈ u.alloc.work) ∧
      (∀ h, h ≠ j.grant → u.grant h = s.part.grant h) ∧ u.tenants = s.part.tenants ∧
      u.events.raised.getD g.tenant 0 &&& 1 = 1 ∧
      (j.kind = .move → j.relocation = true → u.events.raised.getD g.tenant 0 &&& 0x10 = 0x10) ∧
      u.engine = { p.engine with
        jobs := (p.engine.jobs.filter fun k => k.id != j.id).map fun k =>
          if k.after = some j.id then { k with after := none } else k
        turnaround := p.engine.turnaround.set g.tenant (if interval = 0 then none else some interval) } ∧
      (∀ n, (s.part.slice n).heldBy j.grant = false ∨ covers n = true → u.slice n = (s.part.slice n).elapse r.left) ∧
      ∀ n, (s.part.slice n).heldBy j.grant = true → covers n = false →
        (∀ w e, passes n w e → u.slice n = { s.part.slice n with
          use := if e.first ≤ n ∧ n < e.first + e.width then SliceUse.claimed w.grant else SliceUse.guard w.grant none }) ∧
        ((∀ w e, ¬passes n w e) → (s.part.slice n).use ≠ .guard j.grant (some j.grant) →
          (u.slice n).heldBy j.grant = false ∧ ((s.part.slice n).use = .granted j.grant →
            (s.part.slice n).impaired = true → u.slice n = ⟨.quarantined, false, (s.part.slice n).pinned⟩))

/-- HOLD_END of an ACTIVATE: its grant is ACTIVE at its place, GRANT_DONE is raised, the job leaves the list, the
tenant's turnaround begins, and what waited on the job waits no longer. HOLD_END of a RELEASE that no job waits on: the
record is freed, its id leaves the tenant's list, GRANT_DONE is raised, the job leaves the list, and the last one of a
RETIRING tenant completes its retire. The carrier leaves the composite, which may clear OVER_CAP; then every slice held
takes the next state of the let-go table in ascending order, an unmarked GRANTED forward slice PARKED where its fill
fits beside the fills below it. The time left passes for every timer (assumption 5). -/
def Obligations.HoldEndActivatesAndReleases : Prop :=
  (∀ (s : State) (c : Nat) (j : Job) (r : Run) (g : Grant) (t : TenantRecord), s.part.engine.quiet = false →
    s.part.store.batch = none → s.part.jobIn c = some j → j.run = some r → r.phase = .hold → j.kind = .activate →
    s.part.grant j.grant = some g → s.part.tenant g.tenant = some t → j.batch = none →
    let p := s.part.elapse r.left
    let left := (s.part.engine.timings t.cls).turnaround
    let finished : Part := { p.raise g.tenant .grantDone with
      grants := s.part.grants.set j.grant (some { g with state := .active })
      engine := { p.engine with
        jobs := (p.engine.jobs.filter fun k => k.id != j.id).map fun k =>
          if k.after = some j.id then { k with after := none } else k
        turnaround := p.engine.turnaround.set g.tenant (if left = 0 then none else some left) } }
    exec (.holdEnd c) s = .next { s with part := s.part.commitTest finished }) ∧
  ∀ (s : State) (c : Nat) (j : Job) (r : Run) (g : Grant) (t : TenantRecord), s.part.shaped → s.part.engine.quiet = false →
    s.part.store.batch = none → s.part.jobIn c = some j → j.run = some r → r.phase = .hold → j.kind = .release →
    s.part.grant j.grant = some g → g.tenant < 16 → s.part.tenant g.tenant = some t → j.batch = none →
    (∀ k ∈ s.part.engine.jobs, k.after ≠ some j.id) →
    let p := s.part.elapse r.left
    let rest := t.grants.filter fun k => k != j.grant
    let free : SliceEntry := ⟨.free, false, false⟩
    let parked : SliceEntry := ⟨.parked s.part.level.parkTime (max (-96) (g.level.getD 0 - s.part.level.fillDrop)),
      false, false⟩
    ∃ u, exec (.holdEnd c) s = .next { s with part := u } ∧ u.grant j.grant = none ∧
      (∀ h, h ≠ j.grant → u.grant h = s.part.grant h) ∧ u.job j.id = none ∧
      u.events.raised.getD g.tenant 0 &&& 1 = 1 ∧
      (let done := fun (n : Nat) (e : List SliceEntry) => ({ p with
          grants := s.part.grants.set j.grant none, slices := u.slices.take n ++ e ++ p.slices.drop (n + e.length) } : Part)
        let cleared := s.part.level.overCap = true ∧ (done 0 []).composite ≤ s.part.level.cap
        let fits := fun n => (s.part.level.overCap = false ∨ cleared) ∧ (done n [parked]).composite ≤ s.part.level.cap
        (u.level.overCap = true ↔ s.part.level.overCap = true ∧ ¬cleared) ∧
        (cleared → u.events.plantRaised &&& 2 = 2) ∧
        (∀ n, (s.part.slice n).heldBy j.grant = false → u.slice n = (s.part.slice n).elapse r.left) ∧
        ∀ n,
          let e := s.part.slice n
          let bad : SliceEntry := ⟨.quarantined, false, e.pinned⟩
          (e.use = .claimed j.grant ∨ e.use = .guard j.grant none → u.slice n = if e.impaired then bad else free) ∧
            (e.use = .granted j.grant → e.impaired = true → u.slice n = bad) ∧
            (e.use = .granted j.grant → e.impaired = false → n < s.part.split → u.slice n = free) ∧
            (e.use = .granted j.grant → e.impaired = false → s.part.split ≤ n →
              (s.part.level.parkTime ≠ 0 ∧ fits n → u.slice n = parked) ∧
                (¬(s.part.level.parkTime ≠ 0 ∧ fits n) → u.slice n = free)) ∧
            (∀ h, e.use = .guard j.grant (some h) → u.slice n = { e with use := .guard h none }) ∧
            ∀ h, h ≠ j.grant → e.use = .guard h (some j.grant) → u.slice n = { e with use := .guard h none }) ∧
      (t.status ≠ .retiring ∨ rest ≠ [] → u.tenant g.tenant = some { t with grants := rest }) ∧
      (t.status = .retiring → rest = [] →
        u.tenant g.tenant = none ∧ u.generation g.tenant = (s.part.generation g.tenant + 1) % 256)
end

