-- ==== Sys2Proof/Laws/State.lean ====
section
/-! SUPPORT. What each update of the part leaves in each field, and what the accessors read after it. All of
them are simp lemmas, so that no proof unfolds a record update. -/

namespace Sys2Proof.Machine

variable (p : Part)

/-! ### setSlice -/

@[simp] theorem Part.setSlice_ready (n : Nat) (e : SliceEntry) : (p.setSlice n e).ready = p.ready := rfl
@[simp] theorem Part.setSlice_tenants (n : Nat) (e : SliceEntry) : (p.setSlice n e).tenants = p.tenants := rfl
@[simp] theorem Part.setSlice_split (n : Nat) (e : SliceEntry) : (p.setSlice n e).split = p.split := rfl
@[simp] theorem Part.setSlice_slices (n : Nat) (e : SliceEntry) : (p.setSlice n e).slices = p.slices.set n e := rfl
@[simp] theorem Part.setSlice_grants (n : Nat) (e : SliceEntry) : (p.setSlice n e).grants = p.grants := rfl
@[simp] theorem Part.setSlice_alloc (n : Nat) (e : SliceEntry) : (p.setSlice n e).alloc = p.alloc := rfl
@[simp] theorem Part.setSlice_level (n : Nat) (e : SliceEntry) : (p.setSlice n e).level = p.level := rfl
@[simp] theorem Part.setSlice_engine (n : Nat) (e : SliceEntry) : (p.setSlice n e).engine = p.engine := rfl
@[simp] theorem Part.setSlice_monitor (n : Nat) (e : SliceEntry) : (p.setSlice n e).monitor = p.monitor := rfl
@[simp] theorem Part.setSlice_store (n : Nat) (e : SliceEntry) : (p.setSlice n e).store = p.store := rfl
@[simp] theorem Part.setSlice_events (n : Nat) (e : SliceEntry) : (p.setSlice n e).events = p.events := rfl
@[simp] theorem Part.setSlice_drawn (n : Nat) (e : SliceEntry) : (p.setSlice n e).drawn = p.drawn := rfl

/-! ### setGrant -/

@[simp] theorem Part.setGrant_ready (g : Nat) (r : Option Grant) : (p.setGrant g r).ready = p.ready := rfl
@[simp] theorem Part.setGrant_tenants (g : Nat) (r : Option Grant) : (p.setGrant g r).tenants = p.tenants := rfl
@[simp] theorem Part.setGrant_split (g : Nat) (r : Option Grant) : (p.setGrant g r).split = p.split := rfl
@[simp] theorem Part.setGrant_slices (g : Nat) (r : Option Grant) : (p.setGrant g r).slices = p.slices := rfl
@[simp] theorem Part.setGrant_grants (g : Nat) (r : Option Grant) : (p.setGrant g r).grants = p.grants.set g r := rfl
@[simp] theorem Part.setGrant_alloc (g : Nat) (r : Option Grant) : (p.setGrant g r).alloc = p.alloc := rfl
@[simp] theorem Part.setGrant_level (g : Nat) (r : Option Grant) : (p.setGrant g r).level = p.level := rfl
@[simp] theorem Part.setGrant_engine (g : Nat) (r : Option Grant) : (p.setGrant g r).engine = p.engine := rfl
@[simp] theorem Part.setGrant_monitor (g : Nat) (r : Option Grant) : (p.setGrant g r).monitor = p.monitor := rfl
@[simp] theorem Part.setGrant_store (g : Nat) (r : Option Grant) : (p.setGrant g r).store = p.store := rfl
@[simp] theorem Part.setGrant_events (g : Nat) (r : Option Grant) : (p.setGrant g r).events = p.events := rfl
@[simp] theorem Part.setGrant_drawn (g : Nat) (r : Option Grant) : (p.setGrant g r).drawn = p.drawn := rfl

/-! ### setTenant -/

@[simp] theorem Part.setTenant_ready (t : Nat) (r : TenantRecord) : (p.setTenant t r).ready = p.ready := rfl
@[simp] theorem Part.setTenant_tenants (t : Nat) (r : TenantRecord) :
    (p.setTenant t r).tenants = p.tenants.modify t fun x => { x with record := some r } := rfl
@[simp] theorem Part.setTenant_split (t : Nat) (r : TenantRecord) : (p.setTenant t r).split = p.split := rfl
@[simp] theorem Part.setTenant_slices (t : Nat) (r : TenantRecord) : (p.setTenant t r).slices = p.slices := rfl
@[simp] theorem Part.setTenant_grants (t : Nat) (r : TenantRecord) : (p.setTenant t r).grants = p.grants := rfl
@[simp] theorem Part.setTenant_alloc (t : Nat) (r : TenantRecord) : (p.setTenant t r).alloc = p.alloc := rfl
@[simp] theorem Part.setTenant_level (t : Nat) (r : TenantRecord) : (p.setTenant t r).level = p.level := rfl
@[simp] theorem Part.setTenant_engine (t : Nat) (r : TenantRecord) : (p.setTenant t r).engine = p.engine := rfl
@[simp] theorem Part.setTenant_monitor (t : Nat) (r : TenantRecord) : (p.setTenant t r).monitor = p.monitor := rfl
@[simp] theorem Part.setTenant_store (t : Nat) (r : TenantRecord) : (p.setTenant t r).store = p.store := rfl
@[simp] theorem Part.setTenant_events (t : Nat) (r : TenantRecord) : (p.setTenant t r).events = p.events := rfl
@[simp] theorem Part.setTenant_drawn (t : Nat) (r : TenantRecord) : (p.setTenant t r).drawn = p.drawn := rfl

/-! ### setJobs -/

@[simp] theorem Part.setJobs_ready (js : List Job) : (p.setJobs js).ready = p.ready := rfl
@[simp] theorem Part.setJobs_tenants (js : List Job) : (p.setJobs js).tenants = p.tenants := rfl
@[simp] theorem Part.setJobs_split (js : List Job) : (p.setJobs js).split = p.split := rfl
@[simp] theorem Part.setJobs_slices (js : List Job) : (p.setJobs js).slices = p.slices := rfl
@[simp] theorem Part.setJobs_grants (js : List Job) : (p.setJobs js).grants = p.grants := rfl
@[simp] theorem Part.setJobs_alloc (js : List Job) : (p.setJobs js).alloc = p.alloc := rfl
@[simp] theorem Part.setJobs_level (js : List Job) : (p.setJobs js).level = p.level := rfl
@[simp] theorem Part.setJobs_engine (js : List Job) : (p.setJobs js).engine = { p.engine with jobs := js } := rfl
@[simp] theorem Part.setJobs_monitor (js : List Job) : (p.setJobs js).monitor = p.monitor := rfl
@[simp] theorem Part.setJobs_store (js : List Job) : (p.setJobs js).store = p.store := rfl
@[simp] theorem Part.setJobs_events (js : List Job) : (p.setJobs js).events = p.events := rfl
@[simp] theorem Part.setJobs_drawn (js : List Job) : (p.setJobs js).drawn = p.drawn := rfl

/-! ### mapJob -/

@[simp] theorem Part.mapJob_ready (i : Nat) (f : Job → Job) : (p.mapJob i f).ready = p.ready := rfl
@[simp] theorem Part.mapJob_tenants (i : Nat) (f : Job → Job) : (p.mapJob i f).tenants = p.tenants := rfl
@[simp] theorem Part.mapJob_split (i : Nat) (f : Job → Job) : (p.mapJob i f).split = p.split := rfl
@[simp] theorem Part.mapJob_slices (i : Nat) (f : Job → Job) : (p.mapJob i f).slices = p.slices := rfl
@[simp] theorem Part.mapJob_grants (i : Nat) (f : Job → Job) : (p.mapJob i f).grants = p.grants := rfl
@[simp] theorem Part.mapJob_alloc (i : Nat) (f : Job → Job) : (p.mapJob i f).alloc = p.alloc := rfl
@[simp] theorem Part.mapJob_level (i : Nat) (f : Job → Job) : (p.mapJob i f).level = p.level := rfl
@[simp] theorem Part.mapJob_engine (i : Nat) (f : Job → Job) :
    (p.mapJob i f).engine = { p.engine with jobs := p.engine.jobs.map fun j => if j.id == i then f j else j } := rfl
@[simp] theorem Part.mapJob_monitor (i : Nat) (f : Job → Job) : (p.mapJob i f).monitor = p.monitor := rfl
@[simp] theorem Part.mapJob_store (i : Nat) (f : Job → Job) : (p.mapJob i f).store = p.store := rfl
@[simp] theorem Part.mapJob_events (i : Nat) (f : Job → Job) : (p.mapJob i f).events = p.events := rfl
@[simp] theorem Part.mapJob_drawn (i : Nat) (f : Job → Job) : (p.mapJob i f).drawn = p.drawn := rfl

/-! ### dropJob -/

@[simp] theorem Part.dropJob_ready (i : Nat) : (p.dropJob i).ready = p.ready := rfl
@[simp] theorem Part.dropJob_tenants (i : Nat) : (p.dropJob i).tenants = p.tenants := rfl
@[simp] theorem Part.dropJob_split (i : Nat) : (p.dropJob i).split = p.split := rfl
@[simp] theorem Part.dropJob_slices (i : Nat) : (p.dropJob i).slices = p.slices := rfl
@[simp] theorem Part.dropJob_grants (i : Nat) : (p.dropJob i).grants = p.grants := rfl
@[simp] theorem Part.dropJob_alloc (i : Nat) : (p.dropJob i).alloc = p.alloc := rfl
@[simp] theorem Part.dropJob_level (i : Nat) : (p.dropJob i).level = p.level := rfl
@[simp] theorem Part.dropJob_engine (i : Nat) :
    (p.dropJob i).engine = { p.engine with jobs := p.engine.jobs.filter fun j => j.id != i } := rfl
@[simp] theorem Part.dropJob_monitor (i : Nat) : (p.dropJob i).monitor = p.monitor := rfl
@[simp] theorem Part.dropJob_store (i : Nat) : (p.dropJob i).store = p.store := rfl
@[simp] theorem Part.dropJob_events (i : Nat) : (p.dropJob i).events = p.events := rfl
@[simp] theorem Part.dropJob_drawn (i : Nat) : (p.dropJob i).drawn = p.drawn := rfl

/-! ### clearAfter -/

@[simp] theorem Part.clearAfter_ready (i : Nat) : (p.clearAfter i).ready = p.ready := rfl
@[simp] theorem Part.clearAfter_tenants (i : Nat) : (p.clearAfter i).tenants = p.tenants := rfl
@[simp] theorem Part.clearAfter_split (i : Nat) : (p.clearAfter i).split = p.split := rfl
@[simp] theorem Part.clearAfter_slices (i : Nat) : (p.clearAfter i).slices = p.slices := rfl
@[simp] theorem Part.clearAfter_grants (i : Nat) : (p.clearAfter i).grants = p.grants := rfl
@[simp] theorem Part.clearAfter_alloc (i : Nat) : (p.clearAfter i).alloc = p.alloc := rfl
@[simp] theorem Part.clearAfter_level (i : Nat) : (p.clearAfter i).level = p.level := rfl
@[simp] theorem Part.clearAfter_engine (i : Nat) :
    (p.clearAfter i).engine = { p.engine with jobs := p.engine.jobs.map fun j => if j.after == some i then { j with after := none } else j } := rfl
@[simp] theorem Part.clearAfter_monitor (i : Nat) : (p.clearAfter i).monitor = p.monitor := rfl
@[simp] theorem Part.clearAfter_store (i : Nat) : (p.clearAfter i).store = p.store := rfl
@[simp] theorem Part.clearAfter_events (i : Nat) : (p.clearAfter i).events = p.events := rfl
@[simp] theorem Part.clearAfter_drawn (i : Nat) : (p.clearAfter i).drawn = p.drawn := rfl

/-! ### mapBatch -/

@[simp] theorem Part.mapBatch_ready (f : Batch → Batch) : (p.mapBatch f).ready = p.ready := rfl
@[simp] theorem Part.mapBatch_tenants (f : Batch → Batch) : (p.mapBatch f).tenants = p.tenants := rfl
@[simp] theorem Part.mapBatch_split (f : Batch → Batch) : (p.mapBatch f).split = p.split := rfl
@[simp] theorem Part.mapBatch_slices (f : Batch → Batch) : (p.mapBatch f).slices = p.slices := rfl
@[simp] theorem Part.mapBatch_grants (f : Batch → Batch) : (p.mapBatch f).grants = p.grants := rfl
@[simp] theorem Part.mapBatch_alloc (f : Batch → Batch) : (p.mapBatch f).alloc = p.alloc := rfl
@[simp] theorem Part.mapBatch_level (f : Batch → Batch) : (p.mapBatch f).level = p.level := rfl
@[simp] theorem Part.mapBatch_engine (f : Batch → Batch) : (p.mapBatch f).engine = p.engine := rfl
@[simp] theorem Part.mapBatch_monitor (f : Batch → Batch) : (p.mapBatch f).monitor = p.monitor := rfl
@[simp] theorem Part.mapBatch_store (f : Batch → Batch) :
    (p.mapBatch f).store = { p.store with batch := p.store.batch.map f } := rfl
@[simp] theorem Part.mapBatch_events (f : Batch → Batch) : (p.mapBatch f).events = p.events := rfl
@[simp] theorem Part.mapBatch_drawn (f : Batch → Batch) : (p.mapBatch f).drawn = p.drawn := rfl

/-! ### raise -/

@[simp] theorem Part.raise_ready (t : Nat) (e : TenantEvent) : (p.raise t e).ready = p.ready := rfl
@[simp] theorem Part.raise_tenants (t : Nat) (e : TenantEvent) : (p.raise t e).tenants = p.tenants := rfl
@[simp] theorem Part.raise_split (t : Nat) (e : TenantEvent) : (p.raise t e).split = p.split := rfl
@[simp] theorem Part.raise_slices (t : Nat) (e : TenantEvent) : (p.raise t e).slices = p.slices := rfl
@[simp] theorem Part.raise_grants (t : Nat) (e : TenantEvent) : (p.raise t e).grants = p.grants := rfl
@[simp] theorem Part.raise_alloc (t : Nat) (e : TenantEvent) : (p.raise t e).alloc = p.alloc := rfl
@[simp] theorem Part.raise_level (t : Nat) (e : TenantEvent) : (p.raise t e).level = p.level := rfl
@[simp] theorem Part.raise_engine (t : Nat) (e : TenantEvent) : (p.raise t e).engine = p.engine := rfl
@[simp] theorem Part.raise_monitor (t : Nat) (e : TenantEvent) : (p.raise t e).monitor = p.monitor := rfl
@[simp] theorem Part.raise_store (t : Nat) (e : TenantEvent) : (p.raise t e).store = p.store := rfl
@[simp] theorem Part.raise_events (t : Nat) (e : TenantEvent) :
    (p.raise t e).events = { p.events with raised := p.events.raised.modify t (· ||| e.bit) } := rfl
@[simp] theorem Part.raise_drawn (t : Nat) (e : TenantEvent) : (p.raise t e).drawn = p.drawn := rfl

/-! ### raisePlant -/

@[simp] theorem Part.raisePlant_ready (e : PlantEvent) : (p.raisePlant e).ready = p.ready := rfl
@[simp] theorem Part.raisePlant_tenants (e : PlantEvent) : (p.raisePlant e).tenants = p.tenants := rfl
@[simp] theorem Part.raisePlant_split (e : PlantEvent) : (p.raisePlant e).split = p.split := rfl
@[simp] theorem Part.raisePlant_slices (e : PlantEvent) : (p.raisePlant e).slices = p.slices := rfl
@[simp] theorem Part.raisePlant_grants (e : PlantEvent) : (p.raisePlant e).grants = p.grants := rfl
@[simp] theorem Part.raisePlant_alloc (e : PlantEvent) : (p.raisePlant e).alloc = p.alloc := rfl
@[simp] theorem Part.raisePlant_level (e : PlantEvent) : (p.raisePlant e).level = p.level := rfl
@[simp] theorem Part.raisePlant_engine (e : PlantEvent) : (p.raisePlant e).engine = p.engine := rfl
@[simp] theorem Part.raisePlant_monitor (e : PlantEvent) : (p.raisePlant e).monitor = p.monitor := rfl
@[simp] theorem Part.raisePlant_store (e : PlantEvent) : (p.raisePlant e).store = p.store := rfl
@[simp] theorem Part.raisePlant_events (e : PlantEvent) :
    (p.raisePlant e).events = { p.events with plantRaised := p.events.plantRaised ||| e.bit } := rfl
@[simp] theorem Part.raisePlant_drawn (e : PlantEvent) : (p.raisePlant e).drawn = p.drawn := rfl

/-! ### setTurnaround -/

@[simp] theorem Part.setTurnaround_ready (t : Nat) (v : Option Nat) : (p.setTurnaround t v).ready = p.ready := rfl
@[simp] theorem Part.setTurnaround_tenants (t : Nat) (v : Option Nat) :
    (p.setTurnaround t v).tenants = p.tenants := rfl
@[simp] theorem Part.setTurnaround_split (t : Nat) (v : Option Nat) : (p.setTurnaround t v).split = p.split := rfl
@[simp] theorem Part.setTurnaround_slices (t : Nat) (v : Option Nat) : (p.setTurnaround t v).slices = p.slices := rfl
@[simp] theorem Part.setTurnaround_grants (t : Nat) (v : Option Nat) : (p.setTurnaround t v).grants = p.grants := rfl
@[simp] theorem Part.setTurnaround_alloc (t : Nat) (v : Option Nat) : (p.setTurnaround t v).alloc = p.alloc := rfl
@[simp] theorem Part.setTurnaround_level (t : Nat) (v : Option Nat) : (p.setTurnaround t v).level = p.level := rfl
@[simp] theorem Part.setTurnaround_engine (t : Nat) (v : Option Nat) :
    (p.setTurnaround t v).engine = { p.engine with turnaround := p.engine.turnaround.set t v } := rfl
@[simp] theorem Part.setTurnaround_monitor (t : Nat) (v : Option Nat) :
    (p.setTurnaround t v).monitor = p.monitor := rfl
@[simp] theorem Part.setTurnaround_store (t : Nat) (v : Option Nat) : (p.setTurnaround t v).store = p.store := rfl
@[simp] theorem Part.setTurnaround_events (t : Nat) (v : Option Nat) : (p.setTurnaround t v).events = p.events := rfl
@[simp] theorem Part.setTurnaround_drawn (t : Nat) (v : Option Nat) : (p.setTurnaround t v).drawn = p.drawn := rfl

/-! ### markStale -/

@[simp] theorem Part.markStale_ready (t : Nat) : (p.markStale t).ready = p.ready := rfl
@[simp] theorem Part.markStale_tenants (t : Nat) : (p.markStale t).tenants = p.tenants := rfl
@[simp] theorem Part.markStale_split (t : Nat) : (p.markStale t).split = p.split := rfl
@[simp] theorem Part.markStale_slices (t : Nat) : (p.markStale t).slices = p.slices := rfl
@[simp] theorem Part.markStale_grants (t : Nat) : (p.markStale t).grants = p.grants := rfl
@[simp] theorem Part.markStale_alloc (t : Nat) : (p.markStale t).alloc = p.alloc := rfl
@[simp] theorem Part.markStale_level (t : Nat) : (p.markStale t).level = p.level := rfl
@[simp] theorem Part.markStale_engine (t : Nat) : (p.markStale t).engine = p.engine := rfl
@[simp] theorem Part.markStale_monitor (t : Nat) : (p.markStale t).monitor = p.monitor := rfl
@[simp] theorem Part.markStale_store (t : Nat) :
    (p.markStale t).store = { p.store with slots := p.store.slots.map (Slot.staleFor t) } := rfl
@[simp] theorem Part.markStale_events (t : Nat) : (p.markStale t).events = p.events := rfl
@[simp] theorem Part.markStale_drawn (t : Nat) : (p.markStale t).drawn = p.drawn := rfl

/-! ### setQuality -/

@[simp] theorem Part.setQuality_ready (n : Nat) (q : QualityEntry) : (p.setQuality n q).ready = p.ready := rfl
@[simp] theorem Part.setQuality_tenants (n : Nat) (q : QualityEntry) : (p.setQuality n q).tenants = p.tenants := rfl
@[simp] theorem Part.setQuality_split (n : Nat) (q : QualityEntry) : (p.setQuality n q).split = p.split := rfl
@[simp] theorem Part.setQuality_slices (n : Nat) (q : QualityEntry) : (p.setQuality n q).slices = p.slices := rfl
@[simp] theorem Part.setQuality_grants (n : Nat) (q : QualityEntry) : (p.setQuality n q).grants = p.grants := rfl
@[simp] theorem Part.setQuality_alloc (n : Nat) (q : QualityEntry) : (p.setQuality n q).alloc = p.alloc := rfl
@[simp] theorem Part.setQuality_level (n : Nat) (q : QualityEntry) : (p.setQuality n q).level = p.level := rfl
@[simp] theorem Part.setQuality_engine (n : Nat) (q : QualityEntry) : (p.setQuality n q).engine = p.engine := rfl
@[simp] theorem Part.setQuality_monitor (n : Nat) (q : QualityEntry) :
    (p.setQuality n q).monitor = { p.monitor with quality := p.monitor.quality.set n q } := rfl
@[simp] theorem Part.setQuality_store (n : Nat) (q : QualityEntry) : (p.setQuality n q).store = p.store := rfl
@[simp] theorem Part.setQuality_events (n : Nat) (q : QualityEntry) : (p.setQuality n q).events = p.events := rfl
@[simp] theorem Part.setQuality_drawn (n : Nat) (q : QualityEntry) : (p.setQuality n q).drawn = p.drawn := rfl

/-! ### dwellOn -/

@[simp] theorem Part.dwellOn_ready (o : Option Nat) : (p.dwellOn o).ready = p.ready := rfl
@[simp] theorem Part.dwellOn_tenants (o : Option Nat) : (p.dwellOn o).tenants = p.tenants := rfl
@[simp] theorem Part.dwellOn_split (o : Option Nat) : (p.dwellOn o).split = p.split := rfl
@[simp] theorem Part.dwellOn_slices (o : Option Nat) : (p.dwellOn o).slices = p.slices := rfl
@[simp] theorem Part.dwellOn_grants (o : Option Nat) : (p.dwellOn o).grants = p.grants := rfl
@[simp] theorem Part.dwellOn_alloc (o : Option Nat) : (p.dwellOn o).alloc = p.alloc := rfl
@[simp] theorem Part.dwellOn_level (o : Option Nat) : (p.dwellOn o).level = p.level := rfl
@[simp] theorem Part.dwellOn_engine (o : Option Nat) : (p.dwellOn o).engine = p.engine := rfl
@[simp] theorem Part.dwellOn_monitor (o : Option Nat) :
    (p.dwellOn o).monitor = { p.monitor with pointer := o.getD p.monitor.active.first, dwell := o.map fun n => ⟨n, p.monitor.active.dwell⟩ } := rfl
@[simp] theorem Part.dwellOn_store (o : Option Nat) : (p.dwellOn o).store = p.store := rfl
@[simp] theorem Part.dwellOn_events (o : Option Nat) : (p.dwellOn o).events = p.events := rfl
@[simp] theorem Part.dwellOn_drawn (o : Option Nat) : (p.dwellOn o).drawn = p.drawn := rfl

/-! ### setQuiet -/

@[simp] theorem Part.setQuiet_ready (b : Bool) : (p.setQuiet b).ready = p.ready := rfl
@[simp] theorem Part.setQuiet_tenants (b : Bool) : (p.setQuiet b).tenants = p.tenants := rfl
@[simp] theorem Part.setQuiet_split (b : Bool) : (p.setQuiet b).split = p.split := rfl
@[simp] theorem Part.setQuiet_slices (b : Bool) : (p.setQuiet b).slices = p.slices := rfl
@[simp] theorem Part.setQuiet_grants (b : Bool) : (p.setQuiet b).grants = p.grants := rfl
@[simp] theorem Part.setQuiet_alloc (b : Bool) : (p.setQuiet b).alloc = p.alloc := rfl
@[simp] theorem Part.setQuiet_level (b : Bool) : (p.setQuiet b).level = p.level := rfl
@[simp] theorem Part.setQuiet_engine (b : Bool) : (p.setQuiet b).engine = { p.engine with quiet := b } := rfl
@[simp] theorem Part.setQuiet_monitor (b : Bool) : (p.setQuiet b).monitor = p.monitor := rfl
@[simp] theorem Part.setQuiet_store (b : Bool) : (p.setQuiet b).store = p.store := rfl
@[simp] theorem Part.setQuiet_events (b : Bool) : (p.setQuiet b).events = p.events := rfl
@[simp] theorem Part.setQuiet_drawn (b : Bool) : (p.setQuiet b).drawn = p.drawn := rfl

/-! ### enqueue -/

@[simp] theorem Part.enqueue_ready (i : QueueItem) : (p.enqueue i).ready = p.ready := rfl
@[simp] theorem Part.enqueue_tenants (i : QueueItem) : (p.enqueue i).tenants = p.tenants := rfl
@[simp] theorem Part.enqueue_split (i : QueueItem) : (p.enqueue i).split = p.split := rfl
@[simp] theorem Part.enqueue_slices (i : QueueItem) : (p.enqueue i).slices = p.slices := rfl
@[simp] theorem Part.enqueue_grants (i : QueueItem) : (p.enqueue i).grants = p.grants := rfl
@[simp] theorem Part.enqueue_alloc (i : QueueItem) :
    (p.enqueue i).alloc = { p.alloc with work := p.alloc.work ++ [.item i] } := rfl
@[simp] theorem Part.enqueue_level (i : QueueItem) : (p.enqueue i).level = p.level := rfl
@[simp] theorem Part.enqueue_engine (i : QueueItem) : (p.enqueue i).engine = p.engine := rfl
@[simp] theorem Part.enqueue_monitor (i : QueueItem) : (p.enqueue i).monitor = p.monitor := rfl
@[simp] theorem Part.enqueue_store (i : QueueItem) : (p.enqueue i).store = p.store := rfl
@[simp] theorem Part.enqueue_events (i : QueueItem) : (p.enqueue i).events = p.events := rfl
@[simp] theorem Part.enqueue_drawn (i : QueueItem) : (p.enqueue i).drawn = p.drawn := rfl

/-! ### dropFront -/

@[simp] theorem Part.dropFront_ready : p.dropFront.ready = p.ready := rfl
@[simp] theorem Part.dropFront_tenants : p.dropFront.tenants = p.tenants := rfl
@[simp] theorem Part.dropFront_split : p.dropFront.split = p.split := rfl
@[simp] theorem Part.dropFront_slices : p.dropFront.slices = p.slices := rfl
@[simp] theorem Part.dropFront_grants : p.dropFront.grants = p.grants := rfl
@[simp] theorem Part.dropFront_alloc : p.dropFront.alloc = { p.alloc with work := p.alloc.work.tail } := rfl
@[simp] theorem Part.dropFront_level : p.dropFront.level = p.level := rfl
@[simp] theorem Part.dropFront_engine : p.dropFront.engine = p.engine := rfl
@[simp] theorem Part.dropFront_monitor : p.dropFront.monitor = p.monitor := rfl
@[simp] theorem Part.dropFront_store : p.dropFront.store = p.store := rfl
@[simp] theorem Part.dropFront_events : p.dropFront.events = p.events := rfl
@[simp] theorem Part.dropFront_drawn : p.dropFront.drawn = p.drawn := rfl

/-! ### elapse -/

@[simp] theorem Part.elapse_ready (ms : Nat) : (p.elapse ms).ready = p.ready := rfl
@[simp] theorem Part.elapse_tenants (ms : Nat) : (p.elapse ms).tenants = p.tenants := rfl
@[simp] theorem Part.elapse_split (ms : Nat) : (p.elapse ms).split = p.split := rfl
@[simp] theorem Part.elapse_grants (ms : Nat) : (p.elapse ms).grants = p.grants := rfl
@[simp] theorem Part.elapse_alloc (ms : Nat) : (p.elapse ms).alloc = p.alloc := rfl
@[simp] theorem Part.elapse_level (ms : Nat) : (p.elapse ms).level = p.level := rfl
@[simp] theorem Part.elapse_store (ms : Nat) : (p.elapse ms).store = p.store := rfl
@[simp] theorem Part.elapse_events (ms : Nat) : (p.elapse ms).events = p.events := rfl
@[simp] theorem Part.elapse_drawn (ms : Nat) : (p.elapse ms).drawn = p.drawn := rfl
@[simp] theorem Part.elapse_slices (ms : Nat) : (p.elapse ms).slices = p.slices.map (SliceEntry.elapse ms) := rfl
@[simp] theorem Part.elapse_quiet (ms : Nat) : (p.elapse ms).engine.quiet = p.engine.quiet := rfl
@[simp] theorem Part.elapse_quality (ms : Nat) : (p.elapse ms).monitor.quality = p.monitor.quality := rfl
@[simp] theorem Part.elapse_grant (ms g : Nat) : (p.elapse ms).grant g = p.grant g := rfl
@[simp] theorem Part.elapse_tenant (ms t : Nat) : (p.elapse ms).tenant t = p.tenant t := rfl

/-! ### What the accessors read -/

theorem Part.slice_setSlice (n : Nat) (e : SliceEntry) (m : Nat) :
    (p.setSlice n e).slice m = if m = n ∧ n < p.slices.length then e else p.slice m := by
  simp only [Part.slice, Part.setSlice_slices, List.getD_eq_getElem?_getD, List.getElem?_set]
  by_cases h : n = m
  · subst h
    by_cases hn : n < p.slices.length
    · simp [hn]
    · simp [hn]
  · simp [h, Ne.symm h]

@[simp] theorem Part.slice_setSlice_self (n : Nat) (e : SliceEntry) (h : n < p.slices.length) :
    (p.setSlice n e).slice n = e := by simp [Part.slice_setSlice, h]

@[simp] theorem Part.slice_setSlice_ne (n : Nat) (e : SliceEntry) (m : Nat) (h : m ≠ n) :
    (p.setSlice n e).slice m = p.slice m := by simp [Part.slice_setSlice, h]

theorem Part.grant_setGrant (g : Nat) (r : Option Grant) (h : Nat) :
    (p.setGrant g r).grant h = if h = g ∧ g < p.grants.length then r else p.grant h := by
  simp only [Part.grant, Part.setGrant_grants, List.getD_eq_getElem?_getD, List.getElem?_set]
  by_cases e : g = h
  · subst e
    by_cases hn : g < p.grants.length
    · simp [hn]
    · simp [hn]
  · simp [e, Ne.symm e]

/-- A grant record in use lies in the pool. -/
theorem Part.lt_of_grant {p : Part} {g : Nat} {r : Grant} (h : p.grant g = some r) : g < p.grants.length := by
  by_contra hn
  simp [Part.grant, List.getD_eq_getElem?_getD, List.getElem?_eq_none (Nat.le_of_not_lt hn)] at h

@[simp] theorem Part.grant_setGrant_ne (g : Nat) (r : Option Grant) (h : Nat) (e : h ≠ g) :
    (p.setGrant g r).grant h = p.grant h := by simp [Part.grant_setGrant, e]

theorem Part.grant_setGrant_self {p : Part} {g : Nat} {r : Grant} (x : Option Grant) (h : p.grant g = some r) :
    (p.setGrant g x).grant g = x := by simp [Part.grant_setGrant, Part.lt_of_grant h]

/-- A tenant that is not EMPTY lies in the table. -/
theorem Part.lt_of_tenant {p : Part} {t : Nat} {r : TenantRecord} (h : p.tenant t = some r) : t < p.tenants.length := by
  by_contra hn
  simp [Part.tenant, List.getD_eq_getElem?_getD, List.getElem?_eq_none (Nat.le_of_not_lt hn)] at h

theorem Part.tenant_setTenant (t : Nat) (r : TenantRecord) (k : Nat) :
    (p.setTenant t r).tenant k = if k = t ∧ t < p.tenants.length then some r else p.tenant k := by
  simp only [Part.tenant, Part.setTenant_tenants, List.getD_eq_getElem?_getD, List.getElem?_modify]
  by_cases e : t = k
  · subst e
    by_cases hn : t < p.tenants.length
    · simp [hn]
    · simp [hn]
  · simp [e, Ne.symm e]

theorem Part.tenant_setTenant_self {p : Part} {t : Nat} {x : TenantRecord} (r : TenantRecord) (h : p.tenant t = some x) :
    (p.setTenant t r).tenant t = some r := by simp [Part.tenant_setTenant, Part.lt_of_tenant h]

@[simp] theorem Part.tenant_setTenant_ne (t : Nat) (r : TenantRecord) (k : Nat) (e : k ≠ t) :
    (p.setTenant t r).tenant k = p.tenant k := by simp [Part.tenant_setTenant, e]

/-- The generation of every tenant survives a new record. -/
@[simp] theorem Part.generation_setTenant (t : Nat) (r : TenantRecord) (k : Nat) :
    (p.setTenant t r).generation k = p.generation k := by
  simp only [Part.generation, Part.setTenant_tenants, List.getD_eq_getElem?_getD, List.getElem?_modify]
  by_cases e : t = k
  · subst e
    cases p.tenants[t]? <;> simp
  · simp [e]

/-- Time reaches every map entry; a slice outside the grid reads the same. -/
theorem Part.slice_elapse (ms n : Nat) : (p.elapse ms).slice n = (p.slice n).elapse ms := by
  simp only [Part.slice, Part.elapse_slices, List.getD_eq_getElem?_getD, List.getElem?_map]
  cases p.slices[n]? <;> rfl

/-- The job and the run of a channel that stands in a phase, outside QUIET. -/
theorem Part.phaseIn_eq {p : Part} {c : Nat} {j : Job} {r : Run} (hq : p.engine.quiet = false)
    (hj : p.jobIn c = some j) (hr : j.run = some r) : p.phaseIn c r.phase = some (j, r) := by
  simp [Part.phaseIn, hq, hj, hr]

/-! ### The accessors look at their own table only -/

theorem Part.slice_congr {p q : Part} (h : q.slices = p.slices) (n : Nat) : q.slice n = p.slice n := by
  simp [Part.slice, h]

theorem Part.grant_congr {p q : Part} (h : q.grants = p.grants) (g : Nat) : q.grant g = p.grant g := by
  simp [Part.grant, h]

theorem Part.tenant_congr {p q : Part} (h : q.tenants = p.tenants) (t : Nat) : q.tenant t = p.tenant t := by
  simp [Part.tenant, h]

theorem Part.delivered_congr {p q : Part} (h : q.grants = p.grants) (t : Nat) : q.delivered t = p.delivered t := by
  simp [Part.delivered, h]

theorem Part.jobOf_congr {p q : Part} (h : q.engine.jobs = p.engine.jobs) (g : Nat) : q.jobOf g = p.jobOf g := by
  simp [Part.jobOf, h]

end Sys2Proof.Machine
end

