-- ==== Sys2Proof/Laws/Kept.lean ====
section
/-! SUPPORT. What each shared operation keeps, and how far it can lengthen the job list. `Part.Kept n p q` says
that `q` is `p` after such an operation with at most `n` jobs queued: the lemmas here give it for every shared
operation of `Machine/Ops`, `Upkeep`, `CycleOps` and `LineupOps`; `Laws/Sweep` does so for `SweepOps`. -/

namespace Sys2Proof.Machine

/-- A change of a map entry keeps it sound and neither makes nor unmakes a crossover slice (R1, R3). -/
def SliceEntry.Follows (e f : SliceEntry) : Prop :=
  e.sound = true → f.sound = true ∧ (f.use = .crossover ↔ e.use = .crossover)

@[simp] theorem SliceEntry.Follows.refl (e : SliceEntry) : e.Follows e := fun h => ⟨h, Iff.rfl⟩

theorem SliceEntry.Follows.trans {e f g : SliceEntry} (h : e.Follows f) (k : f.Follows g) : e.Follows g := fun he =>
  ⟨(k (h he).1).1, (k (h he).1).2.trans (h he).2⟩

/-- Between `p` and `q` the ready inputs, the split, the sizes of all tables, the stored power settings, the
timings, QUIET, the Plant Monitor, TOP, the plant fault mask, the enable masks and the reply in build stand;
every map entry stays sound, in or out of the crossover; the job list is at most `n` longer, and with `n = 0`
the next-id counter stands. -/
structure Part.Kept (n : Nat) (p q : Part) : Prop where
  ready : q.ready = p.ready
  split : q.split = p.split
  tenants : q.tenants.length = p.tenants.length
  slices : q.slices.length = p.slices.length
  map : ∀ i, (p.slice i).Follows (q.slice i)
  grants : q.grants.length = p.grants.length
  reply : q.alloc.reply = p.alloc.reply
  level : q.level = { p.level with overCap := q.level.overCap }
  turnaround : q.engine.turnaround.length = p.engine.turnaround.length
  voice : q.engine.voice = p.engine.voice
  video : q.engine.video = p.engine.video
  data : q.engine.data = p.engine.data
  quiet : q.engine.quiet = p.engine.quiet
  monitor : q.monitor = p.monitor
  slots : q.store.slots.length = p.store.slots.length
  top : q.store.top = p.store.top
  overflow : q.store.overflowMasked = p.store.overflowMasked
  raised : q.events.raised.length = p.events.raised.length
  masks : q.events.masks = p.events.masks
  plantMask : q.events.plantMask = p.events.plantMask
  jobs : q.engine.jobs.length ≤ p.engine.jobs.length + n
  nextId : n = 0 → q.engine.nextId = p.engine.nextId

namespace Part.Kept

variable {m n : Nat} {p q r : Part}

theorem refl (p : Part) : Part.Kept 0 p p := by constructor <;> simp [Part.slice]

theorem weaken (h : Part.Kept m p q) (hm : m ≤ n) : Part.Kept n p q :=
  { h with jobs := h.jobs.trans (by omega), nextId := fun e => h.nextId (by omega) }

theorem trans (h : Part.Kept m p q) (k : Part.Kept n q r) : Part.Kept (m + n) p r where
  ready := k.ready.trans h.ready
  split := k.split.trans h.split
  tenants := k.tenants.trans h.tenants
  slices := k.slices.trans h.slices
  map := fun i => (h.map i).trans (k.map i)
  grants := k.grants.trans h.grants
  reply := k.reply.trans h.reply
  level := by rw [k.level, h.level]
  turnaround := k.turnaround.trans h.turnaround
  voice := k.voice.trans h.voice
  video := k.video.trans h.video
  data := k.data.trans h.data
  quiet := k.quiet.trans h.quiet
  monitor := k.monitor.trans h.monitor
  slots := k.slots.trans h.slots
  top := k.top.trans h.top
  overflow := k.overflow.trans h.overflow
  raised := k.raised.trans h.raised
  masks := k.masks.trans h.masks
  plantMask := k.plantMask.trans h.plantMask
  jobs := k.jobs.trans (by have := h.jobs; omega)
  nextId := fun e => (k.nextId (by omega)).trans (h.nextId (by omega))

/-- After an operation that queues nothing. -/
theorem then₀ (h : Part.Kept n p q) (k : Part.Kept 0 q r) : Part.Kept n p r := h.trans k

/-- Before an operation that queues nothing. -/
theorem after₀ (h : Part.Kept 0 p q) (k : Part.Kept n q r) : Part.Kept n p r := by simpa using h.trans k

theorem foldl {α : Type} {f : Part → α → Part} (hf : ∀ p a, Part.Kept 0 p (f p a)) (l : List α) (p : Part) :
    Part.Kept 0 p (l.foldl f p) := by
  induction l generalizing p with
  | nil => exact refl p
  | cons a l ih => exact (hf p a).then₀ (ih _)

end Part.Kept

/-! ### Machine/Ops -/

theorem Part.kept_setSlice (p : Part) (n : Nat) (e : SliceEntry) (h : (p.slice n).Follows e) :
    Part.Kept 0 p (p.setSlice n e) where
  map i := by
    rw [Part.slice_setSlice]
    split
    · next hi => rw [hi.1]; exact h
    · exact .refl _
  ready := rfl
  split := rfl
  tenants := rfl
  slices := by simp
  grants := rfl
  reply := rfl
  level := rfl
  turnaround := rfl
  voice := rfl
  video := rfl
  data := rfl
  quiet := rfl
  monitor := rfl
  slots := rfl
  top := rfl
  overflow := rfl
  raised := rfl
  masks := rfl
  plantMask := rfl
  jobs := by simp
  nextId _ := rfl

theorem Part.kept_setGrant (p : Part) (g : Nat) (r : Option Grant) : Part.Kept 0 p (p.setGrant g r) := by
  constructor <;> simp [Part.slice]

theorem Part.kept_setTenant (p : Part) (t : Nat) (r : TenantRecord) : Part.Kept 0 p (p.setTenant t r) := by
  constructor <;> simp [Part.slice]

theorem Part.kept_mapJob (p : Part) (i : Nat) (f : Job → Job) : Part.Kept 0 p (p.mapJob i f) := by
  constructor <;> simp [Part.slice]

theorem Part.kept_dropJob (p : Part) (i : Nat) : Part.Kept 0 p (p.dropJob i) := by
  constructor <;> simp [Part.slice, List.length_filter_le]

theorem Part.kept_clearAfter (p : Part) (i : Nat) : Part.Kept 0 p (p.clearAfter i) := by
  constructor <;> simp [Part.slice]

theorem Part.kept_mapBatch (p : Part) (f : Batch → Batch) : Part.Kept 0 p (p.mapBatch f) := by
  constructor <;> simp [Part.slice]

theorem Part.kept_raise (p : Part) (t : Nat) (e : TenantEvent) : Part.Kept 0 p (p.raise t e) := by
  constructor <;> simp [Part.slice]

theorem Part.kept_raisePlant (p : Part) (e : PlantEvent) : Part.Kept 0 p (p.raisePlant e) := by
  constructor <;> simp [Part.slice]

theorem Part.kept_setTurnaround (p : Part) (t : Nat) (v : Option Nat) : Part.Kept 0 p (p.setTurnaround t v) := by
  constructor <;> simp [Part.slice]

theorem Part.kept_markStale (p : Part) (t : Nat) : Part.Kept 0 p (p.markStale t) := by
  constructor <;> simp [Part.slice]

/-- The cap's test clears OVER_CAP and raises CAP_RESTORED, where the composite is back at the cap. -/
theorem Part.capTest_eq (p : Part) :
    p.capTest = p ∨ (p.level.overCap = true ∧ p.composite ≤ p.level.cap ∧
      p.capTest = ({ p with level := { p.level with overCap := false } } : Part).raisePlant .capRestored) := by
  unfold Part.capTest
  split
  · next h => simp only [Bool.and_eq_true, decide_eq_true_eq] at h; exact .inr ⟨h.1, h.2, rfl⟩
  · exact .inl rfl

/-- With OVER_CAP clear the test of the cap does nothing. -/
theorem Part.capTest_of_clear {p : Part} (h : p.level.overCap = false) : p.capTest = p := by simp [Part.capTest, h]

theorem Part.kept_capTest (p : Part) : Part.Kept 0 p p.capTest := by
  rcases p.capTest_eq with h | ⟨_, _, h⟩ <;> rw [h]
  · exact .refl p
  · constructor <;> simp [Part.slice]

/-- Parking ends on a slice outside the crossover. -/
theorem Part.kept_endParking (p : Part) (n : Nat) (h : (p.slice n).use ≠ .crossover) : Part.Kept 0 p (p.endParking n) :=
  (p.kept_setSlice n _ fun _ => ⟨rfl, by simp [h]⟩).then₀ (Part.kept_capTest _)

theorem Part.kept_completeRetire (p : Part) (t : Nat) : Part.Kept 0 p (p.completeRetire t) := by
  constructor <;> simp [Part.slice, Part.completeRetire]

theorem Part.kept_beginTurnaround (p : Part) (t : Nat) : Part.Kept 0 p (p.beginTurnaround t) := by
  unfold Part.beginTurnaround
  split
  · exact .refl p
  · exact p.kept_setTurnaround _ _

theorem Part.kept_unlist (p : Part) (t g : Nat) : Part.Kept 0 p (p.unlist t g) := by
  unfold Part.unlist
  split
  · exact .refl p
  · dsimp only
    split
    · exact (p.kept_setTenant _ _).then₀ (Part.kept_completeRetire _ _)
    · exact p.kept_setTenant _ _

theorem Part.kept_recordFailure (p : Part) (t g : Nat) (why : FailureReason) : Part.Kept 0 p (p.recordFailure t g why) := by
  unfold Part.recordFailure
  split
  · exact .refl p
  · exact p.kept_setTenant _ _

theorem Part.kept_setSticky (p : Part) (t : Nat) (f : FaultSet) : Part.Kept 0 p (p.setSticky t f) := by
  unfold Part.setSticky
  split
  · exact .refl p
  · exact p.kept_setTenant _ _

theorem Part.kept_queueJob (p : Part) (g : Nat) (kind : JobKind) (dest : Option Place) (after : Option Nat)
    (relocation : Bool) (batch : Option BatchMark) :
    Part.Kept 1 p (p.queueJob g kind dest after relocation batch).1 := by
  constructor <;> simp [Part.slice, Part.queueJob]

/-- An available slice is outside the crossover. -/
theorem SliceEntry.use_ne_of_available {e : SliceEntry} (h : e.available = true) : e.use ≠ .crossover := fun hu => by
  simp [SliceEntry.available, hu] at h

theorem Part.kept_claimCarrier (g : Nat) (p : Part) (n : Nat) : Part.Kept 0 p (Part.claimCarrier g p n) := by
  unfold Part.claimCarrier
  split
  · next h => exact p.kept_setSlice _ _ fun _ => ⟨rfl, by simp [SliceEntry.use_ne_of_available h]⟩
  · exact .refl p

theorem Part.kept_claimGuard (g : Nat) (p : Part) (n : Nat) : Part.Kept 0 p (Part.claimGuard g p n) := by
  unfold Part.claimGuard
  dsimp only
  split
  · next hu =>
    split
    · exact .refl p
    · next hg => exact p.kept_setSlice _ _ fun h => by simp_all [SliceEntry.sound]
  · next hu => exact p.kept_setSlice _ _ fun _ => ⟨rfl, by simp [hu]⟩
  · next hu => exact p.kept_setSlice _ _ fun _ => ⟨rfl, by simp [hu]⟩
  · exact .refl p

theorem Part.kept_claimWindow (p : Part) (g : Nat) (cls : CarrierClass) (c : Place) :
    Part.Kept 0 p (p.claimWindow g cls c) :=
  ((Part.Kept.foldl (Part.kept_claimCarrier g) _ p).then₀ (Part.Kept.foldl (Part.kept_claimGuard g) _ _)).then₀
    (Part.kept_capTest _)

theorem Part.kept_radiate (g : Nat) (p : Part) (n : Nat) : Part.Kept 0 p (Part.radiate g p n) := by
  unfold Part.radiate
  dsimp only
  split
  · exact p.kept_setSlice _ _ fun h => by simp_all [SliceEntry.sound]
  · exact .refl p

theorem Part.kept_parkOrFree (p : Part) (n : Nat) (level : Int) (h : (p.slice n).use ≠ .crossover) :
    Part.Kept 0 p (p.parkOrFree n level) := by
  unfold Part.parkOrFree
  dsimp only
  split <;> exact p.kept_setSlice _ _ fun _ => ⟨rfl, by simp [h]⟩

/-- A slice that does not park when it is let go stays sound. -/
theorem SliceEntry.follows_released {e : SliceEntry} (h : e.use ≠ .crossover) : e.Follows e.released := fun _ => by
  unfold SliceEntry.released
  split <;> simp [SliceEntry.sound, h]

theorem Part.kept_letGoSlice (g : Nat) (level : Option Int) (p : Part) (n : Nat) :
    Part.Kept 0 p (Part.letGoSlice g level p n) := by
  unfold Part.letGoSlice
  dsimp only
  split
  · next hu =>
    split
    · exact p.kept_setSlice _ _ (SliceEntry.follows_released (by simp [hu]))
    · exact .refl p
  · next hu =>
    split
    · exact .refl p
    · split
      · exact p.kept_setSlice _ _ (SliceEntry.follows_released (by simp [hu]))
      · exact p.kept_parkOrFree _ _ (by simp [hu])
  · next hu =>
    split
    · exact p.kept_setSlice _ _ (SliceEntry.follows_released (by simp [hu]))
    · exact .refl p
  · next hu =>
    split
    · exact p.kept_setSlice _ _ fun h => by simp_all [SliceEntry.sound]
    · split
      · exact p.kept_setSlice _ _ fun h => by simp_all [SliceEntry.sound]
      · exact .refl p
  · exact .refl p

theorem Part.kept_passOrLetGo (waiter : Option Job) (g : Nat) (level : Option Int) (p : Part) (n : Nat) :
    Part.Kept 0 p (Part.passOrLetGo waiter g level p n) := by
  unfold Part.passOrLetGo
  split
  · dsimp only
    split
    · split <;> exact p.kept_setSlice _ _ fun h => by simp_all [SliceEntry.sound]
    · exact p.kept_letGoSlice _ _ _
  · exact p.kept_letGoSlice _ _ _

theorem Part.kept_letGo (p : Part) (g : Nat) (level : Option Int) (ended : Option Nat) (keep : Nat → Bool) :
    Part.Kept 0 p (p.letGo g level ended keep) :=
  p.kept_capTest.then₀ (Part.Kept.foldl (Part.kept_passOrLetGo _ g level) _ _)

theorem Part.kept_freeGrant (p : Part) (g : Nat) (ended : Option Nat) : Part.Kept 0 p (p.freeGrant g ended) := by
  unfold Part.freeGrant
  split
  · exact .refl p
  · exact ((p.kept_setGrant g none).then₀ (Part.kept_letGo _ _ _ _ _)).then₀ (Part.kept_unlist _ _ _)

theorem Part.kept_enterLeaving (p : Part) (g : Nat) : Part.Kept 0 p (p.enterLeaving g) := by
  unfold Part.enterLeaving
  split
  · exact .refl p
  · exact p.kept_setGrant _ _

theorem Part.kept_setLevel (p : Part) (g : Nat) (v : Int) : Part.Kept 0 p (p.setLevel g v) := by
  unfold Part.setLevel
  split
  · exact .refl p
  · exact p.kept_setGrant _ _

/-! ### Machine/Operands and Machine/Upkeep -/

theorem Part.kept_moveRover (p : Part) (t : Nat) (d : Direction) (c : Place) : Part.Kept 0 p (p.moveRover t d c) := by
  unfold Part.moveRover
  split
  · exact .refl p
  · dsimp only
    split <;> exact p.kept_setTenant _ _

theorem Part.kept_markAttempt (p : Part) (g : Nat) : Part.Kept 0 p (p.markAttempt g) := by
  unfold Part.markAttempt
  split
  · exact .refl p
  · constructor <;> simp [Part.slice]

theorem Part.kept_setFlags (p : Part) (g : Nat) : Part.Kept 0 p (p.setFlags g) := by
  unfold Part.setFlags
  split
  · exact .refl p
  · split
    · exact p.kept_setGrant _ _
    · exact ((p.kept_setGrant _ _).then₀ (Part.kept_raise _ _ _)).then₀ (Part.kept_markAttempt _ _)

theorem Part.kept_clearFlags (p : Part) (g : Nat) : Part.Kept 0 p (p.clearFlags g) := by
  unfold Part.clearFlags
  split
  · exact .refl p
  · exact p.kept_setGrant _ _

theorem Part.kept_recompute (p : Part) (g : Nat) : Part.Kept 0 p (p.recompute g) := by
  unfold Part.recompute
  split
  · exact .refl p
  split
  · exact .refl p
  split
  · exact .refl p
  · exact p.kept_setGrant _ _

theorem Part.kept_judgeGrant (p : Part) (g : Nat) : Part.Kept 0 p (p.judgeGrant g) := by
  unfold Part.judgeGrant
  split
  · exact .refl p
  split
  · exact .refl p
  split
  · exact .refl p
  split <;> split
  · exact .refl p
  · exact p.kept_setFlags _
  · exact p.kept_clearFlags _
  · exact .refl p

theorem Part.kept_upkeep (p : Part) (g : Nat) : Part.Kept 0 p (p.upkeep g) :=
  (p.kept_recompute g).then₀ (Part.kept_judgeGrant _ g)

theorem Part.kept_upkeepAll (p : Part) (gs : List Nat) : Part.Kept 0 p (p.upkeepAll gs) :=
  Part.Kept.foldl Part.kept_upkeep gs p

/-! ### Machine/CycleOps -/

theorem Part.kept_reportEnd (p : Part) (j : Job) (done : Bool) : Part.Kept 0 p (p.reportEnd j done) := by
  unfold Part.reportEnd
  split
  · exact .refl p
  · exact p.kept_mapBatch _
  · split <;> exact p.kept_mapBatch _

theorem Part.kept_finishRecord {f : Part → Nat → Part} (hf : ∀ p g, Part.Kept 0 p (f p g)) (p : Part) (j : Job)
    (r : Grant) : Part.Kept 0 p (Part.finishRecord f p j r) := by
  unfold Part.finishRecord
  split
  · exact .refl p
  · exact p.kept_setGrant _ _
  · exact (p.kept_setGrant _ _).then₀ (hf _ _)
  · exact (p.kept_setGrant _ _).then₀ (hf _ _)

theorem Part.kept_finishSlices (p : Part) (j : Job) : Part.Kept 0 p (p.finishSlices j) := by
  unfold Part.finishSlices
  split
  · exact p.kept_freeGrant _ _
  · exact .refl p
  · split
    · exact .refl p
    · exact p.kept_letGo _ _ _ _

theorem Part.kept_finishEvents (p : Part) (j : Job) (t : Nat) : Part.Kept 0 p (p.finishEvents j t) := by
  unfold Part.finishEvents
  dsimp only
  split
  · exact (p.kept_raise _ _).then₀ (Part.kept_raise _ _ _)
  · exact p.kept_raise _ _

/-- The steps of DONE, whatever a recomputation that keeps what `Part.Kept` lists. -/
theorem Part.kept_finishWith {f : Part → Nat → Part} (hf : ∀ p g, Part.Kept 0 p (f p g)) (p : Part) (j : Job) :
    Part.Kept 0 p (Part.finishWith f p j) := by
  unfold Part.finishWith
  split
  · exact p.kept_dropJob _
  · exact ((((((Part.kept_finishRecord hf p _ _).then₀ (Part.kept_finishSlices _ _)).then₀
      (Part.kept_finishEvents _ _ _)).then₀ (Part.kept_dropJob _ _)).then₀ (Part.kept_beginTurnaround _ _)).then₀
      (Part.kept_clearAfter _ _)).then₀ (Part.kept_reportEnd _ _ _)

/-- A cycle that reaches DONE. -/
theorem Part.kept_finish (p : Part) (j : Job) : Part.Kept 0 p (p.finish j) := Part.kept_finishWith Part.kept_upkeep p j

/-- A cycle that ENGINE_RESET completes. -/
theorem Part.kept_finishByReset (p : Part) (j : Job) : Part.Kept 0 p (p.finishByReset j) :=
  Part.kept_finishWith Part.kept_recompute p j

theorem Part.kept_beginHold (p : Part) (id : Nat) : Part.Kept 0 p (p.beginHold id) := by
  unfold Part.beginHold
  dsimp only
  split
  · split
    · exact (p.kept_mapJob _ _).then₀ (Part.kept_finish _ _)
    · exact p.kept_mapJob _ _
  · exact p.kept_mapJob _ _

theorem Part.kept_beginStrobe (p : Part) (id : Nat) : Part.Kept 0 p (p.beginStrobe id) := by
  unfold Part.beginStrobe
  dsimp only
  split
  · split
    · exact (p.kept_mapJob _ _).then₀ (Part.Kept.foldl (Part.kept_radiate _) _ _)
    · exact p.kept_mapJob _ _
  · exact p.kept_mapJob _ _

theorem Part.kept_beginSetup (p : Part) (id : Nat) : Part.Kept 0 p (p.beginSetup id) := by
  unfold Part.beginSetup
  dsimp only
  split
  · split
    · exact (p.kept_mapJob _ _).then₀ (Part.kept_beginStrobe _ _)
    · exact p.kept_mapJob _ _
  · exact p.kept_mapJob _ _

theorem Part.kept_judgeLock (p : Part) (t : Nat) : Part.Kept 0 p (p.judgeLock t) := by
  unfold Part.judgeLock
  split
  · exact .refl p
  · split
    · exact p.kept_beginHold _
    · exact .refl p

theorem Part.kept_turnaroundIfStarted (p : Part) (j : Job) : Part.Kept 0 p (p.turnaroundIfStarted j) := by
  unfold Part.turnaroundIfStarted
  split
  · exact p.kept_beginTurnaround _
  · exact .refl p

theorem Part.kept_abandonEvents (p : Part) (j : Job) (t : Nat) (why : FailureReason) :
    Part.Kept 0 p (p.abandonEvents j t why) := by
  unfold Part.abandonEvents
  split
  · exact .refl p
  · split <;> exact p.kept_raise _ _

theorem Part.kept_abandonOne (p : Part) (j : Job) (why : FailureReason) : Part.Kept 0 p (p.abandonOne j why) := by
  unfold Part.abandonOne
  split
  · exact p.kept_dropJob _
  · next r _ =>
    dsimp only
    have h := ((p.kept_turnaroundIfStarted j).then₀ (Part.kept_dropJob _ j.id)).then₀
      (Part.kept_abandonEvents _ j r.tenant why)
    split
    · exact ((h.then₀ (Part.kept_recordFailure _ _ _ _)).then₀ (Part.kept_freeGrant _ _ _)).then₀ (Part.kept_reportEnd _ _ _)
    · exact ((h.then₀ (Part.kept_setGrant _ _ _)).then₀ (Part.kept_letGo _ _ _ _ _)).then₀ (Part.kept_reportEnd _ _ _)

/-- A job that is abandoned, with those that wait on it. -/
theorem Part.kept_abandon (p : Part) (id : Nat) (why : FailureReason) : Part.Kept 0 p (p.abandon id why) := by
  unfold Part.abandon
  split
  · exact .refl p
  · refine (p.kept_abandonOne _ _).then₀ (Part.Kept.foldl (fun q w => ?_) _ _)
    split
    · exact q.kept_abandonOne _ _
    · exact .refl q

/-- A QUARANTINE verdict leaves a map entry sound. -/
theorem SliceEntry.follows_quarantine (pin : Bool) (e : SliceEntry) : e.Follows (e.quarantine pin) := fun h => by
  obtain ⟨u, i, q⟩ := e
  rcases u with _ | _ | _ | _ | ⟨_, _ | _⟩ | _ | _ | _ <;> simp_all [SliceEntry.quarantine, SliceEntry.sound]

/-- A QUARANTINE verdict. -/
theorem Part.kept_quarantineVerdict (pin : Bool) (p : Part) (n : Nat) : Part.Kept 0 p (Part.quarantineVerdict pin p n) :=
  ((p.kept_setSlice _ _ (SliceEntry.follows_quarantine pin _)).then₀ (Part.kept_capTest _)).then₀
    (Part.Kept.foldl (fun q (j : Job) => q.kept_abandon j.id _) _ _)

theorem Part.kept_releaseActive (p : Part) (g : Nat) : Part.Kept 1 p (p.releaseActive g) :=
  ((p.kept_mapBatch _).then₀ (Part.kept_enterLeaving _ _)).after₀ (Part.kept_queueJob _ _ _ _ _ _ _)

theorem Part.kept_removeArriving (p : Part) (j : Job) (phaseA : Bool) : Part.Kept 0 p (p.removeArriving j phaseA) := by
  unfold Part.removeArriving
  dsimp only
  have h := ((p.kept_turnaroundIfStarted j).then₀ (Part.kept_dropJob _ j.id)).then₀ (Part.kept_freeGrant _ j.grant none)
  split <;> exact h.then₀ (Part.kept_reportEnd _ _ _)

theorem Part.kept_cutShort (p : Part) (j : Job) (r : Grant) (phaseA : Bool) : Part.Kept 0 p (p.cutShort j r phaseA) := by
  unfold Part.cutShort
  dsimp only
  split
  · exact p.kept_removeArriving _ _
  have silent : ∀ f : Job → Job, Part.Kept 0 p (((p.mapJob j.id f).enterLeaving j.grant).letGo j.grant r.level none r.covers) :=
    fun f => ((p.kept_mapJob _ f).then₀ (Part.kept_enterLeaving _ _)).then₀ (Part.kept_letGo _ _ _ _ _)
  have radiating : ∀ f : Job → Job, Part.Kept 0 p ((p.mapJob j.id f).enterLeaving j.grant) :=
    fun f => (p.kept_mapJob _ f).then₀ (Part.kept_enterLeaving _ _)
  split
  · exact silent _
  · split
    · exact (silent _).then₀ (Part.kept_beginHold _ _)
    · exact (radiating _).then₀ (Part.kept_beginHold _ _)
    · exact radiating _

/-- A release queues at most one job, and only where an entry is free. -/
theorem Part.kept_releaseGrant (p : Part) (g : Nat) (phaseA : Bool) :
    Part.Kept 0 p (p.releaseGrant g phaseA) ∨ (p.hasJobEntry = true ∧ Part.Kept 1 p (p.releaseGrant g phaseA)) := by
  unfold Part.releaseGrant
  split
  · exact .inl (.refl p)
  split
  · exact .inl (.refl p)
  · split
    · next h => exact .inr ⟨h, p.kept_releaseActive _⟩
    · exact .inl (.refl p)
  · split
    · exact .inl (p.kept_cutShort _ _ _)
    · exact .inl (.refl p)

/-! ### Machine/LineupOps -/

theorem Part.kept_countDone (p : Part) : Part.Kept 0 p p.countDone := p.kept_mapBatch _

theorem Part.kept_countFailed (p : Part) : Part.Kept 0 p p.countFailed := p.kept_mapBatch _

theorem Part.kept_applyLevel (p : Part) (e : LineupEntry) : Part.Kept 0 p (p.applyLevel e) := by
  unfold Part.applyLevel
  split
  · exact p.kept_countFailed
  · dsimp only
    split
    · exact p.kept_countFailed
    · exact ((p.kept_setGrant _ _).then₀ (Part.kept_capTest _)).then₀ (Part.kept_countDone _)

theorem Part.kept_beginPhaseB (p : Part) (levels : List LineupEntry) : Part.Kept 0 p (p.beginPhaseB levels) :=
  (p.kept_mapBatch _).then₀ (Part.Kept.foldl Part.kept_applyLevel _ _)

theorem Part.kept_endBatch (p : Part) (byReset : Bool) : Part.Kept 0 p (p.endBatch byReset) := by
  unfold Part.endBatch
  split
  · exact .refl p
  · constructor <;> simp [Part.slice]

theorem Part.kept_settlePhaseB (p : Part) : Part.Kept 0 p p.settlePhaseB := by
  unfold Part.settlePhaseB
  split
  · split
    · exact p.kept_endBatch _
    · exact .refl p
  · exact .refl p

/-- A batch that goes on. -/
theorem Part.kept_progressBatch (p : Part) : Part.Kept 0 p p.progressBatch := by
  unfold Part.progressBatch
  split
  · exact .refl p
  · split
    · exact (p.kept_beginPhaseB _).then₀ (Part.kept_settlePhaseB _)
    · exact p.kept_settlePhaseB

/-- With no batch running nothing goes on. -/
theorem Part.progressBatch_of_none {p : Part} (h : p.store.batch = none) : p.progressBatch = p := by
  simp [Part.progressBatch, h]

/-- An item that is issued queues one job. -/
theorem Part.kept_issueItem {p q : Part} {i : BatchItem} (h : p.issueItem i = .issued q) : Part.Kept 1 p q := by
  cases i with
  | move e =>
    simp only [Part.issueItem, Part.issueMove] at h
    split at h
    · cases h
    · split at h
      · cases h
      · split at h
        · cases h
        · cases h
          exact ((p.kept_setGrant _ _).after₀ (Part.kept_queueJob _ _ _ _ _ _ _)).then₀ (Part.kept_claimWindow _ _ _ _)
  | activate e =>
    simp only [Part.issueItem, Part.issueActivate] at h
    split at h
    · split at h
      · cases h
      · split at h
        · cases h
        · cases h
          exact ((((p.kept_setGrant _ _).then₀ (Part.kept_setTenant _ _ _)).after₀
            (Part.kept_queueJob _ _ _ _ _ _ _)).then₀ (Part.kept_claimWindow _ _ _ _)).then₀ (Part.kept_upkeep _ _)
    · cases h

/-- Taking up items queues at most one job. -/
theorem Part.kept_takeUpItems (items : List BatchItem) (p : Part) : Part.Kept 1 p (Part.takeUpItems items p) := by
  induction items generalizing p with
  | nil => exact (Part.Kept.refl p).weaken (by omega)
  | cons i rest ih =>
    have failed : Part.Kept 0 p ((p.mapBatch fun b => b.dropHead rest).countFailed) :=
      (p.kept_mapBatch _).then₀ (Part.kept_countFailed _)
    unfold Part.takeUpItems
    split
    · next h => exact (Part.kept_issueItem h).then₀ (Part.kept_mapBatch _ _)
    · exact failed.after₀ (ih _)
    · split
      · exact (p.kept_mapBatch _).weaken (by omega)
      · exact failed.after₀ (ih _)

/-- A phase-A release queues at most one job, and only where an entry is free. -/
theorem Part.kept_releasePhaseA (p : Part) (g : Nat) :
    Part.Kept 0 p (p.releasePhaseA g) ∨ (p.hasJobEntry = true ∧ Part.Kept 1 p (p.releasePhaseA g)) := by
  unfold Part.releasePhaseA
  split
  · exact .inl (p.kept_mapBatch _)
  split
  · split
    · next h => exact .inr ⟨h, p.kept_releaseActive _⟩
    · exact .inl (.refl p)
  · split
    · exact .inl ((p.kept_mapJob _ _).then₀ (Part.kept_mapBatch _ _))
    · exact .inl (p.kept_mapBatch _)
  · rcases p.kept_releaseGrant g true with h | ⟨hj, h⟩
    · exact .inl (h.then₀ (Part.kept_mapBatch _ _))
    · exact .inr ⟨hj, h.then₀ (Part.kept_mapBatch _ _)⟩

/-! ### Releases that wait for a free entry, and the engine's look for jobs -/

/-- Everything that `Part.Kept` lists stands, and a job list within its 24 entries stays within them. -/
def Part.KeptBounded (p q : Part) : Prop := ∃ n, Part.Kept n p q ∧ (p.jobsBounded → q.jobsBounded)

namespace Part.KeptBounded

variable {p q r : Part}

theorem of_kept (h : Part.Kept 0 p q) : Part.KeptBounded p q := ⟨0, h, fun hp => h.jobs.trans hp⟩

theorem refl (p : Part) : Part.KeptBounded p p := of_kept (.refl p)

theorem trans (h : Part.KeptBounded p q) (k : Part.KeptBounded q r) : Part.KeptBounded p r := by
  obtain ⟨m, hm, hb⟩ := h
  obtain ⟨n, hn, kb⟩ := k
  exact ⟨m + n, hm.trans hn, fun hp => kb (hb hp)⟩

theorem foldl {α : Type} {f : Part → α → Part} (hf : ∀ p a, Part.KeptBounded p (f p a)) (l : List α) (p : Part) :
    Part.KeptBounded p (l.foldl f p) := by
  induction l generalizing p with
  | nil => exact refl p
  | cons a l ih => exact (hf p a).trans (ih _)

/-- An operation that queues at most one job, and only where an entry is free. -/
theorem of_entry (h : Part.Kept 0 p q ∨ (p.hasJobEntry = true ∧ Part.Kept 1 p q)) : Part.KeptBounded p q := by
  rcases h with h | ⟨he, h⟩
  · exact of_kept h
  · have : p.engine.jobs.length < 24 := by simpa [Part.hasJobEntry] using he
    exact ⟨1, h, fun _ => h.jobs.trans (by omega)⟩

end Part.KeptBounded

theorem Part.bounded_releaseGrant (p : Part) (g : Nat) (phaseA : Bool) : Part.KeptBounded p (p.releaseGrant g phaseA) :=
  .of_entry (p.kept_releaseGrant g phaseA)

theorem Part.bounded_releaseListed (p : Part) (g : Nat) : Part.KeptBounded p (p.releaseListed g) := by
  unfold Part.releaseListed
  split
  · exact .of_entry (p.kept_releasePhaseA g)
  · exact .refl p

theorem Part.bounded_releaseInOrder (taken gs : List Nat) (p : Part) :
    Part.KeptBounded p (Part.releaseInOrder taken gs p) := by
  induction gs generalizing taken p with
  | nil => exact .refl p
  | cons g gs ih =>
    exact ((p.bounded_releaseListed g).trans (Part.KeptBounded.foldl Part.bounded_releaseListed taken _)).trans (ih _ _)

theorem Part.kept_firstPhase (j : Job) (p : Part) : Part.Kept 0 p (Part.firstPhase j p) := by
  unfold Part.firstPhase
  split
  · exact p.kept_beginHold _
  · split
    · exact p.kept_beginStrobe _
    · exact p.kept_beginSetup _

theorem Part.kept_startIn (j : Job) (channel : Nat) (p : Part) : Part.Kept 0 p (Part.startIn j channel p) :=
  (p.kept_mapJob _ _).then₀ (Part.kept_firstPhase _ _)

theorem Part.kept_startNext (p : Part) : Part.Kept 0 p p.startNext := by
  unfold Part.startNext
  split
  · exact (Part.kept_startIn _ _ p).then₀ (Part.kept_progressBatch _)
  · exact .refl p

/-- The engine's look for jobs to start. -/
theorem Part.kept_startJob (p : Part) : Part.Kept 0 p p.startJob := by
  suffices h : ∀ n (q : Part), Part.Kept 0 q (q.startJobs n) from h _ p
  intro n
  induction n with
  | zero => exact .refl
  | succ n ih => exact fun q => q.kept_startNext.then₀ (ih _)

/-- With no channel free or no job eligible nothing more starts. -/
theorem Part.startJobs_of_stuck {p : Part} (h : p.engine.jobs.find? p.eligible = none ∨ p.freeChannel = none) (n : Nat) :
    p.startJobs n = p := by
  have hp : p.startNext = p := by
    unfold Part.startNext
    rcases h with h | h <;> simp [h]
  induction n with
  | zero => rfl
  | succ n ih => rw [Part.startJobs, hp, ih]

end Sys2Proof.Machine
end

