-- ==== Sys2Proof/Laws/Link.lean ====
section
/-! SUPPORT. What an act, and the service of a request, can do: the UNDER_COMMIT test of an act, the admission
of a delivered request, and its answer. -/

namespace Sys2Proof.Machine

/-! ### The UNDER_COMMIT test of an act -/

/-- The test changes the raised sets of the tenants and nothing else. -/
theorem Part.commitTest_frame (p q : Part) :
    ∃ u, p.commitTest q = { q with events := { q.events with raised := u } } ∧ u.length = q.events.raised.length := by
  unfold Part.commitTest
  suffices h : ∀ (ts : List Nat) (x : Part),
      (∃ u, x = { q with events := { q.events with raised := u } } ∧ u.length = q.events.raised.length) →
      ∃ u, ts.foldl (fun y t => if p.meetsCommit t && q.underCommit t then y.raise t .underCommit else y) x =
        { q with events := { q.events with raised := u } } ∧ u.length = q.events.raised.length by
    exact h _ q ⟨q.events.raised, rfl, rfl⟩
  intro ts
  induction ts with
  | nil => exact fun x h => h
  | cons t ts ih =>
    intro x h
    refine ih _ ?_
    obtain ⟨u, rfl, hu⟩ := h
    beta_reduce
    split
    · exact ⟨u.modify t (· ||| TenantEvent.underCommit.bit), rfl, by simp [hu]⟩
    · exact ⟨u, rfl, hu⟩

/-- No tenant's relation turned, so the test does nothing. -/
theorem Part.commitTest_of_no_turn (p q : Part) (h : ∀ t, t < 16 → (p.meetsCommit t && q.underCommit t) = false) :
    p.commitTest q = q := by
  unfold Part.commitTest
  suffices hs : ∀ ts : List Nat, (∀ t ∈ ts, t < 16) →
      ts.foldl (fun y t => if p.meetsCommit t && q.underCommit t then y.raise t .underCommit else y) q = q by
    exact hs _ fun t ht => by simpa using ht
  intro ts
  induction ts with
  | nil => exact fun _ => rfl
  | cons t ts ih =>
    intro hts
    rw [List.foldl_cons, h t (hts t (by simp))]
    simpa using ih fun k hk => hts k (by simp [hk])

/-- A tenant that has the same committed capacity after the act, and no less delivered, does not turn. -/
theorem Part.no_turn_of_kept {p q : Part} {t : Nat} (hd : p.delivered t ≤ q.delivered t)
    (hc : ∀ r r', p.tenant t = some r → q.tenant t = some r' → r'.committed ≤ r.committed) :
    (p.meetsCommit t && q.underCommit t) = false := by
  unfold Part.meetsCommit Part.underCommit
  cases hp : p.tenant t with
  | none => simp
  | some r =>
    cases hq : q.tenant t with
    | none => simp
    | some r' =>
      have := hc r r' hp hq
      simp only [Option.any_some, Bool.and_eq_false_iff, decide_eq_false_iff_not, not_le, not_lt]
      omega

/-- An act after which only one tenant can have turned raises UNDER_COMMIT for that tenant or for none. -/
theorem Part.commitTest_of_one (p q : Part) (t : Nat) (ht : t < 16)
    (h : ∀ k, k < 16 → k ≠ t → (p.meetsCommit k && q.underCommit k) = false) :
    p.commitTest q = if p.meetsCommit t && q.underCommit t then q.raise t .underCommit else q := by
  unfold Part.commitTest
  suffices hs : ∀ ts : List Nat, ts.Nodup → (∀ k ∈ ts, k < 16) → ∀ x : Part,
      ts.foldl (fun y k => if p.meetsCommit k && q.underCommit k then y.raise k .underCommit else y) x =
        if t ∈ ts ∧ (p.meetsCommit t && q.underCommit t) = true then x.raise t .underCommit else x by
    rw [hs (List.range 16) List.nodup_range (fun k hk => by simpa using hk) q]
    simp [ht]
  intro ts
  induction ts with
  | nil => simp
  | cons k ts ih =>
    intro hn hl x
    rw [List.foldl_cons, ih (List.nodup_cons.mp hn).2 fun j hj => hl j (by simp [hj])]
    by_cases e : k = t
    · subst e
      simp [(List.nodup_cons.mp hn).1]
    · rw [h k (hl k (by simp)) e]
      simp [Ne.symm e]

/-- A new record of one tenant turns no other tenant. -/
theorem Part.no_turn_setTenant {p q : Part} {t k : Nat} {r : TenantRecord} (hk : k ≠ t)
    (ht : q.tenants = (p.setTenant t r).tenants) (hg : q.grants = p.grants) :
    (p.meetsCommit k && q.underCommit k) = false :=
  Part.no_turn_of_kept (Part.delivered_congr hg k).ge fun r r' h h' => by
    rw [Part.tenant_congr ht k, Part.tenant_setTenant_ne _ _ _ _ hk, h] at h'
    cases h'
    exact le_rfl

/-- An act that leaves the tenants and the grants raises no UNDER_COMMIT. -/
theorem Part.commitTest_of_same {p q : Part} (ht : q.tenants = p.tenants) (hg : q.grants = p.grants) :
    p.commitTest q = q :=
  Part.commitTest_of_no_turn p q fun t _ =>
    Part.no_turn_of_kept (Part.delivered_congr hg t).ge fun r r' h h' => by
      rw [Part.tenant_congr ht t, h] at h'
      cases h'
      exact le_rfl

@[simp] theorem Part.commitTest_self (p : Part) : p.commitTest p = p := Part.commitTest_of_same rfl rfl

/-- An act of the part: its effect and the test. -/
theorem State.act_eq (s : State) (f : Part → Part) : s.act f = .next { s with part := s.part.commitTest (f s.part) } := rfl

/-- An act that changes nothing leaves the state. -/
theorem State.act_of_fixed {s : State} {f : Part → Part} (h : f s.part = s.part) : s.act f = .next s := by
  simp [State.act_eq, h]

/-! ### A request that awaits its service -/

/-- The request is taken from what is delivered, undetached. -/
theorem Link.takeIn_of_awaits {s : State} {cmd : Instr} {tag : Byte} (h : s.awaits cmd tag) :
    s.link.takeIn cmd tag = (s.link.withdrawn cmd, false) := by
  obtain ⟨_, hm, hd⟩ := h
  unfold Link.takeIn Link.withdrawn
  cases hf : s.link.delivered.find? fun d => d.command == cmd with
  | none => simpa using List.find?_eq_none.mp hf _ hm
  | some d =>
    have hc : d.command = cmd := by simpa using List.find?_some hf
    have hdet := hd d (List.mem_of_find?_eq_some hf) hc
    have : d = ⟨cmd, false⟩ := by cases d; simp_all
    simp [this]

/-- The reply to a request whose tag is owed enters the outbound queue, and the tag is owed no longer. -/
theorem Link.produce_of_owed (l : Link) {tag : Byte} (kind : Byte) (r : Reply) (h : tag ∈ l.outstanding) :
    l.produce false tag kind r =
      { l with outbound := l.outbound ++ [replyFrame tag kind r], outstanding := l.outstanding.erase tag } := by
  simp [Link.produce, Link.push, h]

/-- The reply of a detached request, or one whose tag is not owed, is discarded. -/
theorem Link.produce_of_discarded (l : Link) (detached : Bool) (tag kind : Byte) (r : Reply)
    (h : detached = true ∨ tag ∉ l.outstanding) : l.produce detached tag kind r = l := by
  rcases h with h | h <;> simp [Link.produce, h]

/-- A request that awaits its service is served by its owner and answered, with the test of the act. -/
theorem State.serve_of_awaits {s : State} {cmd : Instr} {tag : Byte} (kind : Byte) (owner : Part → Part × Reply)
    (h : s.awaits cmd tag) :
    s.serve cmd tag kind owner =
      .next (s.answers cmd tag kind (owner s.part).2 (s.part.commitTest (owner s.part).1)) := by
  have hp := Link.produce_of_owed (s.link.withdrawn cmd) kind (owner s.part).2 h.1
  simp only [State.serve, Link.takeIn_of_awaits h, hp]
  rfl

/-- A request whose owner leaves the part as it is. -/
theorem State.serve_of_kept {s : State} {cmd : Instr} {tag : Byte} (kind : Byte) (owner : Part → Part × Reply) {r : Reply}
    (h : s.awaits cmd tag) (ho : owner s.part = (s.part, r)) :
    s.serve cmd tag kind owner = .next (s.answers cmd tag kind r s.part) := by
  rw [State.serve_of_awaits kind owner h, ho, Part.commitTest_self]

/-- A request whose owner leaves the tenants and the grants. -/
theorem State.serve_of_same {s : State} {cmd : Instr} {tag : Byte} (kind : Byte) (owner : Part → Part × Reply) {r : Reply}
    {q : Part} (h : s.awaits cmd tag) (ho : owner s.part = (q, r)) (ht : q.tenants = s.part.tenants)
    (hg : q.grants = s.part.grants) : s.serve cmd tag kind owner = .next (s.answers cmd tag kind r q) := by
  rw [State.serve_of_awaits kind owner h, ho, Part.commitTest_of_same ht hg]

/-- A placement request that awaits its service: refused at once, or queued. -/
theorem State.arrive_of_awaits {s : State} {cmd : Instr} {tag : Byte} (kind : Byte) (h : s.awaits cmd tag) :
    s.arrive cmd tag kind none = .next (s.answers cmd tag kind (refuse .badField) s.part) ∧
      ∀ f, s.arrive cmd tag kind (some f) =
        if 8 ≤ s.part.placementQueue.length then .next (s.answers cmd tag kind (refuse .full) s.part)
        else .next { s with link := s.link.withdrawn cmd, part := s.part.enqueue ⟨tag, f, false⟩ } := by
  have hp := fun r => Link.produce_of_owed (s.link.withdrawn cmd) kind r h.1
  constructor
  · simp only [State.arrive, Link.takeIn_of_awaits h, hp]
    rfl
  · intro f
    simp only [State.arrive, Link.takeIn_of_awaits h, hp]
    rfl

/-- Every service and every act answers a next state and leaves the waiting commands. -/
theorem State.serve_next (s : State) (cmd : Instr) (tag kind : Byte) (owner : Part → Part × Reply) :
    ∃ l, s.serve cmd tag kind owner = .next ⟨s.pending, l, s.part.commitTest (owner s.part).1⟩ := ⟨_, rfl⟩

end Sys2Proof.Machine
end

