-- ==== Sys2Proof/Laws/Sweep.lean ====
section
/-! SUPPORT. What the Plant Monitor's shared operations, and the passing of time, keep. `Part.Swept p q` says
that `q` is `p` after such an operation: all that `Part.Kept` lists stands but the Plant Monitor's own state. -/

namespace Sys2Proof.Machine

/-- Between `p` and `q` everything that `Part.Kept 0` lists stands, the Plant Monitor aside. -/
def Part.Swept (p q : Part) : Prop := Part.Kept 0 { p with monitor := q.monitor } q

namespace Part.Swept

variable {p q r : Part}

theorem refl (p : Part) : Part.Swept p p := Part.Kept.refl p

theorem of_kept (h : Part.Kept 0 p q) : Part.Swept p q := { h with monitor := rfl }

theorem trans (h : Part.Swept p q) (k : Part.Swept q r) : Part.Swept p r :=
  Part.Kept.then₀ (n := 0) (q := { q with monitor := r.monitor }) { h with monitor := rfl } k

end Part.Swept

/-! ### The operations -/

theorem Part.swept_elapse (p : Part) (ms : Nat) : Part.Swept p (p.elapse ms) := by
  have map : ∀ e : SliceEntry, e.Follows (e.elapse ms) := fun e h => by
    obtain ⟨u, i, q⟩ := e
    cases u <;> simp_all [SliceEntry.elapse, SliceEntry.sound]
  constructor
  case map => exact fun i => by rw [Part.slice_elapse]; exact map _
  all_goals simp [Part.elapse]
  split <;> simp

theorem Part.swept_dwellOn (p : Part) (s : Option Nat) : Part.Swept p (p.dwellOn s) := by
  constructor <;> simp [Part.slice, Part.dwellOn]

theorem Part.swept_startSweep (p : Part) : Part.Swept p p.startSweep := p.swept_dwellOn _

theorem Part.swept_resumeSweep (p : Part) : Part.Swept p p.resumeSweep := by
  unfold Part.resumeSweep
  split
  · exact p.swept_startSweep
  · exact .refl p

theorem Part.kept_sweepDone (p : Part) : Part.Kept 0 p p.sweepDone :=
  (p.kept_raisePlant _).then₀ (Part.Kept.foldl Part.kept_markAttempt _ _)

theorem Part.swept_advance (p : Part) (n : Nat) : Part.Swept p (p.advance n) := by
  unfold Part.advance
  dsimp only
  split
  · exact p.swept_dwellOn _
  · split
    · exact (Part.Swept.of_kept p.kept_sweepDone).trans (Part.swept_dwellOn _ _)
    · exact p.swept_dwellOn _

theorem Part.swept_restart (p : Part) : Part.Swept p p.restart :=
  Part.Swept.trans (q := { p with monitor := { p.monitor with active := p.monitor.waiting, restartWaiting := false } })
    (by constructor <;> simp [Part.slice]) (Part.swept_startSweep _)

theorem Part.swept_afterDwell (p : Part) (n : Nat) : Part.Swept p (p.afterDwell n) := by
  unfold Part.afterDwell
  split
  · exact p.swept_restart
  · exact p.swept_advance n

theorem Part.swept_setQuality (p : Part) (n : Nat) (e : QualityEntry) : Part.Swept p (p.setQuality n e) := by
  constructor <;> simp [Part.slice, Part.setQuality]

theorem Part.swept_clearCounts (p : Part) (n : Nat) : Part.Swept p (p.clearCounts n) := p.swept_setQuality _ _

/-- A LIFT verdict of the host, or one for a slice that is not pinned, leaves a map entry sound. -/
theorem SliceEntry.follows_lift (byHost : Bool) (e : SliceEntry) (h : byHost = true ∨ e.pinned = false) :
    e.Follows (e.lift byHost) := fun hs => by
  obtain ⟨u, i, q⟩ := e
  rcases u with _ | _ | _ | _ | ⟨_, _ | _⟩ | _ | _ | _ <;> rcases h with h | h <;>
    simp_all [SliceEntry.lift, SliceEntry.sound]

/-- A LIFT verdict. -/
theorem Part.kept_liftVerdict (byHost : Bool) (p : Part) (n : Nat) (h : byHost = true ∨ (p.slice n).pinned = false) :
    Part.Kept 0 p (Part.liftVerdict byHost p n) :=
  p.kept_setSlice _ _ (SliceEntry.follows_lift byHost _ h)

/-- A slice in clear mode is not pinned (R125). -/
theorem SliceEntry.pinned_of_clear {e : SliceEntry} (h : e.mode = .clear) : e.pinned = false := by
  obtain ⟨u, i, q⟩ := e
  cases u <;> cases i <;> cases q <;> simp_all [SliceEntry.mode]

/-- An estimate applied to a slice. -/
theorem Part.swept_applyEstimate (p : Part) (n m : Nat) : Part.Swept p (p.applyEstimate n m) := by
  have upkeep : ∀ {q : Part} (gs : List Nat), Part.Swept p q → Part.Swept p (q.upkeepAll gs) := fun gs h =>
    h.trans (Part.Swept.of_kept (Part.kept_upkeepAll _ gs))
  have verdict : ∀ {q r : Part} (e : PlantEvent) (i k : Nat) (f : QualityEntry), Part.Swept p q → Part.Kept 0 q r →
      Part.Swept p (if i ≤ k then r.raisePlant e else p.setQuality n f) := fun e i k f h l => by
    split
    · exact h.trans (Part.Swept.of_kept (l.then₀ (Part.kept_raisePlant _ e)))
    · exact p.swept_setQuality _ _
  unfold Part.applyEstimate
  dsimp only
  split
  · exact .refl p
  · exact upkeep _ (p.swept_setQuality _ _)
  · exact upkeep _ (verdict _ _ _ _ (p.swept_setQuality _ _) (Part.kept_quarantineVerdict _ _ _))
  · next hm =>
    exact upkeep _ (verdict _ _ _ _ (p.swept_setQuality _ _)
      (Part.kept_liftVerdict _ _ _ (.inr (SliceEntry.pinned_of_clear hm))))

/-- The end of a dwell. -/
theorem Part.swept_endDwell (p : Part) (m : Nat) : Part.Swept p (p.endDwell m) := by
  unfold Part.endDwell
  split
  · exact .refl p
  · exact ((p.swept_elapse _).trans (Part.swept_applyEstimate _ _ _)).trans (Part.swept_afterDwell _ _)

/-- Only the pointer and the dwell change where a dwell begins or the sweep goes idle. -/
theorem Part.dwellOn_frame (p : Part) (s : Option Nat) :
    (p.dwellOn s).monitor = { p.monitor with pointer := (p.dwellOn s).monitor.pointer, dwell := (p.dwellOn s).monitor.dwell } :=
  rfl

end Sys2Proof.Machine
end

