-- ==== Sys2Proof/WellFormed.lean ====
section
/-! DEFINITION. The commands that the outside can give or the part can take: every field fits the bytes
that carry it (R180), every index names something the part has (R3, R20, R105), and the command byte of a
STATUS_READ is neither a SEND's nor a FETCH's (R158). A field may still lie outside the range its rule gives. -/

namespace Sys2Proof

/-- An unsigned field of one byte. -/
def fits1 (n : Nat) : Bool := n < 256

/-- An unsigned field of two bytes. -/
def fits2 (n : Nat) : Bool := n < 65536

/-- An unsigned field of three bytes. -/
def fits3 (n : Nat) : Bool := n < 16777216

/-- A two's-complement byte. -/
def fitsSigned (v : Int) : Bool := -128 ≤ v && v < 128

/-- A field that is absent fits. -/
def optFits {α : Type} (f : α → Bool) : Option α → Bool
  | none => true
  | some a => f a

def ContractFields.fits (c : ContractFields) : Bool :=
  optFits fits3 c.committed && optFits fits3 c.ceiling && optFits fits1 c.margin && optFits fits1 c.maxProfile &&
    optFits fitsSigned c.defaultLevel

def DefineFields.fits (q : DefineFields) : Bool := fits1 q.tenant && q.contract.fits

def AmendFields.fits (q : AmendFields) : Bool := fits1 q.tenant && q.contract.fits

def FaultMaskFields.fits (q : FaultMaskFields) : Bool := fits1 q.tenant

def FaultClearFields.fits (q : FaultClearFields) : Bool := fits1 q.tenant

def AskFields.fits (q : AskFields) : Bool :=
  fits1 q.tenant && optFits fits1 q.width && optFits fits1 q.floor && optFits fitsSigned q.level

def MoveFields.fits (q : MoveFields) : Bool := fits1 q.grant && optFits fits2 q.target

def ResizeFields.fits (q : ResizeFields) : Bool := fits1 q.grant && fits1 q.width && optFits fits1 q.floor

def LevelFields.fits (q : LevelFields) : Bool := fits1 q.grant && fitsSigned q.level

def RangeFields.fits (q : RangeFields) : Bool := fits2 q.first && fits1 q.count

def SweepFields.fits (q : SweepFields) : Bool :=
  optFits (fun w => fits2 w.1 && fits2 w.2) q.window && optFits fits1 q.dwell && optFits fits1 q.shift &&
    optFits fits1 q.qt && optFits fits1 q.rt && optFits fits1 q.nq && optFits fits1 q.nr

def TimingFields.fits (q : TimingFields) : Bool :=
  optFits fits2 q.setup && optFits fits2 q.strobeMin && optFits fits2 q.lockMax && optFits fits2 q.hold &&
    optFits fits2 q.turnaround

def PlantFields.fits (q : PlantFields) : Bool :=
  optFits fits1 q.split && optFits fits3 q.cap && optFits fits1 q.slope && optFits fits2 q.pivot &&
    optFits fits2 q.parkTime && optFits fits1 q.fillDrop && optFits fits1 q.assumedSnr && q.voice.fits &&
    q.video.fits && q.data.fits

/-- There is one enable set, or its absence, for each tenant source (R178). -/
def EventsMaskFields.fits (q : EventsMaskFields) : Bool := q.tenants.length == 16

/-- The command can be given to the part or taken by it. -/
def Instr.wellFormed : Instr → Bool
  | .powerOn => true
  | .linkReset => true
  | .send _ => true
  | .fetch _ => true
  | .statusRead cmd _ => cmd != 0xA5 && cmd != 0x5A
  | .readyInputChange t _ => t < 16
  | .tenantDefine _ q => optFits DefineFields.fits q
  | .tenantAmend _ q => optFits AmendFields.fits q
  | .tenantRetire _ q => optFits fits1 q
  | .tenantRetireForce _ t => fits1 t
  | .tenantQuery _ q => optFits fits1 q
  | .faultMask _ q => optFits FaultMaskFields.fits q
  | .faultClear _ q => optFits FaultClearFields.fits q
  | .grantAsk _ q => optFits AskFields.fits q
  | .grantMove _ q => optFits MoveFields.fits q
  | .grantResize _ q => optFits ResizeFields.fits q
  | .grantAskTake => true
  | .grantMoveTake => true
  | .grantResizeTake => true
  | .relocationAttempt => true
  | .replyBuilt => true
  | .grantRelease _ q => optFits fits1 q
  | .grantQuery _ q => optFits fits1 q
  | .cancel _ _ => true
  | .sliceReserve _ q => optFits RangeFields.fits q
  | .sliceUnreserve _ q => optFits RangeFields.fits q
  | .mapRead _ q => optFits RangeFields.fits q
  | .grantLevel _ q => optFits LevelFields.fits q
  | .sweepSet _ q => optFits SweepFields.fits q
  | .sweepRestart _ _ => true
  | .sweepRestartTakesEffect _ => true
  | .sweepResume => true
  | .quarantineForce _ q => optFits RangeFields.fits q
  | .quarantineLift _ q => optFits RangeFields.fits q
  | .qualityRead _ q => optFits RangeFields.fits q
  | .lineupPush _ _ => true
  | .lineupPop _ _ => true
  | .phaseARelease => true
  | .lineupItemIssue => true
  | .lineupRotate _ _ => true
  | .lineupDrop _ q => optFits fits1 q
  | .lineupStatus _ _ => true
  | .eventsRead _ _ => true
  | .eventsMask _ q => optFits EventsMaskFields.fits q
  | .plantSet _ q => optFits PlantFields.fits q
  | .plantQuery _ _ => true
  | .quietEnter _ _ => true
  | .quietLeave _ _ => true
  | .engineReset _ _ => true
  | .jobStart => true
  | .setupEnd c => c < 4
  | .strobeMinimumElapsed c => c < 4
  | .lockWaitTimeout c => c < 4
  | .holdEnd c => c < 4
  | .retireBacklogRelease => true
  | .turnaroundExpiry t => t < 16
  | .parkExpiry n => n < 1024
  | .dwellEnd _ => true
  | .linkResetReleased => true

end Sys2Proof
end

