-- ==== Sys2Proof/Tests/Slice0.lean ====
section
/-! SUPPORT. Tests: ill-formed commands that `Instr.wellFormed` refuses, payloads and frames read from their
bytes, the manual's worked figures, one step of the commands on small states, and for each statement with
hypotheses a concrete state that meets them (`witness_<statement>`). -/

namespace Sys2Proof.Tests

set_option Elab.async false

open Sys2Proof Sys2Proof.Machine

/-! ### WellFormed refuses what cannot be given -/

theorem test_well_formed : (Instr.tenantAmend 7 (some ⟨3, {}⟩)).wellFormed = true := by decide

theorem test_ill_formed_indices :
    (Instr.statusRead 0xA5 1).wellFormed = false ∧ (Instr.statusRead 0x5A 1).wellFormed = false ∧
      (Instr.readyInputChange 16 true).wellFormed = false ∧ (Instr.setupEnd 4).wellFormed = false ∧
      (Instr.strobeMinimumElapsed 4).wellFormed = false ∧ (Instr.lockWaitTimeout 4).wellFormed = false ∧
      (Instr.holdEnd 4).wellFormed = false ∧ (Instr.turnaroundExpiry 16).wellFormed = false ∧
      (Instr.parkExpiry 1024).wellFormed = false := by decide

theorem test_ill_formed_tenant_fields :
    (Instr.tenantDefine 0 (some ⟨256, .data, .both, {}⟩)).wellFormed = false ∧
      (Instr.tenantDefine 0 (some ⟨0, .data, .both, { committed := some 16777216 }⟩)).wellFormed = false ∧
      (Instr.tenantAmend 0 (some ⟨0, { ceiling := some 16777216 }⟩)).wellFormed = false ∧
      (Instr.tenantAmend 0 (some ⟨0, { margin := some 256 }⟩)).wellFormed = false ∧
      (Instr.tenantAmend 0 (some ⟨0, { maxProfile := some 256 }⟩)).wellFormed = false ∧
      (Instr.tenantAmend 0 (some ⟨0, { defaultLevel := some 128 }⟩)).wellFormed = false ∧
      (Instr.tenantRetire 0 (some 256)).wellFormed = false ∧ (Instr.tenantRetireForce 0 256).wellFormed = false ∧
      (Instr.tenantQuery 0 (some 256)).wellFormed = false ∧ (Instr.faultMask 0 (some ⟨256, 0⟩)).wellFormed = false ∧
      (Instr.faultClear 0 (some ⟨256, none⟩)).wellFormed = false := by decide

theorem test_ill_formed_placement_fields :
    (Instr.grantAsk 0 (some ⟨256, 0, none, none, none⟩)).wellFormed = false ∧
      (Instr.grantAsk 0 (some ⟨0, 0, some 256, none, none⟩)).wellFormed = false ∧
      (Instr.grantAsk 0 (some ⟨0, 0, none, some 256, none⟩)).wellFormed = false ∧
      (Instr.grantAsk 0 (some ⟨0, 0, none, none, some (-129)⟩)).wellFormed = false ∧
      (Instr.grantMove 0 (some ⟨256, none⟩)).wellFormed = false ∧
      (Instr.grantMove 0 (some ⟨0, some 65536⟩)).wellFormed = false ∧
      (Instr.grantResize 0 (some ⟨256, 2, none⟩)).wellFormed = false ∧
      (Instr.grantResize 0 (some ⟨0, 256, none⟩)).wellFormed = false ∧
      (Instr.grantResize 0 (some ⟨0, 2, some 256⟩)).wellFormed = false ∧
      (Instr.grantRelease 0 (some 256)).wellFormed = false ∧ (Instr.grantQuery 0 (some 256)).wellFormed = false ∧
      (Instr.grantLevel 0 (some ⟨256, 0⟩)).wellFormed = false ∧
      (Instr.grantLevel 0 (some ⟨0, 128⟩)).wellFormed = false := by decide

theorem test_ill_formed_ranges :
    (Instr.sliceReserve 0 (some ⟨65536, 1⟩)).wellFormed = false ∧
      (Instr.sliceUnreserve 0 (some ⟨0, 256⟩)).wellFormed = false ∧ (Instr.mapRead 0 (some ⟨65536, 1⟩)).wellFormed = false ∧
      (Instr.quarantineForce 0 (some ⟨0, 256⟩)).wellFormed = false ∧
      (Instr.quarantineLift 0 (some ⟨65536, 1⟩)).wellFormed = false ∧
      (Instr.qualityRead 0 (some ⟨0, 256⟩)).wellFormed = false ∧
      (Instr.lineupDrop 0 (some 256)).wellFormed = false := by decide

theorem test_ill_formed_settings :
    (Instr.sweepSet 0 (some { window := some (65536, 0) })).wellFormed = false ∧
      (Instr.sweepSet 0 (some { window := some (0, 65536) })).wellFormed = false ∧
      (Instr.sweepSet 0 (some { dwell := some 256 })).wellFormed = false ∧
      (Instr.sweepSet 0 (some { shift := some 256 })).wellFormed = false ∧
      (Instr.sweepSet 0 (some { qt := some 256 })).wellFormed = false ∧
      (Instr.sweepSet 0 (some { rt := some 256 })).wellFormed = false ∧
      (Instr.sweepSet 0 (some { nq := some 256 })).wellFormed = false ∧
      (Instr.sweepSet 0 (some { nr := some 256 })).wellFormed = false ∧
      (Instr.eventsMask 0 (some { tenants := [none] })).wellFormed = false ∧
      (Instr.plantSet 0 (some { split := some 256 })).wellFormed = false ∧
      (Instr.plantSet 0 (some { cap := some 16777216 })).wellFormed = false ∧
      (Instr.plantSet 0 (some { slope := some 256 })).wellFormed = false ∧
      (Instr.plantSet 0 (some { pivot := some 65536 })).wellFormed = false ∧
      (Instr.plantSet 0 (some { parkTime := some 65536 })).wellFormed = false ∧
      (Instr.plantSet 0 (some { fillDrop := some 256 })).wellFormed = false ∧
      (Instr.plantSet 0 (some { assumedSnr := some 256 })).wellFormed = false ∧
      (Instr.plantSet 0 (some { voice := { setup := some 65536 } })).wellFormed = false ∧
      (Instr.plantSet 0 (some { video := { strobeMin := some 65536 } })).wellFormed = false ∧
      (Instr.plantSet 0 (some { data := { lockMax := some 65536 } })).wellFormed = false ∧
      (Instr.plantSet 0 (some { voice := { hold := some 65536 } })).wellFormed = false ∧
      (Instr.plantSet 0 (some { data := { turnaround := some 65536 } })).wellFormed = false := by decide

/-! ### Payloads and frames, from the bytes that chapter 11 lays out -/

/-- TENANT_DEFINE of tenant 3, DATA, FORWARD, with a ceiling and a scan direction. -/
theorem test_read_define :
    requestOf 0x10 9 [3, 0, 0, 0b0100010, 0x01, 0x86, 0xA0, 1] =
      some (.tenantDefine 9 (some ⟨3, .data, .forward, { ceiling := some 100000, scan := some .down }⟩)) := by decide +kernel

/-- TENANT_RETIRE's force option picks the row. -/
theorem test_read_retire :
    requestOf 0x12 9 [5, 0] = some (.tenantRetire 9 (some 5)) ∧
      requestOf 0x12 9 [5, 1] = some (.tenantRetireForce 9 5) ∧
      requestOf 0x12 9 [5, 2] = some (.tenantRetire 9 none) := by decide +kernel

/-- GRANT_ASK of tenant 2, RETURN, width 8; a direction that is not listed still reaches the queue (R58, R170); a
bit of the mask that names no field is malformed. -/
theorem test_read_ask :
    requestOf 0x20 1 [2, 1, 1, 8] = some (.grantAsk 1 (some ⟨2, 1, some 8, none, none⟩)) ∧
      requestOf 0x20 1 [2, 3, 0] = some (.grantAsk 1 (some ⟨2, 3, none, none, none⟩)) ∧
      requestOf 0x20 1 [2, 1, 0x80] = some (.grantAsk 1 none) := by decide +kernel

/-- SLICE_RESERVE of 4 slices from 300. -/
theorem test_read_reserve : requestOf 0x26 1 [0x01, 0x2C, 4] = some (.sliceReserve 1 (some ⟨300, 4⟩)) := by decide +kernel

/-- GRANT_LEVEL: the level is a two's-complement byte. -/
theorem test_read_level : requestOf 0x30 1 [30, 0xF4] = some (.grantLevel 1 (some ⟨30, -12⟩)) := by decide +kernel

/-- SWEEP_SET with a window and a shift; a byte too many is malformed. -/
theorem test_read_sweep :
    requestOf 0x40 1 [0b101, 0, 72, 3, 0xFF, 1] = some (.sweepSet 1 (some { window := some (72, 1023), shift := some 1 })) ∧
      requestOf 0x40 1 [0, 0] = some (.sweepSet 1 none) := by decide +kernel

/-- EVENTS_MASK: the PLANT set under presence bit 16; a set that names a kind of no source is malformed. -/
theorem test_read_events_mask :
    requestOf 0x61 1 [0, 0, 1, 0x7F] = some (.eventsMask 1 (some ⟨List.replicate 16 none, some 0x7F⟩)) ∧
      requestOf 0x61 1 [1, 0, 0, 0x04, 0x00] = some (.eventsMask 1 none) := by decide +kernel

/-- PLANT_SET with a cap and the DATA turnaround, under presence bits 1 and 22. -/
theorem test_read_plant :
    requestOf 0x70 1 [0x02, 0, 0x40, 0x03, 0xCC, 0xA8, 0, 50] =
      some (.plantSet 1 (some { cap := some 249000, data := { turnaround := some 50 } })) := by decide +kernel

/-- An empty payload, and a KIND that names no request. -/
theorem test_read_kinds :
    requestOf 0x51 1 [] = some (.lineupPop 1 (some ())) ∧ requestOf 0x51 1 [0] = some (.lineupPop 1 none) ∧
      requestOf 0x2A 1 [] = none := by decide +kernel

/-- R162's example: LEN 3, TAG 21, KIND 42 and payload 20, 0, 9 carry the CHECK 0x00 0x5F. -/
theorem test_read_frame :
    readFrame [0xC3, 3, 21, 42, 20, 0, 9, 0x00, 0x5F] = .checked 21 42 [20, 0, 9] ∧
      readFrame [0xC3, 3, 21, 42, 20, 0, 9, 0x00, 0x60] = .discarded ∧
      readFrame [0xC3, 251] = .discarded ∧ readFrame [] = .nothing := by decide +kernel

theorem test_request_frame : requestFrame 21 42 [20, 0, 9] = [0xC3, 3, 21, 42, 20, 0, 9, 0x00, 0x5F] := by decide +kernel

/-! ### The manual's figures (chapter 5) -/

/-- R85's table, the worked DATA grant of chapter 3, and the largest capacity. -/
theorem test_capacity :
    capacityOf .voice 1 1 = 2109 ∧ capacityOf .data 16 4 = 145000 ∧ capacityOf .data 128 6 = 1740000 := by decide

/-- R86 and the worked sequence of 5.9: weights at 0, −8, −6, −24, −32, −18 and the ends. -/
theorem test_weight :
    weight 0 = 256 ∧ weight (-8) = 161 ∧ weight (-6) = 181 ∧ weight (-24) = 64 ∧ weight (-32) = 40 ∧
      weight (-18) = 90 ∧ weight (-200) = 1 ∧ weight 48 = 4096 := by decide +kernel

/-- R87 with slope 12 and pivot 512: the offsets of the worked sequence of 5.9. -/
theorem test_tilt : tiltOffset 12 512 640 = 6 ∧ tiltOffset 12 512 900 = 18 ∧ tiltOffset 12 512 500 = -1 := by decide +kernel

/-- R131's worked example with k = 2: toward 101 from 120. -/
theorem test_smooth : smooth 2 (some 120) 101 = 115 ∧ smooth 2 none 101 = 101 ∧ smooth 2 (some 101) 104 = 101 := by
  decide +kernel

/-- R66: the start values of an UP and a DOWN scan. -/
theorem test_scan_start :
    startUp .video 74 = 76 ∧ startDown .video 74 4 = 68 ∧ startDown .data 3 8 = -4 ∧ startDown .video 1 4 = -4 := by
  decide +kernel

/-- R103: the first id counting upward from the counter that no job holds, wrapping. -/
theorem test_first_free_id :
    firstFreeId [⟨255, 0, .move, .move, none, none, false, none, none⟩, ⟨0, 1, .move, .move, none, none, false, none, none⟩]
      255 = 1 := by decide +kernel

/-- The opcode table gives no row any bits. -/
theorem test_table_word : decodeTableWord 8 0 = none ∧ State.reset.withFetchWord 8 0 = State.reset := by
  exact ⟨rfl, rfl⟩

/-! ### Small states -/

/-- The part with nothing waiting at its link. -/
def idle (p : Part) : State := ⟨[], Link.powerOn, p⟩

/-- The part with one request delivered under a tag. -/
def awaiting (cmd : Instr) (tag : Byte) (p : Part) : State :=
  ⟨[], { Link.powerOn with outstanding := [tag], delivered := [⟨cmd, false⟩] }, p⟩

/-- A request so delivered awaits its service: the first hypothesis of every statement about a request. -/
theorem awaiting_awaits (cmd : Instr) (tag : Byte) (p : Part) : (awaiting cmd tag p).awaits cmd tag := by
  simp [awaiting, State.awaits]

/-- A forward DATA tenant that lists grant 0. -/
def tenant3 : TenantRecord :=
  ⟨.active, .data, .forward, 0, 16777215, 0, 6, 0, .up, 0, 72, .high, 0, 0, [0], none⟩

/-- An ACTIVE grant of tenant 3 at 72, width 2, profile 4. -/
def grant0 : Grant := ⟨3, .data, .forward, 72, 2, some 2, some 0, 4, 18125, .active, false, false⟩

/-- The part with tenant 3 and grant 0 on its slices. -/
def holding (t : TenantRecord) (r : Grant) : Part :=
  { Part.powerOn with
    tenants := Part.powerOn.tenants.set 3 ⟨1, some t⟩
    grants := Part.powerOn.grants.set 0 (some r)
    slices := (Part.powerOn.slices.set 72 ⟨.granted 0, false, false⟩).set 73 ⟨.granted 0, false, false⟩ }

/-- The same with waiting placement work. -/
def working (t : TenantRecord) (r : Grant) (w : List Work) : Part :=
  { holding t r with alloc := ⟨w, none, false⟩ }

/-- A job of grant 0 under id 7. -/
def job7 (kind : JobKind) (dest : Option Place) (run : Option Run) : Job :=
  ⟨7, 0, kind, kind, dest, none, false, none, run⟩

/-- Grant 0 with a job of this kind in this run. -/
def cycling (r : Grant) (kind : JobKind) (dest : Option Place) (run : Option Run) : Part :=
  (holding tenant3 r).setJobs [job7 kind dest run]

/-- The DATA timings as a cycle copies them. -/
def timingsData : Timings := ⟨100, 200, 5000, 100, 200⟩

def full : List Job := (List.range 24).map fun i => ⟨i, 0, .move, .move, none, none, false, none, none⟩

/-! ### One step of each command: expected results by hand from the rule named -/

/-- The part after a command of this machine, alone at its link. -/
def after (c : Instr) (p : Part) : Part :=
  match exec c (idle p) with
  | .next t => t.part
  | _ => p

/-- The part after a request delivered under tag 9. -/
def served9 (c : Instr) (p : Part) : Part :=
  match exec c (awaiting c 9 p) with
  | .next t => t.part
  | _ => p

/-- The frames that stand in the outbound queue after it. -/
def frames9 (c : Instr) (p : Part) : List (List Byte) :=
  match exec c (awaiting c 9 p) with
  | .next t => t.link.outbound
  | _ => []

/-- The link after a command on this state. -/
def linkAfter (c : Instr) (s : State) : Link :=
  match exec c s with
  | .next t => t.link
  | _ => s.link

/-- R158, R159: at reset IN_SPACE alone is set. -/
theorem test_status_read :
    exec (.statusRead 0 2) State.reset = .next { State.reset with link := { Link.powerOn with dataOut := [1, 0, 0] } } := by
  rfl

/-- R161, R163: an EVENTS_READ under tag 5 is taken. -/
theorem test_send :
    let l := linkAfter (.send [0xC3, 0, 5, 0x60, 0, 0x65]) State.reset
    l.outstanding = [5] ∧ l.delivered = [⟨.eventsRead 5 (some ()), false⟩] := by decide +kernel

/-- R165: the status byte with OUT_READY, the frame, then 0x00; the frame leaves the queue. -/
theorem test_fetch :
    let l := linkAfter (.fetch 3) { State.reset with link := { Link.powerOn with outbound := [[7, 8]] } }
    l.dataOut = [3, 7, 8, 0] ∧ l.outbound = [] := by decide +kernel

/-- R168: the accounts are empty after LINK_RESET. -/
theorem test_link_reset :
    let l := linkAfter .linkReset (awaiting .jobStart 9 Part.powerOn)
    l.outstanding = [] ∧ l.held = true := by decide +kernel

/-- R27: a rising edge raises READY_RISE (bit 8), a falling one nothing. -/
theorem test_ready_rise :
    (after (.readyInputChange 15 true) Part.powerOn).events.raised.getD 15 0 = 0x100 ∧
      (after (.readyInputChange 15 false) Part.powerOn).events.raised.getD 15 0 = 0 := by decide +kernel

/-- R24, R166: DONE with generation 1; SYNC, LEN 1, TAG 9, KIND 0x90, STATUS 0, the payload, CHECK 0x009B. -/
theorem test_define :
    frames9 (.tenantDefine 9 (some ⟨0, .data, .both, {}⟩)) Part.powerOn = [[0x3C, 1, 9, 0x90, 0, 1, 0, 0x9B]] := by
  decide +kernel

/-- R21: a committed capacity above the ceiling is lowered to it. -/
theorem test_amend :
    ((served9 (.tenantAmend 9 (some ⟨3, { committed := some 90, ceiling := some 80 }⟩)) (holding tenant3 grant0)).tenant 3).map
      (·.committed) = some 80 := by decide +kernel

/-- R30: a plain retire of a tenant with a grant is refused BUSY (0x07); R31: a forced one retires. -/
theorem test_retire :
    frames9 (.tenantRetire 9 (some 3)) (holding tenant3 grant0) = [[0x3C, 0, 9, 0x92, 7, 0, 0xA2]] ∧
      ((served9 (.tenantRetireForce 9 3) (holding tenant3 grant0)).tenant 3).map (·.status) = some .retiring := by
  decide +kernel

/-- R39 and 11.4: an EMPTY tenant's record ends after its generation. -/
theorem test_tenant_query :
    frames9 (.tenantQuery 9 (some 2)) Part.powerOn = [[0x3C, 3, 9, 0x93, 0, 2, 0, 0, 0, 0xA1]] := by decide +kernel

/-- R34: unmasking a sticky class holds the tenant; R35: clearing it releases the tenant. -/
theorem test_faults :
    ((served9 (.faultMask 9 (some ⟨3, 0⟩)) (holding { tenant3 with mask := 2, sticky := 2 } grant0)).tenant 3).map
        (·.status) = some .held ∧
      ((served9 (.faultClear 9 (some ⟨3, none⟩)) (holding { tenant3 with status := .held, sticky := 2 } grant0)).tenant
        3).map (·.status) = some .active := by decide +kernel

/-- R58: the three placement requests wait, with no reply. -/
theorem test_arrivals :
    (served9 (.grantAsk 9 (some ⟨3, 0, some 2, none, none⟩)) Part.powerOn).placementQueue.length = 1 ∧
      (served9 (.grantMove 9 (some ⟨0, none⟩)) Part.powerOn).placementQueue.length = 1 ∧
      frames9 (.grantResize 9 (some ⟨0, 2, none⟩)) Part.powerOn = [] := by decide +kernel

/-- R41, R45, R76: an ask takes the lowest free record and lands above grant 0; its capacity at the assumed SNR
(profile 4) is that of 4 slices. -/
theorem test_ask :
    ((after .grantAskTake (working tenant3 grant0 [.item ⟨1, .ask ⟨3, 0, some 4, some 2, none⟩, false⟩])).grant
      1).map (fun r => (r.first, r.width, r.floor, r.profile, r.capacity)) = some (74, 4, some 2, 4, 36250) := by
  decide +kernel

/-- R78: the moved grant keeps its place, and its destination is claimed. -/
theorem test_move :
    let p := after .grantMoveTake (working tenant3 grant0 [.item ⟨1, .move ⟨0, some 100⟩, false⟩])
    (p.grant 0).map (fun r => (r.first, r.state)) = some (72, .moving) ∧ (p.slice 101).use = .claimed 0 := by
  decide +kernel

/-- R80: a width below the floor width is BAD_FIELD (0x02), the reply in build. -/
theorem test_resize :
    (after .grantResizeTake (working tenant3 grant0 [.item ⟨1, .resize ⟨0, 1, none⟩, false⟩])).alloc.reply =
      some ⟨1, 0x22, refuse .badField, false⟩ := by decide +kernel

/-- R79: a relocation's job carries the mark. -/
theorem test_relocation :
    (after .relocationAttempt (working tenant3 { grant0 with impaired := true, relocationPending := true }
      [.attempt 0])).engine.jobs.map (fun j => (j.kind, j.dest, j.relocation)) = [(.move, some ⟨74, 2⟩, true)] := by
  decide +kernel

/-- R52: the reply to a release says LEAVING (4). -/
theorem test_release :
    frames9 (.grantRelease 9 (some 0)) (holding tenant3 grant0) = [[0x3C, 1, 9, 0xA3, 0, 4, 0, 0xB1]] := by decide +kernel

/-- R55: a free record is NO_GRANT (0x05). -/
theorem test_grant_query :
    frames9 (.grantQuery 9 (some 95)) Part.powerOn = [[0x3C, 0, 9, 0xA4, 5, 0, 0xB2]] := by decide +kernel

/-- R61: a CANCEL that names its own tag is TOO_LATE (0x15), and one of a tag not owed NOT_FOUND (0x16). -/
theorem test_cancel :
    frames9 (.cancel 9 (some 9)) Part.powerOn = [[0x3C, 0, 9, 0xA5, 0x15, 0, 0xC3]] ∧
      frames9 (.cancel 9 (some 8)) Part.powerOn = [[0x3C, 0, 9, 0xA5, 0x16, 0, 0xC4]] := by decide +kernel

/-- R15: the crossover may not be reserved; R16: a marked slice goes back to quarantine. -/
theorem test_reservation :
    frames9 (.sliceReserve 9 (some ⟨63, 2⟩)) Part.powerOn = [[0x3C, 0, 9, 0xA6, 0x10, 0, 0xBF]] ∧
      (served9 (.sliceUnreserve 9 (some ⟨1, 1⟩)) (Part.powerOn.setSlice 1 ⟨.reserved, true, true⟩)).slice 1 =
        ⟨.quarantined, false, true⟩ := by decide +kernel

/-- 11.4: the map entry of a CROSSOVER slice. -/
theorem test_map_read :
    frames9 (.mapRead 9 (some ⟨64, 1⟩)) Part.powerOn =
      [[0x3C, 9, 9, 0xA8, 0, 0, 64, 1, 7, 0xFF, 0xFF, 0, 0, 0, 0x03, 0x00]] := by decide +kernel

/-- R9: an expired slice is FREE. -/
theorem test_park_expiry :
    ((after (.parkExpiry 900) (Part.powerOn.setSlice 900 ⟨.parked 5 (-24), false, false⟩)).slice 900).use = .free := by
  decide +kernel

/-- R95: a decrease is applied at once; R88: its contribution falls with it. -/
theorem test_grant_level :
    let p := served9 (.grantLevel 9 (some ⟨0, -8⟩)) (holding tenant3 grant0)
    (p.grant 0).map (·.level) = some (some (-8)) ∧ p.contribution 0 = 2 * 161 := by decide +kernel

/-- R129: a dwell of 1 ms is stored as 2, and the release threshold is raised to 4 above the other. -/
theorem test_sweep_set :
    let m := (served9 (.sweepSet 9 (some { dwell := some 1, qt := some 90 })) Part.powerOn).monitor
    m.waiting.dwell = 2 ∧ m.qt = 90 ∧ m.rt = 94 := by decide +kernel

/-- R130: a restart waits for the dwell in progress. -/
theorem test_sweep_restart :
    (served9 (.sweepRestart 9 (some ())) Part.powerOn).monitor.restartWaiting = true ∧
      (after (.sweepRestartTakesEffect 100) { Part.powerOn with monitor := { Monitor.powerOn with
        restartWaiting := true, waiting := ⟨5, 1023, 8, 2⟩ } }).monitor.pointer = 5 := by decide +kernel

/-- R131: a slice that was UNKNOWN takes the estimate, and the pointer goes on. -/
theorem test_dwell_end :
    let p := after (.dwellEnd 100) Part.powerOn
    (p.qualityOf 0).smoothed = some 100 ∧ p.monitor.pointer = 1 := by decide +kernel

/-- R12, R135: a forced slice is pinned; R136: the host's lift frees it. -/
theorem test_quarantine :
    (served9 (.quarantineForce 9 (some ⟨5, 1⟩)) Part.powerOn).slice 5 = ⟨.quarantined, false, true⟩ ∧
      (served9 (.quarantineLift 9 (some ⟨5, 1⟩)) (Part.powerOn.setSlice 5 ⟨.quarantined, false, true⟩)).slice 5 =
        ⟨.free, false, false⟩ := by decide +kernel

/-- R146: with TOP at 0 a push saves into slot 3, its entries counted. -/
theorem test_lineup_push :
    frames9 (.lineupPush 9 (some ())) (holding tenant3 grant0) = [[0x3C, 3, 9, 0xD0, 0, 3, 1, 0, 0, 0xE0]] := by
  decide +kernel

/-- R149: a pop of an EMPTY slot is refused EMPTY (0x12). -/
theorem test_lineup_pop :
    frames9 (.lineupPop 9 (some ())) Part.powerOn = [[0x3C, 0, 9, 0xD1, 0x12, 0, 0xEC]] := by decide +kernel

/-- R147: a rotation moves TOP to 1. -/
theorem test_lineup_rotate : (served9 (.lineupRotate 9 (some ())) Part.powerOn).store.top = 1 := by decide +kernel

/-- R177: what was raised is returned in source order, and cleared. -/
theorem test_events_read :
    let p := Part.powerOn.raise 0 .faultHeld
    (frames9 (.eventsRead 9 (some ())) p).map (fun f => (f.drop 5).take 3) = [[2, 0, 0]] ∧
      (served9 (.eventsRead 9 (some ())) p).events.pending = false := by decide +kernel

/-- R178: the PLANT's mask alone is replaced. -/
theorem test_events_mask :
    let u := (served9 (.eventsMask 9 (some ⟨List.replicate 16 none, some 0⟩)) Part.powerOn).events
    u.plantMask = 0 ∧ u.masks = List.replicate 16 0b1011111111#10 := by decide +kernel

/-- R172: the composite 0 and OVER_CAP clear in the reply; R96: a slope of 33 is stored as 32, CLAMPED (bit 7). -/
theorem test_plant_set :
    frames9 (.plantSet 9 (some { parkTime := some 0 })) { Part.powerOn with slices := [] } =
        [[0x3C, 4, 9, 0xF0, 0, 0, 0, 0, 0, 0, 0xFD]] ∧
      (served9 (.plantSet 9 (some { slope := some 33 })) { Part.powerOn with slices := [] }).level.slope = 32 := by
  decide +kernel

/-- R120, R174: QUIET_ENTER sets the flag, QUIET_LEAVE outside QUIET changes nothing. -/
theorem test_quiet :
    (served9 (.quietEnter 9 (some ())) Part.powerOn).engine.quiet = true ∧
      frames9 (.quietLeave 9 (some ())) Part.powerOn = [[0x3C, 1, 9, 0xF3, 0, 0, 0, 0xFD]] := by decide +kernel

/-- R105, R121: QUIET_LEAVE starts the queued job in its own act. -/
theorem test_quiet_leave :
    (served9 (.quietLeave 9 (some ())) ((cycling { grant0 with state := .moving } .move (some ⟨100, 2⟩) none).setQuiet true)).engine.jobs.map
      (·.run) = [some ⟨0, .setup, 100, 0, none, timingsData⟩] := by decide +kernel

/-- R175: the reply counts no placement and no job; RESET_DONE alone is raised. -/
theorem test_engine_reset :
    frames9 (.engineReset 9 (some ())) Part.powerOn = [[0x3C, 2, 9, 0xF4, 0, 0, 0, 0, 0xFF]] ∧
      (served9 (.engineReset 9 (some ())) (Part.powerOn.raise 0 .impaired)).events.plantRaised = 0x40 := by decide +kernel

/-- R105, R107: a MOVE starts in channel 0, in SETUP, with the DATA timings; in the same act the job of another tenant
starts in channel 1. -/
theorem test_job_start :
    let p := cycling { grant0 with state := .moving } .move (some ⟨100, 2⟩) none
    let other : Job := ⟨8, 1, .release, .release, none, none, false, none, none⟩
    let q := { p.setJobs (p.engine.jobs ++ [other]) with grants := p.grants.set 1 (some { grant0 with tenant := 4 }) }
    (after .jobStart p).engine.jobs.map (·.run) = [some ⟨0, .setup, 100, 0, none, timingsData⟩] ∧
      (after .jobStart q).engine.jobs.map (·.run.map (·.channel)) = [some 0, some 1] := by decide +kernel

/-- R109, R111: SETUP ends; the lock wait of 5000 ms begins with the strobe minimum of 200. -/
theorem test_setup_end :
    (after (.setupEnd 0) (cycling { grant0 with state := .moving } .move (some ⟨100, 2⟩)
      (some ⟨0, .setup, 100, 0, none, timingsData⟩))).engine.jobs.map (·.run) =
        [some ⟨0, .strobe, 0, 200, some 5000, timingsData⟩] := by decide +kernel

/-- R111: the input is not asserted, so STROBE waits on; the timeout raises LOCK_TIMEOUT (bit 2). With the input
asserted and the minimum over, the maximum does not run out. -/
theorem test_strobe :
    let at_ : Nat → Part := fun left =>
      cycling { grant0 with state := .moving } .move (some ⟨100, 2⟩) (some ⟨0, .strobe, 0, left, some 5000, timingsData⟩)
    (after (.strobeMinimumElapsed 0) (at_ 200)).engine.jobs.map (·.run) =
        [some ⟨0, .strobe, 0, 0, some 4800, timingsData⟩] ∧
      (after (.lockWaitTimeout 0) (at_ 200)).events.raised.getD 3 0 = 4 ∧
      (after (.lockWaitTimeout 0) { at_ 0 with ready := (at_ 0).ready.set 3 true }).events.raised.getD 3 0 = 0 := by
  decide +kernel

/-- A batch in phase B whose head, a MOVE of grant 0 to 100, waits for the power of a batch job's end. -/
def waitingBatch (retry : Bool) : Batch :=
  ⟨.b, [], [], [.move ⟨0, 3, 1, .data, .forward, 100, 2, some 2, some 0⟩], true, retry, ⟨0, 0, 0, 1⟩⟩

/-- R154: a waiting head is tried again only once a batch job has ended. -/
theorem test_item_issue :
    let p : Bool → Part := fun retry => { holding tenant3 grant0 with
      store := ⟨List.replicate 4 .empty, 0, false, some (waitingBatch retry), none⟩ }
    (after .lineupItemIssue (p false)).engine.jobs = [] ∧
      (after .lineupItemIssue (p true)).engine.jobs.map (·.kind) = [.move] := by decide +kernel

/-- R1, R4: a MOVE item to a FREE slice of the other band fails and ends the batch, and so does one to a FREE place in
the band of an entry of the other direction. -/
theorem test_item_band :
    let failed : BatchItem → Bool := fun i =>
      let u := after .lineupItemIssue { holding tenant3 grant0 with
        store := ⟨List.replicate 4 .empty, 0, false, some ⟨.b, [], [], [i], false, false, ⟨0, 0, 0, 0⟩⟩, none⟩ }
      u.engine.jobs.isEmpty && u.grant 0 == some grant0 && u.store.last == some ⟨⟨0, 0, 1, 0⟩, false⟩
    failed (.move ⟨0, 3, 1, .data, .forward, 10, 2, some 2, some 0⟩) ∧
      failed (.move ⟨0, 3, 1, .data, .ret, 10, 2, some 2, none⟩) := by decide +kernel

/-- R153: with 24 jobs queued an ACTIVE grant is passed over, and takes the entry that an ARRIVING one then frees. -/
theorem test_phase_a_order :
    let arriving : Grant := { grant0 with first := 80, state := .arriving }
    let job : Job := ⟨30, 1, .activate, .activate, some ⟨80, 2⟩, none, false, none, none⟩
    let p := holding { tenant3 with grants := [0, 1, 2] } grant0
    let p := { p with slices := p.slices.take 92 }
    let p := { p.setJobs (full.drop 1 ++ [job]) with
      grants := (p.grants.set 1 (some arriving)).set 2 (some { grant0 with first := 90 })
      store := ⟨List.replicate 4 .empty, 0, false, some ⟨.a, [0, 1, 2], [], [], false, false, ⟨0, 0, 0, 0⟩⟩, none⟩ }
    let q := Part.releaseInOrder [] [0, 1, 2] p
    (q.grant 0).map (·.state) = some .leaving ∧ q.grant 1 = none ∧ (q.grant 2).map (·.state) = some .active ∧
      (q.store.batch.map (·.releases)) = some [2] := by decide +kernel

/-- R31, R54: with 24 jobs queued the first ACTIVE grant of a forced retire is held back, and takes the entry that an
ARRIVING one then frees before the ACTIVE grant behind it. -/
theorem test_retire_order :
    let arriving : Grant := { grant0 with first := 80, state := .arriving }
    let job : Job := ⟨30, 1, .activate, .activate, some ⟨80, 2⟩, none, false, none, none⟩
    let p := holding { tenant3 with grants := [0, 1, 2] } grant0
    let p := { p with slices := p.slices.take 92 }
    let p := { p.setJobs (full.drop 1 ++ [job]) with
      grants := (p.grants.set 1 (some arriving)).set 2 (some { grant0 with first := 90 }) }
    let q := served9 (.tenantRetireForce 9 3) p
    (q.grant 0).map (·.state) = some .leaving ∧ q.grant 1 = none ∧ (q.grant 2).map (·.state) = some .active ∧
      q.engine.jobs.length = 24 := by decide +kernel

/-- R45, R81: a grow to 8 with floor width 6 over a run of 5 keeps no narrower width, masked or not. -/
theorem test_grow_floor :
    let blocked := { working { tenant3 with mask := 15 } grant0 [.item ⟨1, .resize ⟨0, 8, some 6⟩, false⟩] with
      slices := (holding tenant3 grant0).slices.set 77 ⟨.reserved, false, false⟩ }
    (after .grantResizeTake blocked).alloc.reply = some ⟨1, 0x22, refuseFault .fit 1, false⟩ := by decide +kernel

/-- R113, R115: an ACTIVATE ends; its grant is ACTIVE, and the tenant's turnaround of 200 ms begins. -/
theorem test_hold_end :
    let p := after (.holdEnd 0) (cycling { grant0 with state := .arriving } .activate (some ⟨72, 2⟩)
      (some ⟨0, .hold, 100, 0, none, timingsData⟩))
    (p.grant 0).map (·.state) = some .active ∧ p.engine.jobs = [] ∧ p.engine.turnaround.getD 3 none = some 200 := by
  decide +kernel

/-- R93's example, at 72 and 73 under another tilt with its offset of 6: a release lets go of two slices at level −8
with 100 of headroom, and the fill of 57 fits at the first only. -/
theorem test_hold_end_parks :
    let p := cycling { grant0 with level := some (-8), state := .leaving } .release none
      (some ⟨0, .hold, 100, 0, none, timingsData⟩)
    let q := after (.holdEnd 0) { p with
      slices := p.slices.take 76, level := { p.level with cap := 100, slope := 22, pivot := 0 } }
    q.offset 72 = 6 ∧ q.offset 73 = 6 ∧ q.slice 72 = ⟨.parked 10000 (-32), false, false⟩ ∧
      q.slice 73 = ⟨.free, false, false⟩ ∧ q.composite = 57 := by decide +kernel

/-- R115: the timer stops. -/
theorem test_turnaround :
    (after (.turnaroundExpiry 3) (Part.powerOn.setTurnaround 3 (some 200))).engine.turnaround.getD 3 none = none := by
  decide +kernel

/-! ### Witnesses: the hypotheses of each statement met together, clause by clause -/

/-- The map at power-on, slice by slice. -/
theorem powerOn_slice (n : Nat) (h : n < 1024) :
    Part.powerOn.slice n = if 64 ≤ n ∧ n < 72 then ⟨.crossover, false, false⟩ else ⟨.free, false, false⟩ := by
  simp only [Part.slice, Part.powerOn, SliceEntry.powerOn, List.getD_eq_getElem?_getD, List.getElem?_append,
    List.getElem?_replicate, List.length_replicate]
  split_ifs <;> first | rfl | omega

theorem powerOn_mapped : Part.powerOn.mapped := by
  intro n h
  rw [powerOn_slice n h]
  split_ifs with c
  · exact ⟨rfl, fun _ => ⟨c.1, c.2⟩, fun _ => rfl⟩
  · exact ⟨rfl, nofun, fun d => absurd ⟨d.1, d.2⟩ c⟩

/-- Of the invariants that every step keeps. -/
theorem witness_StepInvariants :
    State.reset.part.shaped ∧ State.reset.part.mapped ∧ State.reset.part.jobsBounded ∧ State.reset.part.inRange ∧
      State.reset.link.accounted ∧ State.reset.link.settled ∧ ∃ t, step State.reset = .next t := by
  refine ⟨by decide +kernel, powerOn_mapped, by decide +kernel, by decide +kernel, by decide +kernel,
    by decide +kernel, _, rfl⟩

theorem witness_StepTakesFrontCommand :
    ({ State.reset with pending := [.jobStart, .powerOn] } : State).pending = .jobStart :: [.powerOn] ∧
      State.reset.pending = [] := ⟨rfl, rfl⟩

theorem witness_QuietAndSplitAreGuarded :
    (∃ t, exec .jobStart State.reset = .next t) ∧ (∀ tag q, Instr.jobStart ≠ .quietEnter tag q ∧ Instr.jobStart ≠ .quietLeave tag q) ∧
      Instr.jobStart ≠ .powerOn ∧ ∀ tag q, Instr.jobStart ≠ .plantSet tag q := by
  refine ⟨⟨_, rfl⟩, ?_, ?_, ?_⟩ <;> simp

theorem witness_StatusReadAndFetchReport_status : State.reset.link.held = false ∧ (0 : Byte) ≠ 0xA5 ∧ (0 : Byte) ≠ 0x5A := by decide

/-- A frame of 3 bytes: fetched whole at 3 clocks, left at 2. -/
theorem witness_StatusReadAndFetchReport :
    let s : State := { State.reset with link := { Link.powerOn with outbound := [[1, 2, 3]] } }
    s.link.held = false ∧ s.link.outbound = [1, 2, 3] :: [] ∧ [1, 2, 3].length ≤ 3 ∧ 2 < [1, 2, 3].length ∧
      State.reset.link.outbound = [] := by decide

/-- A wrong SYNC, LEN 251, SYNC alone, a frame one byte short, and a CHECK that is one too high. -/
theorem witness_SendDiscardsBadFrames :
    State.reset.link.held = false ∧ State.reset.link.inSpace = true ∧ (0xC4 : Byte) ≠ 0xC3 ∧
      250 < (251 : Byte).toNat ∧ ([1, 0x60, 0] : List Byte).length < (0 : Byte).toNat + 4 ∧
      (0 : Byte).toNat * 256 + (0x62 : Byte).toNat ≠ ((0 : Byte).toNat + (1 : Byte).toNat + (0x60 : Byte).toNat + 0) % 65536 := by
  decide

/-- IN_SPACE 0 with eight frames waiting; IN_SPACE 1 with the tag owed, with it free under a KIND that names no
request, and under one that does; the longest payload. -/
theorem witness_SendTakesRequests :
    let packed : Link := { Link.powerOn with outbound := List.replicate 8 [] }
    let owing : Link := { Link.powerOn with outstanding := [5] }
    packed.held = false ∧ packed.inSpace = false ∧ owing.held = false ∧ owing.inSpace = true ∧ 5 ∈ owing.outstanding ∧
      6 ∉ owing.outstanding ∧ requestOf 0 6 [] = none ∧ requestOf 0x60 6 [] = some (.eventsRead 6 (some ())) ∧
      (List.replicate 250 (0 : Byte)).length ≤ 250 := by decide +kernel

theorem witness_LinkResetClearsTheLink : ({ Link.powerOn with held := true } : Link).held = true := rfl

/-- A reply in build that is owed, and a detached one. -/
theorem witness_PlacementsWaitTheirTurn_reply :
    let built : Bool → State := fun d =>
      ⟨[], { Link.powerOn with outstanding := [5] }, { Part.powerOn with alloc := ⟨[], some ⟨5, 0x20, refuse .fit, d⟩, false⟩ }⟩
    (built false).part.alloc.reply = some ⟨5, 0x20, refuse .fit, false⟩ ∧ 5 ∈ (built false).link.outstanding ∧
      (built true).part.alloc.reply = some ⟨5, 0x20, refuse .fit, true⟩ := by decide +kernel

/-- An item to cancel, owed beside the CANCEL; and none. -/
theorem witness_CancelOutcomes :
    let i : QueueItem := ⟨5, .move ⟨0, none⟩, false⟩
    let s : State := ⟨[], { Link.powerOn with outstanding := [5, 6], delivered := [⟨.cancel 6 (some 5), false⟩] },
      working tenant3 grant0 [.item i]⟩
    s.awaits (.cancel 6 (some 5)) 6 ∧ s.part.alloc.work.find? (Work.carries 5) = some (.item i) ∧
      5 ∈ s.link.outstanding ∧ (5 : Byte) ≠ 6 ∧ s.part.alloc.work.find? (Work.carries 6) = none := by decide +kernel

theorem witness_RangeRequestsDecode :
    65535 < 65536 ∧ 255 < 256 ∧ (-128 : Int) ≤ -128 ∧ (127 : Int) < 128 := by decide

/-- A grant record in use, a free one, and an id outside the pool; the longest range and one too long. -/
theorem witness_MalformedAndQueriesChangeNothing :
    (holding tenant3 grant0).grant 0 = some grant0 ∧ (holding tenant3 grant0).grant 95 = none ∧ 96 ≤ 96 ∧
      (1 ≤ 32 ∧ 32 ≤ 32 ∧ 992 + 32 ≤ 1024) := by decide +kernel

theorem witness_UnderCommitTurns : Part.powerOn.events.raised.length = 16 := by decide

theorem witness_AmendClampsAndStores_clamping :
    let c : ContractFields := { margin := some 41 }
    c.margin.isSome ∧ tenant3.ceiling ≤ 16777215 ∧ tenant3.committed ≤ 16777215 ∧ tenant3.margin ≤ 40 ∧
      1 ≤ tenant3.maxProfile ∧ tenant3.maxProfile ≤ 6 ∧ -96 ≤ tenant3.defaultLevel ∧ tenant3.defaultLevel ≤ 48 := by decide

/-- An EMPTY tenant 15, a defined tenant 3, an id of 16, and a VIDEO tenant not FORWARD. -/
theorem witness_DefineSetsUpTenant :
    15 < 16 ∧ Part.powerOn.tenant 15 = none ∧ ((holding tenant3 grant0).tenant 3).isSome ∧
      (CarrierClass.video = .video ∧ Directions.both ≠ .forward) ∧
      (CarrierClass.video = .video → Directions.forward = .forward) := by decide +kernel

theorem witness_AmendClampsAndStores :
    let after := storeContract { committed := some 18126 } tenant3
    (holding tenant3 grant0).tenant 3 = some tenant3 ∧ tenant3.status ≠ .retiring ∧ after.margin = tenant3.margin ∧
      after.maxProfile = tenant3.maxProfile ∧ after.polarity = tenant3.polarity := by decide +kernel

/-- A new margin that reaches grant 0, and a new polarity that a STROBE waits on or not. -/
theorem witness_AmendClampsAndStores_effects :
    let margin := storeContract { margin := some 40 } tenant3
    let low := storeContract { polarity := some .low } tenant3
    let run : Run := ⟨0, .strobe, 0, 0, some 4800, timingsData⟩
    let p := cycling { grant0 with state := .moving } .move (some ⟨100, 2⟩) (some run)
    (margin.margin ≠ tenant3.margin ∧ margin.polarity = tenant3.polarity ∧ (holding tenant3 grant0).shaped ∧
      0 ∈ tenant3.grants ∧ (holding tenant3 grant0).grant 0 = some grant0 ∧ grant0.state ≠ .leaving) ∧
    (low.margin = tenant3.margin ∧ low.maxProfile = tenant3.maxProfile ∧ low.polarity ≠ tenant3.polarity ∧
      p.store.batch = none ∧ p.engine.quiet = false ∧ p.engine.jobs = [job7 .move (some ⟨100, 2⟩) (some run)] ∧
      p.jobTenant (job7 .move (some ⟨100, 2⟩) (some run)) = some 3 ∧ p.ready.getD 3 false = false ∧ low.polarity ≠ .high ∧
      run.timings.hold ≠ 0 ∧ (holding tenant3 grant0).engine.jobs = []) := by decide +kernel

theorem witness_FaultMaskHoldsAndClearReleases :
    (holding { tenant3 with mask := 1, sticky := 1 } grant0).tenant 3 = some { tenant3 with mask := 1, sticky := 1 } ∧
      (3 : Nat) < 16 ∧ TenantStatus.active ≠ .retiring := by decide +kernel

/-- A tenant without grants, and one with the ACTIVE grant 0. -/
theorem witness_RetireAndItsBacklog :
    (holding { tenant3 with grants := [] } grant0).tenant 3 = some { tenant3 with grants := [] } ∧
      (holding tenant3 grant0).tenant 3 = some tenant3 ∧ tenant3.grants = [0] ∧
      (holding tenant3 grant0).grant 0 = some grant0 ∧ grant0.tenant = 3 ∧ grant0.state = .active ∧
      (holding tenant3 grant0).store.batch = none := by decide +kernel

theorem witness_ReadyRisesAndStrobeEnds_idle :
    15 < 16 ∧ State.reset.part.store.batch = none ∧
      ∀ j ∈ State.reset.part.engine.jobs, State.reset.part.jobTenant j = some 15 → ∀ r, j.run = some r → r.phase ≠ .strobe :=
  ⟨by decide, rfl, fun _ h => absurd h List.not_mem_nil⟩

/-- Each check of a release, and the release itself with 23 jobs in the list. -/
theorem witness_ReleaseOfActiveGrant :
    (holding { tenant3 with status := .retiring } grant0).tenant 3 = some { tenant3 with status := .retiring } ∧
      (holding tenant3 { grant0 with state := .leaving }).grant 0 = some { grant0 with state := .leaving } ∧
      (∀ t, (holding tenant3 grant0).tenant 3 = some t → t.status ≠ .retiring) ∧
      24 ≤ full.length ∧ (full.drop 1).length < 24 ∧ (holding tenant3 grant0).store.batch = none := by
  refine ⟨by decide +kernel, by decide +kernel, ?_, by decide, by decide, rfl⟩
  intro t h
  have e : (holding tenant3 grant0).tenant 3 = some tenant3 := by decide +kernel
  rw [e] at h
  cases h
  decide

/-- An ACTIVATE in QUEUED, a MOVE in SETUP, a grow in STROBE and an ACTIVATE in HOLD. -/
theorem witness_ReleaseCutsCyclesShort :
    let at_ : GrantState → JobKind → Place → Option RunPhase → Part := fun st kind d ph =>
      cycling { grant0 with state := st } kind (some d) (ph.map fun ph => ⟨0, ph, 50, 50, none, timingsData⟩)
    let ready : Part → Prop := fun p =>
      p.shaped ∧ p.store.batch = none ∧ p.tenant 3 = some tenant3 ∧ tenant3.status ≠ .retiring ∧
        (p.jobOf 0).isSome ∧ (p.engine.jobs.map (·.id)).Nodup
    ready (at_ .arriving .activate ⟨72, 2⟩ none) ∧ ready (at_ .moving .move ⟨100, 2⟩ (some .setup)) ∧
      ready (at_ .resizing .resize ⟨72, 4⟩ (some .strobe)) ∧ ready (at_ .arriving .activate ⟨72, 2⟩ (some .hold)) ∧
      timingsData.hold ≠ 0 := by decide +kernel

theorem witness_TablesKeepTheirSizes_ids : full.length ≤ 24 ∧ 255 < 256 := by decide

theorem witness_RetireAndItsBacklog_backlog :
    let p := holding { tenant3 with status := .retiring } grant0
    p.tenant 3 = some { tenant3 with status := .retiring } ∧ 0 ∈ tenant3.grants ∧ p.grant 0 = some grant0 ∧
      (∀ h ∈ tenant3.grants, h = 0) ∧ (∀ k, k < 16 → k ≠ 3 → p.backlogFront k = none) ∧ p.engine.jobs.length < 24 ∧
      p.store.batch = none ∧ 0 < p.grants.length := by decide +kernel

/-- Eight items waiting, seven, and each condition of the take failing. -/
theorem witness_PlacementsWaitTheirTurn :
    let queue : Nat → Part := fun n => working tenant3 grant0 (List.replicate n (.item ⟨1, .move ⟨0, none⟩, false⟩))
    8 ≤ (queue 8).placementQueue.length ∧ (queue 7).placementQueue.length < 8 ∧ (queue 0).alloc.work = [] ∧
      23 ≤ (full.drop 1).length := by decide +kernel

/-- An id of 16, an EMPTY tenant, and a HELD and a RETIRING one; a grant id of 96, a free record, and a grant of each
kind that a check turns away; an ask that is well shaped and finds no record. -/
theorem witness_ChecksRefuseInOrder :
    let p : TenantRecord → Grant → Work → Part := fun t r w => working t r [w]
    let ask : AskFields → Work := fun q => .item ⟨1, .ask q, false⟩
    let move : Work := .item ⟨1, .move ⟨0, some 73⟩, false⟩
    let q := p tenant3 grant0 (ask ⟨3, 0, some 129, none, none⟩)
    q.shaped ∧ q.mayTake = true ∧ q.tenant 2 = none ∧ q.tenant 3 = some tenant3 ∧ q.grant 95 = none ∧
      (p { tenant3 with status := .held } grant0 move).tenant 3 = some { tenant3 with status := .held } ∧
      (p { tenant3 with status := .retiring } grant0 move).tenant 3 = some { tenant3 with status := .retiring } ∧
      (p tenant3 { grant0 with dir := .ret } move).grant 0 = some { grant0 with dir := .ret } ∧
      (p tenant3 { grant0 with state := .moving } move).grant 0 = some { grant0 with state := .moving } ∧
      (p tenant3 { grant0 with cls := .video } move).grant 0 = some { grant0 with cls := .video } ∧
      windowCovers .data 73 2 73 = true ∧ grant0.covers 73 = true ∧ grant0.floor = some 2 ∧
      (2 ≤ 4 ∧ 4 ≤ 128) ∧ (0 : Byte) ≠ 1 ∧ 6 ≤ ({ tenant3 with grants := [0, 1, 2, 3, 4, 5] }).grants.length := by
  decide +kernel

/-- A forward ask, and under OVER_CAP a return one. -/
theorem witness_AskWithoutFaultIsPlaced :
    let both : TenantRecord := { tenant3 with dirs := .both }
    let q : Byte → AskFields := fun d => { tenant := 3, dir := d, width := some 4, floor := some 2 }
    let p := working tenant3 grant0 [.item ⟨1, .ask (q 0), false⟩]
    let capped := { working both grant0 [.item ⟨1, .ask (q 1), false⟩] with
      level := { Part.powerOn.level with overCap := true } }
    (p.shaped ∧ p.mayTake = true ∧ p.tenant 3 = some tenant3 ∧ askDirection tenant3 (q 0) = some .forward ∧
      p.lowestFree = some 1 ∧ tenant3.grants.length < classLimit tenant3.cls ∧
      (p.scanOrder tenant3 .forward 4).find? (p.passOne tenant3 4 none) = some 74 ∧
      p.delivered 3 + p.arrivingCapacity 3 + capacityOf .data 4 (p.windowProfile tenant3 74 4) ≤ tenant3.ceiling ∧
      askLevel tenant3 .forward (q 0) = some 0 ∧ p.fits (p.composite + p.carrierWeight 0 ⟨74, 4⟩) = true) ∧
    (capped.mayTake = true ∧ askDirection both (q 1) = some .ret ∧ askLevel both .ret (q 1) = none ∧
      (capped.scanOrder both .ret 4).find? (capped.passOne both 4 none) = some 0) := by decide +kernel

/-- A grid that offers nothing, but for these slices. -/
def shut (free : List Nat) : List SliceEntry :=
  free.foldl (fun l n => l.set n ⟨.free, false, false⟩) (List.replicate 1024 ⟨.crossover, false, false⟩)

/-- A RETURN tenant 3 without grants. -/
def tenantBack : TenantRecord := { tenant3 with dirs := .ret, grants := [] }

/-- The part at split 24 with the ask of a RETURN tenant 3 at the front. -/
def asking (t : TenantRecord) (q : AskFields) (slices : List SliceEntry) : Part :=
  { Part.powerOn with
    split := 24
    tenants := Part.powerOn.tenants.set 3 ⟨1, some t⟩
    alloc := ⟨[.item ⟨1, .ask q, false⟩], none, false⟩
    slices := slices }

/-- The ask of width 4 and floor width 2. -/
def ask4 : AskFields := ⟨3, 1, some 4, some 2, none⟩

theorem witness_ScanFollowsItsRules :
    let p := asking tenantBack ask4 (shut [10, 11])
    24 ≤ p.split ∧ p.split ≤ 192 ∧ 1 ≤ 4 ∧ tenantBack.cls = .data ∧ 2 ≤ 4 ∧
      (0 ≤ 20 ∧ 20 + 4 ≤ 23 + 1) ∧ ({ tenantBack with cls := .voice } : TenantRecord).cls = .voice := by decide

/-- R66's visiting orders: VOICE upward from a rover of 20 in the return band of split 24, VIDEO downward from 5. -/
theorem test_scan_orders :
    let p := asking tenantBack ask4 (shut [])
    p.scanOrder { tenantBack with cls := .voice, returnRover := 20 } .ret 1 = [20, 21, 22] ++ List.range' 1 19 ∧
      p.scanOrder { tenantBack with cls := .video, scan := .down, returnRover := 5 } .ret 4 = [0, 20, 16, 12, 8, 4] := by
  decide +kernel

/-- FIT with no run at all, and with one of exactly the floor width. -/
theorem witness_PlacementFaultsRefuseOrRemedy :
    let p := asking tenantBack ask4 (shut [])
    let run := asking { tenantBack with mask := 1 } ask4 (shut [10, 11])
    p.shaped ∧ p.mayTake = true ∧ askDirection tenantBack ask4 = some .ret ∧ p.lowestFree = some 0 ∧
      tenantBack.grants.length < classLimit .data ∧
      ((p.scanOrder tenantBack .ret 4).all fun c => !p.shapeOk .data 4 none c) = true ∧
      p.passThree tenantBack .ret 4 2 = none ∧
      ((run.scanOrder tenantBack .ret 4).all fun c => !run.shapeOk .data 4 none c) = true ∧
      run.passThree tenantBack .ret 4 2 = some (10, 2) ∧ run.windowProfile tenantBack 10 2 ≠ 0 ∧
      askLevel tenantBack .ret ask4 = none := by decide +kernel

/-- PROFILE: an assumed SNR one step below the lowest threshold. CAPACITY: the ask and its narrower widths at profile
4; a VOICE ask. -/
theorem witness_PlacementFaultsRefuseOrRemedy_capacity :
    let free := shut [4, 5, 6, 7]
    let faint := { asking tenantBack ask4 free with level := { Part.powerOn.level with assumedSnr := 39 } }
    let p := asking { tenantBack with ceiling := 27187 } ask4 free
    let voice : TenantRecord := { tenantBack with cls := .voice, ceiling := 0 }
    ((faint.scanOrder tenantBack .ret 4).find? (faint.passOne tenantBack 4 none) = none ∧
      (faint.scanOrder tenantBack .ret 4).find? (faint.shapeOk .data 4 none) = some 4) ∧
    ((p.scanOrder tenantBack .ret 4).find? (p.passOne tenantBack 4 none) = some 4 ∧
      p.delivered 3 + p.arrivingCapacity 3 = 0 ∧ capacityOf .data 4 (p.windowProfile tenantBack 4 4) = 36250 ∧
      capacityOf .data 3 (p.windowProfile tenantBack 4 3) = 27187 ∧
      capacityOf .data 2 (p.windowProfile tenantBack 4 2) = 18125) ∧
    ((p.scanOrder voice .ret 1).find? (p.passOne voice 1 none) = some 5 ∧ 0 < capacityOf .voice 1 4) := by
  decide +kernel

/-- POWER of a forward ask: a lower level that fits, none at all, and OVER_CAP. -/
theorem witness_PlacementFaultsRefuseOrRemedy_power :
    let p : Nat → Bool → Part := fun cap o =>
      { working tenant3 grant0 [.item ⟨1, .ask ⟨3, 0, some 4, some 2, none⟩, false⟩] with
        level := { Part.powerOn.level with cap := cap, overCap := o } }
    let at_ : Part → Int → Bool := fun p l => p.fits (p.composite + p.carrierWeight l ⟨74, 4⟩)
    askLevel tenant3 .forward ⟨3, 0, some 4, some 2, none⟩ = some 0 ∧
      ((p 800 false).scanOrder tenant3 .forward 4).find? ((p 800 false).passOne tenant3 4 none) = some 74 ∧
      at_ (p 800 false) 0 = false ∧ at_ (p 800 false) (-22) = true ∧ at_ (p 800 false) (-21) = false ∧
      at_ (p 515 false) (-96) = false ∧ at_ (p 516 false) (-96) = true ∧ at_ (p 4096 true) 0 = false := by decide +kernel

/-- Moves: nowhere to go, a position whose profile is not acceptable, and one that fits at a lower level only. -/
theorem witness_MoveAndGrowFaultsRefuseOrRemedy :
    let back : Grant := { grant0 with dir := .ret, first := 2, level := none }
    let p : List Nat → Nat → Part := fun free snr => { working tenant3 back [.item ⟨1, .move ⟨0, none⟩, false⟩] with
      split := 24, slices := shut free, level := { Part.powerOn.level with assumedSnr := snr } }
    let capped := { working tenant3 grant0 [.item ⟨1, .move ⟨0, some 100⟩, false⟩] with
      level := { Part.powerOn.level with cap := 800 } }
    let at_ : Int → Bool := fun v => capped.fits (capped.composite - capped.contribution 0 +
      (capped.carrierWeight v ⟨72, 2⟩ + capped.carrierWeight v ⟨100, 2⟩))
    ((p [] 120).shaped ∧ (p [] 120).mayTake = true ∧ (p [] 120).grant 0 = some back ∧
      ((p [] 120).moveOrder tenant3 back none).all (fun c => !(p [] 120).shapeOk .data 2 (some back) c) = true) ∧
    (((p [10, 11] 39).moveOrder tenant3 back none).find? ((p [10, 11] 39).passOne tenant3 2 (some back)) = none ∧
      ((p [10, 11] 39).moveOrder tenant3 back none).find? ((p [10, 11] 39).shapeOk .data 2 (some back)) = some 10) ∧
    (capped.targetOk grant0 100 = true ∧
      (capped.moveOrder tenant3 grant0 (some 100)).find? (capped.passOne tenant3 2 (some grant0)) = some 100 ∧
      at_ 0 = false ∧ at_ (-5) = true ∧ at_ (-4) = false) := by decide +kernel

/-- Grows of grant 0 to width 4: the first growth slice taken, or the second; no profile; a ceiling that width 3 meets;
a level that fits lower only. -/
theorem witness_MoveAndGrowFaultsRefuseOrRemedy_grow :
    let q : ResizeFields := ⟨0, 4, none⟩
    let p : List Nat → Nat → Nat → Part := fun taken snr cap => { working tenant3 grant0 [.item ⟨1, .resize q, false⟩] with
      slices := taken.foldl (fun l n => l.set n ⟨.reserved, false, false⟩) (holding tenant3 grant0).slices
      level := { Part.powerOn.level with assumedSnr := snr, cap := cap } }
    let at_ : Int → Bool := fun v => (p [] 120 800).fits ((p [] 120 800).composite - (p [] 120 800).contribution 0 +
      (p [] 120 800).carrierWeight v ⟨72, 4⟩)
    let total : Nat → Nat := fun w => (p [] 120 800).delivered 3 - grant0.capacity + (p [] 120 800).arrivingCapacity 3 +
      capacityOf .data w ((p [] 120 800).windowProfile tenant3 72 w)
    ((p [] 120 800).shaped ∧ (p [] 120 800).mayTake = true ∧ (p [] 120 800).grant 0 = some grant0 ∧
      resizeFieldsOk grant0 q = true ∧ (∀ n < 74, 72 ≤ n → ((p [] 120 800).slice n).use = .granted 0) ∧
      (∀ n < 76, 74 ≤ n → (p [] 120 800).openIn .forward n = true)) ∧
    ((p [74] 120 800).openIn .forward 74 = false ∧ (p [75] 120 800).openIn .forward 74 = true ∧
      (p [75] 120 800).openIn .forward 75 = false ∧ (p [75] 120 800).windowProfile tenant3 72 3 ≠ 0) ∧
    ((p [] 39 800).windowProfile tenant3 72 4 = 0 ∧ total 4 = 36250 ∧ total 3 = 27187) ∧
    (at_ 0 = false ∧ at_ (-5) = true ∧ at_ (-4) = false) := by decide +kernel

/-- A VOICE ask whose three slices lie within a DATA grant of width 8 and floor width 2, and a move, with or without a
target, and a relocation attempt of a VOICE grant at 20 to the same place. -/
theorem witness_PreemptionShrinksGrant :
    let voice : TenantRecord := { tenantBack with cls := .voice }
    let wide : Grant := { grant0 with tenant := 4, dir := .ret, first := 0, width := 8, level := none, capacity := 72500 }
    let own : Grant := ⟨3, .voice, .ret, 20, 1, none, none, 4, 8000, .active, true, true⟩
    let q : AskFields := { tenant := 3, dir := 1 }
    let p := asking voice q ((List.range 8).foldl (fun l n => l.set n ⟨.granted 0, false, false⟩) (shut []))
    let p := { p with tenants := p.tenants.set 4 ⟨1, some tenant3⟩, grants := p.grants.set 0 (some wide) }
    let moved := fun (w : Work) => { p.setGrant 1 (some own) with alloc := ⟨[w], none, false⟩ }
    let m := moved (.item ⟨1, .move ⟨1, some 3⟩, false⟩)
    (p.shaped ∧ p.mayTake = true ∧ p.tenant 3 = some voice ∧ askDirection voice q = some .ret ∧
      p.lowestFree = some 1 ∧ (p.scanOrder voice .ret 1).find? (p.passOne voice 1 none) = none ∧
      (p.scanOrder voice .ret 1).findSome? (fun c => (p.passTwo voice 1 none c).map fun k => (c, k)) = some (3, 0) ∧
      p.grant 0 = some wide ∧ askLevel voice .ret q = none) ∧
    m.shaped ∧ m.mayTake = true ∧ (moved (.attempt 1)).mayTake = true ∧ m.grant 1 = some own ∧ m.grant 0 = some wide ∧
      m.tenant 3 = some voice ∧ m.targetOk own 3 = true ∧ own.level = none ∧ own.relocationPending = true ∧
      ∀ target, target = some 3 ∨ target = none →
        (m.moveOrder voice own target).find? (m.passOne voice 1 (some own)) = none ∧
        (m.moveOrder voice own target).findSome? (fun c => (m.passTwo voice 1 (some own) c).map fun k => (c, k)) =
          some (3, 0) := by
  refine ⟨by decide +kernel, by decide +kernel, by decide +kernel, by decide +kernel, by decide +kernel,
    by decide +kernel, by decide +kernel, by decide +kernel, rfl, rfl, ?_⟩
  rintro _ (rfl | rfl) <;> decide +kernel

theorem witness_MoveWithoutFaultIsPlaced :
    let q : MoveFields := ⟨0, some 100⟩
    let p := working tenant3 grant0 [.item ⟨1, .move q, false⟩]
    p.shaped ∧ p.mayTake = true ∧ p.grant 0 = some grant0 ∧ grant0.state = .active ∧
      p.tenant 3 = some tenant3 ∧ tenant3.cls = grant0.cls ∧ (grant0.cls = .voice → grant0.width = 1) ∧
      p.targetOk grant0 100 = true ∧
      (p.moveOrder tenant3 grant0 (some 100)).find? (p.passOne tenant3 2 (some grant0)) = some 100 ∧
      (p.moveOrder tenant3 grant0 none).find? (p.passOne tenant3 2 (some grant0)) = some 74 ∧
      p.fits (p.composite - p.contribution 0 + (p.carrierWeight 0 ⟨72, 2⟩ + p.carrierWeight 0 ⟨100, 2⟩)) = true := by
  decide +kernel

/-- The present width, and a shrink to the floor width. -/
theorem witness_ResizeWithinPresentWidth :
    let p := working tenant3 { grant0 with width := 3 } [.item ⟨1, .resize ⟨0, 2, none⟩, false⟩]
    p.mayTake = true ∧ p.grant 0 = some { grant0 with width := 3 } ∧ p.tenant 3 = some tenant3 ∧
      resizeFieldsOk { grant0 with width := 3 } ⟨0, 2, none⟩ = true ∧
      resizeFieldsOk { grant0 with width := 3 } ⟨0, 3, some 3⟩ = true ∧ 2 < 3 := by decide +kernel

/-- A grow that meets no fault, and one that the judgements let through. -/
theorem witness_GrowWithoutFaultIsPlaced :
    let p := working tenant3 grant0 [.item ⟨1, .resize ⟨0, 4, none⟩, false⟩]
    p.shaped ∧ p.mayTake = true ∧ p.grant 0 = some grant0 ∧ p.tenant 3 = some tenant3 ∧
      resizeFieldsOk grant0 ⟨0, 4, none⟩ = true ∧ grant0.width < 4 ∧
      (∀ n < 74, 72 ≤ n → (p.slice n).use = .granted 0) ∧ (∀ n < 76, 74 ≤ n → p.openIn .forward n = true) ∧
      p.windowProfile tenant3 72 4 ≠ 0 ∧
      p.delivered 3 - grant0.capacity + p.arrivingCapacity 3 + capacityOf .data 4 (p.windowProfile tenant3 72 4) ≤
        tenant3.ceiling ∧
      p.fits (p.composite - p.contribution 0 + p.carrierWeight 0 ⟨72, 4⟩) = true ∧
      (match p.judgeGrow 0 grant0 tenant3 ⟨0, 4, none⟩ with | .ok _ => true | .error _ => false) = true := by decide +kernel

theorem witness_RelocationMovesGrant :
    let r : Grant := { grant0 with impaired := true, relocationPending := true }
    let p := working tenant3 r [.attempt 0]
    p.shaped ∧ p.mayTake = true ∧ p.grant 0 = some r ∧ p.tenant 3 = some tenant3 ∧
      tenant3.cls = r.cls ∧ (p.scanOrder tenant3 r.dir 2).find? (p.passOne tenant3 2 (some r)) = some 74 ∧
      p.fits (p.composite - p.contribution 0 + (p.carrierWeight 0 ⟨72, 2⟩ + p.carrierWeight 0 ⟨74, 2⟩)) = true := by
  decide +kernel

/-- An entry of a grant that is not pending, and one with no position, no room and no power. -/
theorem witness_RelocationMovesGrant_fails :
    let r : Grant := { grant0 with impaired := true, relocationPending := true }
    let p := working tenant3 r [.attempt 0]
    let back : Grant := { r with dir := .ret, first := 2, level := none }
    let closed := { working tenant3 back [.attempt 0] with split := 24, slices := shut [] }
    let capped := { p with level := { p.level with cap := 1023 } }
    (working tenant3 grant0 [.attempt 0]).grant 0 = some grant0 ∧ grant0.relocationPending = false ∧
      closed.mayTake = true ∧ closed.grant 0 = some back ∧ closed.tenant 3 = some tenant3 ∧
      (closed.scanOrder tenant3 .ret 2).find? (closed.passOne tenant3 2 (some back)) = none ∧
      (capped.scanOrder tenant3 r.dir 2).find? (capped.passOne tenant3 2 (some r)) = some 74 ∧
      capped.fits (capped.composite - capped.contribution 0 +
        (capped.carrierWeight 0 ⟨72, 2⟩ + capped.carrierWeight 0 ⟨74, 2⟩)) = false := by decide +kernel

/-- A slice on each side of the split, a free record, and a grant in each state with and without a destination. -/
theorem witness_WeightsMakeTheComposite :
    let at_ : GrantState → JobKind → Option Place → Part := fun st kind d => cycling { grant0 with state := st } kind d none
    63 < Part.powerOn.split ∧ Part.powerOn.split ≤ 64 ∧ Part.powerOn.level.slope ≤ 32 ∧ Part.powerOn.grant 0 = none ∧
      (holding tenant3 { grant0 with dir := .ret }).grant 0 = some { grant0 with dir := .ret } ∧
      (at_ .active .release none).grant 0 = some grant0 ∧
      (at_ .moving .move (some ⟨100, 2⟩)).jobOf 0 = some (job7 .move (some ⟨100, 2⟩) none) ∧
      (at_ .resizing .resize (some ⟨72, 4⟩)).jobOf 0 = some (job7 .resize (some ⟨72, 4⟩) none) ∧
      (at_ .leaving .release none).jobOf 0 = some (job7 .release none none) := by decide +kernel

/-- A slice in each state of the let-go table, and one that another grant holds. -/
theorem witness_LetGoTable :
    let at_ : SliceUse → Bool → Part := fun u m => Part.powerOn.setSlice 72 ⟨u, m, false⟩
    72 < (at_ (.claimed 0) false).slices.length ∧ ((at_ (.claimed 0) true).slice 72).use = .claimed 0 ∧
      ((at_ (.granted 0) true).slice 72).impaired = true ∧ ((at_ (.granted 0) false).slice 72).impaired = false ∧
      (at_ (.granted 0) false).split ≤ 72 ∧ 63 < Part.powerOn.split ∧
      ((Part.powerOn.setSlice 63 ⟨.granted 0, false, false⟩).slice 63).use = .granted 0 ∧
      ((at_ (.guard 0 (some 1)) false).slice 72).use = .guard 0 (some 1) ∧
      ((at_ (.guard 1 (some 0)) false).slice 72).use = .guard 1 (some 0) ∧
      ((at_ (.granted 1) false).slice 72).heldBy 0 = false := by decide +kernel

/-- The last range of the grid, one past it, a range in conflict, and a held map. -/
theorem witness_ReservationTakesAndFrees :
    Part.powerOn.shaped ∧ (1 ≤ 64 ∧ 64 ≤ 64 ∧ 960 + 64 ≤ 1024) ∧ ¬(961 + 64 ≤ 1024) ∧
      Part.powerOn.alloc.restoreHold = false ∧ Part.powerOn.slices.drop 960 = List.replicate 64 ⟨.free, false, false⟩ ∧
      (Part.powerOn.slice 71).use = .crossover := by decide +kernel

theorem witness_TimersRunOut :
    ((Part.powerOn.setSlice 1023 ⟨.parked 1 (-24), false, false⟩).slice 1023).use = .parked 1 (-24) ∧
      Part.powerOn.level.overCap = false ∧
      (Part.powerOn.setTurnaround 15 (some 200)).engine.turnaround.getD 15 none = some 200 := by decide +kernel

/-- A decrease, an increase that fits, one refused unmasked, one lowered under the mask, and one under OVER_CAP. -/
theorem witness_LevelChangeOutcomes :
    let capped : Nat → Part := fun c => { holding tenant3 grant0 with level := { Part.powerOn.level with cap := c } }
    let at_ : Int → Nat := fun v => (capped 600).composite - (capped 600).contribution 0 + (capped 600).carrierWeight v ⟨72, 2⟩
    (capped 600).grant 0 = some grant0 ∧ (capped 600).tenant 3 = some tenant3 ∧ grant0.level = some 0 ∧ at_ 2 ≤ 600 ∧
      600 < at_ 3 ∧ tenant3.mask &&& 8 = 0 ∧ ({ tenant3 with mask := 8 }).mask &&& 8 ≠ 0 ∧ (-96 : Int) ≤ -96 ∧ (48 : Int) ≤ 48 := by
  decide +kernel

theorem witness_ProfileCapacityAndSmoothing :
    (6 ≤ 6) ∧ (128 ≤ 128) ∧ (4 ≤ 4) ∧ 1 ≤ 4 ∧ Part.powerOn.level.assumedSnr ≤ 255 ∧
      (∀ q ∈ Part.powerOn.monitor.quality, q.smoothed = none) ∧ 1 ≤ tenant3.maxProfile ∧ tenant3.maxProfile ≤ 6 := by
  decide +kernel

/-- R83: a margin is subtracted from the lowest slice, UNKNOWN slices counting the assumed 120 steps, and E stops at 0. -/
theorem test_effective_snr :
    let p := Part.powerOn.setQuality 73 ⟨some 100, some 100, 0, 0⟩
    p.windowSnr { tenant3 with margin := 8 } 72 2 = 92 ∧ p.windowProfile { tenant3 with margin := 8 } 72 2 = 3 ∧
      p.windowSnr tenant3 74 2 = 120 ∧ p.windowSnr { tenant3 with margin := 200 } 72 2 = 0 := by decide +kernel

/-- A window at each bound; a dwell in progress and an idle sweep; a restart that waits at the end of a dwell on slice 0. -/
theorem witness_SweepSetsAndRestarts :
    let idleSweep : Part := { Part.powerOn with monitor := { Monitor.powerOn with dwell := none } }
    let waits : Part := { Part.powerOn with monitor := { Monitor.powerOn with restartWaiting := true } }
    (Monitor.powerOn.inRange ∧ (5 : Nat) < 6 ∧ 1023 < 1024 ∧ 72 ≤ 1023 ∧ 1023 ≤ 1023) ∧
      Monitor.powerOn.dwell.isSome ∧ idleSweep.monitor.dwell = none ∧ idleSweep.firstMeasurable 0 1023 = some 0 ∧
      waits.monitor.dwell = some ⟨0, 8⟩ ∧ waits.store.batch = none ∧ (waits.slice 0).mode = .strike ∧
      waits.grantsOn (· == 0) = [] ∧ smooth 2 (waits.qualityOf 0).smoothed 59 < waits.monitor.qt ∧
      min 15 ((waits.qualityOf 0).strikes + 1) < waits.monitor.nq ∧ waits.firstMeasurable 0 1023 = some 0 := by
  decide +kernel

/-- The part with the dwell in progress on a slice of this entry. -/
def dwelling (n : Nat) (e : SliceEntry) (q : QualityEntry) : Part :=
  { Part.powerOn.setSlice n e with monitor := { Monitor.powerOn with
    dwell := some ⟨n, 8⟩, quality := Monitor.powerOn.quality.set n q } }

/-- Each mode; the advance over the crossover, the wrap from the last slice, and a grid with nothing to measure. -/
theorem witness_DwellCountsStrikes :
    let p := dwelling 63 ⟨.free, false, false⟩ ⟨none, none, 0, 0⟩
    p.monitor.restartWaiting = false ∧ p.store.batch = none ∧ p.grantsOn (· == 63) = [] ∧
      ((p.slice 63).mode = .strike ∧ min 15 ((p.qualityOf 63).strikes + 1) < p.monitor.nq) ∧
      (((dwelling 63 ⟨.quarantined, false, false⟩ ⟨none, some 79, 0, 3⟩).slice 63).mode = .clear ∧ (3 : Nat) + 1 < 5) ∧
      ((dwelling 63 ⟨.reserved, true, true⟩ ⟨none, none, 0, 0⟩).slice 63).mode = .pinned ∧
      ((dwelling 64 ⟨.crossover, false, false⟩ ⟨none, none, 0, 0⟩).slice 64).mode = .crossover ∧
      p.firstMeasurable 64 1023 = some 72 ∧ p.firstMeasurable 1024 1023 = none ∧ p.firstMeasurable 0 1023 = some 0 ∧
      ({ p with slices := [] } : Part).firstMeasurable 0 1023 = none := by decide +kernel

/-- The third strike of a FREE slice and of a GRANTED one; the fifth clear of a QUARANTINED slice and of a marked one. -/
theorem witness_StrikesQuarantine :
    let low : SliceUse → Part := fun u => dwelling 0 ⟨u, false, false⟩ ⟨some 50, some 50, 2, 0⟩
    let high : SliceEntry → Part := fun e => dwelling 0 e ⟨some 90, some 90, 0, 4⟩
    (low .free).shaped ∧ (low .free).monitor.dwell = some ⟨0, 8⟩ ∧ (low .free).engine.jobs = [] ∧
      (low .free).grantsOn (· == 0) = [] ∧ (low .free).level.overCap = false ∧
      ((low .free).slice 0).mode = .strike ∧ ((low .free).slice 0).available = true ∧
      ((low (.granted 0)).slice 0).mode = .strike ∧ ((low (.granted 0)).slice 0).keepsState = true ∧
      smooth 2 (some 50) 50 < 60 ∧ 3 ≤ min 15 (2 + 1) ∧
      ((high ⟨.quarantined, false, false⟩).slice 0).mode = .clear ∧
      ((high ⟨.reserved, true, false⟩).slice 0).mode = .clear ∧ 80 ≤ smooth 2 (some 90) 90 ∧ 5 ≤ min 15 (4 + 1) := by
  decide +kernel

/-- Grant 0 measured at 100, and at an estimate that supports no profile, ACTIVE and LEAVING. -/
theorem witness_UpkeepJudgesGrants :
    let p : GrantState → Part := fun st => { holding tenant3 { grant0 with state := st } with
      monitor := { Monitor.powerOn with dwell := some ⟨72, 8⟩ } }
    (p .active).shaped ∧ ((p .active).slice 72).mode = .strike ∧ (p .active).grantsOn (· == 72) = [0] ∧
      (p .active).tenant 3 = some tenant3 ∧ (p .leaving).grant 0 = some { grant0 with state := .leaving } ∧
      min 15 (((p .active).qualityOf 72).strikes + 1) < 3 ∧
      ((p .active).setQuality 72 ⟨some 100, some 100, 0, 0⟩).placeBad .data tenant3 ⟨72, 2⟩ = false ∧
      ((p .active).setQuality 72 ⟨some 39, some 39, 1, 0⟩).placeBad .data tenant3 ⟨72, 2⟩ = true := by decide +kernel

/-- A range at the top of the grid and one past it; a GRANTED slice; an ACTIVATE and a MOVE in QUEUED whose destination
lies in the range; a map to lift in. -/
theorem witness_HostQuarantineForcesAndLifts :
    let arriving := cycling { grant0 with state := .arriving } .activate (some ⟨72, 2⟩) none
    let moving := cycling { grant0 with state := .moving } .move (some ⟨100, 2⟩) none
    Part.powerOn.shaped ∧ ¬(1024 + 1 ≤ 1024) ∧ 1023 + 1 ≤ 1024 ∧ Part.powerOn.engine.jobs = [] ∧
      (∀ g < 96, Part.powerOn.grant g = none) ∧ ((holding tenant3 grant0).slice 72).use = .granted 0 ∧
      72 ∈ grant0.carrier ∧ (holding tenant3 grant0).tenant 3 = some tenant3 ∧
      arriving.engine.jobs = [job7 .activate (some ⟨72, 2⟩) none] ∧
      arriving.grant 0 = some { grant0 with state := .arriving } ∧ (arriving.slice 73).use ≠ .crossover ∧
      moving.engine.jobs = [job7 .move (some ⟨100, 2⟩) none] ∧ (moving.slice 100).use ≠ .crossover := by decide +kernel

/-- A map to lift in, with a QUARANTINED slice at its top. -/
theorem witness_HostQuarantineForcesAndLifts_lift :
    let q : Part := Part.powerOn.setSlice 1023 ⟨.quarantined, false, true⟩
    q.shaped ∧ q.mapped ∧ (q.slice 1023).use = .quarantined := by
  refine ⟨by decide +kernel, fun n h => ?_, by decide +kernel⟩
  by_cases e : n = 1023
  · subst e
    decide +kernel
  · have same : (Part.powerOn.setSlice 1023 ⟨.quarantined, false, true⟩).slice n = Part.powerOn.slice n := by
      simp [Part.slice, Part.setSlice, Ne.symm e]
    rw [same]
    exact powerOn_mapped n h

/-- An EMPTY slot above TOP, and one in use with the mask and without; a grant that is MOVING, and one LEAVING. -/
theorem witness_LineupPushSaves :
    let used : Bool → LineupStore := fun m => ⟨List.replicate 4 (.saved true 64 []), 0, m, none, none⟩
    let at_ : GrantState → Part := fun st => cycling { grant0 with state := st } .move (some ⟨100, 2⟩) none
    Part.powerOn.store.slot 3 = .empty ∧ (used true).slot 3 ≠ .empty ∧ (used true).overflowMasked = true ∧
      (used false).overflowMasked = false ∧ (at_ .moving).lineupEntries.map (·.first) = [100] ∧
      (at_ .active).lineupEntries.map (·.first) = [72] ∧ (at_ .leaving).lineupEntries = [] := by decide +kernel

theorem witness_LineupRotateAndDrop : 3 < 4 ∧ 4 ≤ 4 ∧ Part.powerOn.store.slot 0 = .empty := by decide

/-- A slot whose pop meets each refusal in its turn, and one that passes: a running batch, another split, a listed grant
in a cycle, a RESERVED destination slice, a cap below the new carrier, and a full grant list. -/
theorem witness_LineupPopChecksItsPlan :
    let e : LineupEntry := ⟨5, 3, 1, .data, .forward, 100, 2, some 2, some 0⟩
    let here : LineupEntry := { e with grant := 0 }
    let p : TenantRecord → Grant → List LineupEntry → Nat → Part := fun t r es cap => { holding t r with
      slices := (holding t r).slices.take 104
      level := { Part.powerOn.level with cap := cap }
      store := ⟨List.replicate 4 (.saved false 64 es), 0, false, none, none⟩ }
    let blocked := (p tenant3 grant0 [e] 4096).setSlice 101 ⟨.reserved, false, false⟩
    let many : TenantRecord := { tenant3 with grants := [0, 1, 2, 3, 4, 5, 6] }
    (p tenant3 grant0 [e] 4096).store.slot 0 = .saved false 64 [e] ∧ (64 : Nat) ≠ 24 ∧
      (p tenant3 { grant0 with state := .moving } [here] 4096).planBusy
        ((p tenant3 { grant0 with state := .moving } [here] 4096).plan [here]) = true ∧
      blocked.planBusy (blocked.plan [e]) = false ∧ blocked.planConflict (blocked.plan [e]) = some 101 ∧
      (p tenant3 grant0 [e] 511).planConflict ((p tenant3 grant0 [e] 511).plan [e]) = none ∧
      (p tenant3 grant0 [e] 511).planPowerOk ((p tenant3 grant0 [e] 511).plan [e]) = false ∧
      (p tenant3 grant0 [e] 512).planPowerOk ((p tenant3 grant0 [e] 512).plan [e]) = true ∧
      (p tenant3 grant0 [e] 512).planRecordsOk ((p tenant3 grant0 [e] 512).plan [e]) = true ∧
      (p many grant0 [e] 512).planPowerOk ((p many grant0 [e] 512).plan [e]) = true ∧
      (p many grant0 [e] 512).planRecordsOk ((p many grant0 [e] 512).plan [e]) = false := by decide +kernel

/-- Lineups of grant 0 elsewhere (one MOVE item), at another level (one level item), without it (a release and an
ACTIVATE item), and an empty one; the job list with an entry for the release and with none; a level item's grant. -/
theorem witness_LineupPopStartsBatch :
    let e : LineupEntry := ⟨0, 3, 1, .data, .forward, 100, 2, some 2, some 0⟩
    let lower : LineupEntry := ⟨0, 3, 1, .data, .forward, 72, 2, some 2, some (-8)⟩
    let other : LineupEntry := { e with grant := 5 }
    let p : List LineupEntry → Part := fun es =>
      { holding tenant3 grant0 with
        slices := (holding tenant3 grant0).slices.take 104
        store := ⟨List.replicate 4 (.saved false 64 es), 0, false, none, none⟩ }
    let passes : List LineupEntry → Prop := fun es =>
      (p es).store.slot 0 = .saved false (p es).split es ∧ (p es).planBusy ((p es).plan es) = false ∧
        (p es).planConflict ((p es).plan es) = none ∧ (p es).planPowerOk ((p es).plan es) = true ∧
        (p es).planRecordsOk ((p es).plan es) = true
    (passes [e] ∧ ((p [e]).plan [e]).releases = [] ∧ ((p [e]).plan [e]).items = [.move e]) ∧
      (passes [lower] ∧ ((p [lower]).plan [lower]).levels = [lower] ∧ ((p [lower]).plan [lower]).items = []) ∧
      (passes [other] ∧ ((p [other]).plan [other]).releases = [0] ∧
        ((p [other]).plan [other]).items = [.activate other]) ∧
      (passes [] ∧ (p []).plan [] = ⟨0, [], [], [], [], []⟩) ∧ (full.drop 1).length + 1 ≤ 24 ∧ 24 ≤ full.length ∧
      (∀ j ∈ full, j.batch = none) ∧ (p []).grant 0 = some grant0 ∧ (p []).tenant 3 = some tenant3 ∧
      (p []).generation 3 = 1 := by decide +kernel

/-- An ACTIVE front grant with and without a free entry, one LEAVING, and one in flight in each kind of phase. -/
theorem witness_PhaseAReleasesFirstGrant :
    let b : Batch := ⟨.a, [0, 1], [], [], false, false, ⟨0, 0, 0, 0⟩⟩
    let at_ : GrantState → JobKind → Place → Option RunPhase → Part := fun st kind d ph =>
      { cycling { grant0 with state := st } kind (some d) (ph.map fun ph => ⟨0, ph, 50, 50, none, timingsData⟩) with
        store := { Part.powerOn.store with batch := some b } }
    let ready : Part → Bool := fun p => decide (p.shaped ∧ p.store.batch = some b ∧ p.tenant 3 = some tenant3) && (p.jobOf 0).isSome
    b.releases = 0 :: [1] ∧ 0 ∉ [1] ∧ (holding tenant3 grant0).grant 0 = some grant0 ∧ grant0.state = .active ∧
      24 ≤ full.length ∧ (holding tenant3 grant0).engine.jobs.length < 24 ∧ timingsData.hold ≠ 0 ∧
      ready (at_ .leaving .release ⟨72, 2⟩ none) ∧ ready (at_ .arriving .activate ⟨72, 2⟩ (some .setup)) ∧
      ready (at_ .arriving .activate ⟨72, 2⟩ (some .hold)) ∧ ready (at_ .moving .move ⟨100, 2⟩ none) ∧
      ready (at_ .resizing .resize ⟨72, 4⟩ (some .strobe)) := by decide +kernel

/-- A pop that releases one grant. -/
theorem witness_PhaseAReleasesFirstGrant_pop :
    let other : LineupEntry := ⟨5, 3, 1, .data, .forward, 100, 2, some 2, some 0⟩
    let p : Part := { holding tenant3 { grant0 with state := .leaving } with
      slices := (holding tenant3 grant0).slices.take 104
      store := ⟨List.replicate 4 (.saved false 64 [other]), 0, false, none, none⟩ }
    p.store.slot 0 = .saved false p.split [other] ∧ p.planBusy (p.plan [other]) = false ∧
      p.planConflict (p.plan [other]) = none ∧ p.planPowerOk (p.plan [other]) = true ∧
      p.planRecordsOk (p.plan [other]) = true ∧ (p.plan [other]).releases = [0] := by decide +kernel

/-- R153: a phase-A grant that is MOVING in STROBE keeps its destination, and its job takes mark A. -/
theorem test_phase_a_in_flight :
    let b : Batch := ⟨.a, [0], [], [], false, false, ⟨0, 0, 0, 0⟩⟩
    let u := after .phaseARelease { cycling { grant0 with state := .moving } .move (some ⟨100, 2⟩)
      (some ⟨0, .strobe, 0, 50, none, timingsData⟩) with store := { Part.powerOn.store with batch := some b } }
    (u.grant 0).map (·.state) = some .leaving ∧
      u.engine.jobs.map (fun j => (j.kind, j.dest, j.batch)) = [(.release, some ⟨100, 2⟩, some .a)] ∧
      u.store.batch = some { b with releases := [] } := by decide +kernel

theorem witness_ItemsIssueWaitOrFail_activate :
    let e : LineupEntry := ⟨1, 3, 1, .data, .forward, 74, 2, some 2, some 0⟩
    let b : Batch := ⟨.b, [], [], [.activate e], false, false, ⟨0, 0, 0, 0⟩⟩
    let p : Part := { holding tenant3 grant0 with store := ⟨List.replicate 4 .empty, 0, false, some b, none⟩ }
    p.shaped ∧ p.engine.jobs.length < 24 ∧ p.tenant 3 = some tenant3 ∧
      p.generation 3 = e.generation ∧ p.lowestFree = some 1 ∧ tenant3.grants.length < classLimit tenant3.cls ∧
      p.itemPlaceOk e none = true ∧ p.fits (p.composite + p.entryWeight e) = true := by decide +kernel

/-- A MOVE item that fits, one that does not while a batch job remains and with none, one whose grant is LEAVING, a
waiting head that was tried already, and the end of a batch job. -/
theorem witness_ItemsIssueWaitOrFail :
    let e : LineupEntry := ⟨0, 3, 1, .data, .forward, 100, 2, some 2, some 0⟩
    let p : Grant → Nat → List Job → Part := fun r cap js => { (holding tenant3 r).setJobs js with
      level := { Part.powerOn.level with cap := cap }
      store := ⟨List.replicate 4 .empty, 0, false, some (waitingBatch true), none⟩ }
    let fits : Nat → Bool := fun cap => (p grant0 cap []).fits ((p grant0 cap []).composite -
      (p grant0 cap []).contribution 0 + ((p grant0 cap []).carrierWeight 0 ⟨72, 2⟩ +
        (p grant0 cap []).carrierWeight 0 ⟨100, 2⟩))
    let run : Run := ⟨0, .hold, 100, 0, none, timingsData⟩
    let ending : Job := { job7 .activate (some ⟨72, 2⟩) (some run) with batch := some .b }
    (p grant0 1024 []).shaped ∧ (waitingBatch true).phase = .b ∧ (waitingBatch true).items = .move e :: [] ∧
      (p grant0 1024 []).grant 0 = some grant0 ∧ (p grant0 1024 []).generation 3 = 1 ∧
      (p grant0 1024 []).itemPlaceOk e (some grant0) = true ∧ fits 1024 = true ∧ fits 1023 = false ∧
      (∃ j ∈ (p grant0 1023 [ending]).engine.jobs, j.batch ≠ none) ∧
      ((waitingBatch false).headWaits = true ∧ (waitingBatch false).retry = false) ∧
      (p { grant0 with state := .leaving } 1024 []).grant 0 = some { grant0 with state := .leaving } ∧
      grant0.dir = e.dir ∧ (p grant0 1024 []).split = 64 ∧
      (p { grant0 with state := .arriving } 1024 [ending]).jobIn 0 = some ending := by decide +kernel

/-- A split field while grant 0 is in use, and while a slice is RESERVED; a request without the power fields; the
present split and the least; a tilt at the cap and one above it; another assumed SNR. -/
theorem witness_PlantSetStores :
    let tilted : Nat → Nat → Part := fun c a => { holding tenant3 grant0 with
      slices := (holding tenant3 grant0).slices.take 80
      level := { Part.powerOn.level with cap := c, slope := min 32 a, pivot := min 1023 0 } }
    (holding tenant3 grant0).grant 0 = some grant0 ∧
      ((Part.powerOn.setSlice 0 ⟨.reserved, false, false⟩).slice 0).use = .reserved ∧
      ({ parkTime := some 65536 } : PlantFields).split = none ∧ Part.powerOn.level.overCap = false ∧
      (Part.powerOn.shaped ∧ max 24 (min 192 64) = Part.powerOn.split ∧ max 24 (min 192 0) ≠ Part.powerOn.split ∧
        Part.powerOn.monitor.dwell.isSome ∧ (∀ g < 96, Part.powerOn.grant g = none)) ∧
      (tilted 512 0).composite ≤ 512 ∧ 512 < (tilted 512 33).composite ∧
      min 255 256 ≠ Part.powerOn.level.assumedSnr := by decide +kernel

theorem witness_PlantSetStores_unreserved (n : Nat) (h : n < 1024) : (Part.powerOn.slice n).use ≠ .reserved := by
  rw [powerOn_slice n h]
  split_ifs <;> nofun

/-- A composite of 512 with OVER_CAP clear and set, and one of 1024 of which two parked slices are the half. -/
theorem witness_CapCrossesComposite :
    let p := holding tenant3 grant0
    let parking := { p with slices := (p.slices.set 200 ⟨.parked 9 0, false, false⟩).set 300 ⟨.parked 9 0, false, false⟩ }
    p.shaped ∧ p.composite = 512 ∧ 512 ≠ p.level.cap ∧ p.level.overCap = false ∧ parking.shaped ∧
      parking.composite = 1024 ∧ 800 ≠ parking.level.cap ∧ ({ p.level with overCap := true }).overCap = true := by
  decide +kernel

/-- A dwell on a return slice and one on a forward slice, with what stays measurable; a cycle in each phase with time
left, a SETUP and a HOLD with none, and a STROBE whose input is asserted; and an idle sweep. -/
theorem witness_QuietEntersAndLeaves :
    let quiet : Run → Part := fun x =>
      (cycling { grant0 with state := .moving } .move (some ⟨100, 2⟩) (some x)).setQuiet true
    let p := dwelling 100 ⟨.free, false, false⟩ ⟨none, none, 0, 0⟩
    let lone : Run → Prop := fun x => (quiet x).engine.quiet = true ∧ (quiet x).store.batch = none ∧
      (quiet x).engine.jobs = [job7 .move (some ⟨100, 2⟩) (some x)] ∧ (quiet x).monitor.dwell.isSome ∧
      (quiet x).jobTenant (job7 .move (some ⟨100, 2⟩) (some x)) = some 3
    (Part.powerOn.engine.quiet = false ∧ Part.powerOn.monitor.dwell = some ⟨0, 8⟩ ∧ Part.powerOn.inForward 0 = false) ∧
    (p.monitor.dwell = some ⟨100, 8⟩ ∧ p.inForward 100 = true ∧ p.monitor.restartWaiting = false ∧
      (p.setQuiet true).firstMeasurable 101 110 = none ∧ (p.setQuiet true).firstMeasurable 0 110 = some 0 ∧
      (p.setQuiet true).firstMeasurable 72 110 = none) ∧
    (lone ⟨0, .setup, 1, 0, none, timingsData⟩ ∧ lone ⟨0, .strobe, 0, 1, some 9, timingsData⟩ ∧
      lone ⟨3, .setup, 0, 0, none, timingsData⟩ ∧ lone ⟨3, .hold, 0, 0, none, timingsData⟩ ∧
      lone ⟨0, .strobe, 0, 0, some 9, timingsData⟩ ∧ Part.powerOn.asserted 3 = false ∧
      ({ holding tenant3 grant0 with ready := Part.powerOn.ready.set 3 true } : Part).asserted 3 = true ∧
      timingsData.hold ≠ 0) ∧
    Part.powerOn.firstMeasurable 72 1023 = some 72 := by decide +kernel

/-- A queued item and a detached one, both ended by an ENGINE_RESET whose tag is owed beside them. -/
theorem witness_EngineResetEndsAllWork :
    let i : Byte → Bool → Work := fun t d => .item ⟨t, .move ⟨0, none⟩, d⟩
    let p := working tenant3 grant0 [i 5 false, i 6 true]
    let s : State := ⟨[], { Link.powerOn with
      outstanding := [5, 9], delivered := [⟨.engineReset 9 (some ()), false⟩] }, p⟩
    s.awaits (.engineReset 9 (some ())) 9 ∧ (s.part.placementQueue.filter fun i => !i.detached).map (·.tag) = [5] ∧
      5 ∈ s.link.outstanding ∧ (5 : Byte) ≠ 9 ∧ s.link.outstanding.Nodup ∧ p.tenant 3 = some tenant3 ∧
      tenant3.status ≠ .retiring := by decide +kernel

/-- One job of each kind and phase, and an ACTIVATE of grant 1 that waits on the RESIZE of grant 0. -/
theorem witness_EngineResetEndsAllWork_jobs :
    let at_ : GrantState → JobKind → Option RunPhase → Part := fun st kind ph =>
      cycling { grant0 with state := st } kind (some ⟨100, 2⟩) (ph.map fun ph => ⟨0, ph, 50, 50, none, timingsData⟩)
    let ready : Part → Bool := fun p => decide (p.shaped ∧ p.engine.jobs.length = 1 ∧ (p.engine.jobs.map (·.id)).Nodup ∧
      (p.grant 0).map (·.tenant) = some 3 ∧ p.tenant 3 = some tenant3) &&
      p.engine.jobs.all (fun j => j.grant == 0 && j.after.isNone) &&
      (List.range' 1 95).all fun g => (p.grant g).all fun r => r.state == .active
    let pair := ((at_ .resizing .resize none).setGrant 1 (some { grant0 with state := .arriving })).setJobs [job7 .resize (some ⟨72, 1⟩) none,
        ⟨8, 1, .activate, .activate, some ⟨73, 1⟩, some 7, false, none, none⟩]
    ready (at_ .arriving .activate none) ∧ ready (at_ .arriving .activate (some .strobe)) ∧
      ready (at_ .moving .move (some .setup)) ∧ ready (at_ .resizing .resize (some .hold)) ∧
      ready (at_ .leaving .release none) ∧ pair.shaped ∧ (pair.grant 1).map (·.tenant) = some 3 ∧
      pair.tenant 3 = some tenant3 := by decide +kernel

/-- R122: an ACTIVATE in SETUP is lost with RESET, and a MOVE in STROBE leaves its grant ACTIVE at its origin. -/
theorem test_reset_ends_jobs :
    let at_ : GrantState → JobKind → RunPhase → Part := fun st kind ph =>
      let p := cycling { grant0 with state := st } kind (some ⟨72, 2⟩) (some ⟨0, ph, 50, 50, none, timingsData⟩)
      ({ p with slices := p.slices.take 80 } : Part).resetJobs
    let lost := at_ .arriving .activate .setup
    lost.grant 0 = none ∧ (lost.tenant 3).map (fun t => (t.grants, t.lastFailure)) = some ([], some (0, .reset)) ∧
      (at_ .moving .move .strobe).grant 0 = some grant0 := by decide +kernel

/-- R56, R122: a MOVE in HOLD to a slice with the impaired mark completes, with its flags clear and no attempt. -/
theorem test_reset_keeps_flags :
    let p := cycling { grant0 with state := .moving } .move (some ⟨74, 2⟩) (some ⟨0, .hold, 50, 0, none, timingsData⟩)
    let u := ({ p with slices := (p.slices.take 80).set 74 ⟨.granted 0, true, false⟩ } : Part).resetJobs
    (u.grant 0).map (fun r => (r.first, r.state, r.impaired, r.relocationPending)) = some (74, .active, false, false) ∧
      u.alloc.work = [] := by decide +kernel

/-- A RELEASE, a shrink and a MOVE that may start in channel 0. -/
theorem witness_JobStartsInLowestChannel :
    let release := cycling { grant0 with state := .leaving } .release none none
    let shrink := cycling { grant0 with state := .resizing } .resize (some ⟨72, 1⟩) none
    let move := cycling { grant0 with state := .moving } .move (some ⟨100, 2⟩) none
    release.engine.jobs.find? release.eligible = some (job7 .release none none) ∧ release.freeChannel = some 0 ∧
      shrink.engine.jobs.find? shrink.eligible = some (job7 .resize (some ⟨72, 1⟩) none) ∧
      (∀ n < 73, 72 ≤ n → (shrink.slice n).use ≠ .claimed 0) ∧
      move.engine.jobs.find? move.eligible = some (job7 .move (some ⟨100, 2⟩) none) ∧
      move.grant 0 = some { grant0 with state := .moving } ∧
      (after .jobStart move).engine.jobs.find? (after .jobStart move).eligible = none ∧
      (move.engine.timings .data).hold ≠ 0 ∧ (move.engine.timings .data).setup ≠ 0 := by decide +kernel

theorem witness_SetupEndBeginsStrobe :
    let run : Run := ⟨0, .setup, 100, 0, none, timingsData⟩
    let p := cycling { grant0 with state := .moving } .move (some ⟨100, 2⟩) (some run)
    p.shaped ∧ p.engine.quiet = false ∧ p.jobIn 0 = some (job7 .move (some ⟨100, 2⟩) (some run)) ∧
      (∀ k ∈ p.engine.jobs, k = job7 .move (some ⟨100, 2⟩) (some run)) := by decide +kernel

/-- An input not asserted with a lock wait running; and one asserted, with the minimum over. -/
theorem witness_ReadyRisesAndStrobeEnds :
    let run : Run := ⟨0, .strobe, 0, 200, some 5000, timingsData⟩
    let p := cycling { grant0 with state := .moving } .move (some ⟨100, 2⟩) (some run)
    p.engine.quiet = false ∧ p.store.batch = none ∧ p.jobIn 0 = some (job7 .move (some ⟨100, 2⟩) (some run)) ∧
      p.jobTenant (job7 .move (some ⟨100, 2⟩) (some run)) = some 3 ∧ run.timings.hold ≠ 0 ∧ p.asserted 3 = false ∧
      ({ p with ready := p.ready.set 3 true } : Part).asserted 3 = true ∧
      (∀ k ∈ p.engine.jobs, k = job7 .move (some ⟨100, 2⟩) (some run)) ∧
      ({ run with strobeLeft := 0 } : Run).strobeLeft = 0 ∧ p.ready.getD 3 false = false := by decide +kernel

theorem witness_HoldEndActivatesAndReleases :
    let run : Run := ⟨0, .hold, 100, 0, none, timingsData⟩
    let p := cycling { grant0 with state := .arriving } .activate (some ⟨72, 2⟩) (some run)
    p.engine.quiet = false ∧ p.store.batch = none ∧ p.jobIn 0 = some (job7 .activate (some ⟨72, 2⟩) (some run)) ∧
      p.grant 0 = some { grant0 with state := .arriving } ∧ p.tenant 3 = some tenant3 := by decide +kernel

/-- A MOVE to 100, and a shrink whose dropped slice 73 lies in the window of the grant that waits on it. -/
theorem witness_HoldEndMovesAndResizes :
    let run : Run := ⟨0, .hold, 100, 0, none, timingsData⟩
    let move := cycling { grant0 with state := .moving } .move (some ⟨100, 2⟩) (some run)
    let shrink := cycling { grant0 with state := .resizing } .resize (some ⟨72, 1⟩) (some run)
    let waits : Job := ⟨8, 1, .activate, .activate, some ⟨73, 2⟩, some 7, false, none, none⟩
    let shrink := { shrink.setJobs (shrink.engine.jobs ++ [waits]) with
      grants := shrink.grants.set 1 (some { grant0 with first := 73, state := .arriving }) }
    move.shaped ∧ move.engine.quiet = false ∧ move.jobIn 0 = some (job7 .move (some ⟨100, 2⟩) (some run)) ∧
      move.tenant 3 = some tenant3 ∧ (move.slice 72).heldBy 0 = true ∧ windowCovers .data 100 2 72 = false ∧
      shrink.jobIn 0 = some (job7 .resize (some ⟨72, 1⟩) (some run)) ∧ shrink.waiterOn 7 = some waits ∧
      (shrink.slice 73).use = .granted 0 ∧ windowCovers (shrink.jobClass waits) 73 2 73 = true := by decide +kernel

/-- With the tenant ACTIVE, and with it RETIRING and listing no other grant. -/
theorem witness_HoldEndActivatesAndReleases_release :
    let run : Run := ⟨0, .hold, 100, 0, none, timingsData⟩
    let p := cycling { grant0 with state := .leaving } .release none (some run)
    p.shaped ∧ p.engine.quiet = false ∧ p.store.batch = none ∧ p.jobIn 0 = some (job7 .release none (some run)) ∧
      p.grant 0 = some { grant0 with state := .leaving } ∧ p.tenant 3 = some tenant3 ∧ tenant3.status ≠ .retiring ∧
      (∀ k ∈ p.engine.jobs, k.after ≠ some 7) ∧ (p.slice 72).heldBy 0 = true ∧ (p.slice 74).heldBy 0 = false ∧
      (tenant3.grants.filter fun k => k != 0) = [] := by decide +kernel

end Sys2Proof.Tests
end

section
/-! SUPPORT. What every operation of the part keeps of its invariants. `Part.Upholds p q` says that the
invariants of `p` hold of `q`, and `Part.Regular p q` that the split and QUIET stand as well. The shared operations
have it from `Part.Kept`; the fields that `Part.Kept` holds fixed have a rule each; and each owner of a command is
put together from those. -/

namespace Sys2Proof.Machine

/-- The table sizes, the bound of the job list, the form of the map and the ranges of the settings pass from `p` to
`q`. -/
structure Part.Upholds (p q : Part) : Prop where
  shaped : p.shaped → q.shaped
  jobs : p.jobsBounded → q.jobsBounded
  mapped : p.shaped → p.mapped → q.mapped
  inRange : p.inRange → q.inRange

/-- The invariants pass from `p` to `q`, and the split and the QUIET flag stand. -/
structure Part.Regular (p q : Part) : Prop extends Part.Upholds p q where
  split : q.split = p.split
  quiet : q.engine.quiet = p.engine.quiet

theorem Part.Upholds.trans {p q r : Part} (h : Part.Upholds p q) (k : Part.Upholds q r) : Part.Upholds p r where
  shaped hp := k.shaped (h.shaped hp)
  jobs hp := k.jobs (h.jobs hp)
  mapped hs hp := k.mapped (h.shaped hs) (h.mapped hs hp)
  inRange hp := k.inRange (h.inRange hp)

namespace Part.Regular

variable {n : Nat} {p q r : Part}

theorem refl (p : Part) : Part.Regular p p := ⟨⟨id, id, fun _ => id, id⟩, rfl, rfl⟩

theorem trans (h : Part.Regular p q) (k : Part.Regular q r) : Part.Regular p r :=
  ⟨h.toUpholds.trans k.toUpholds, k.split.trans h.split, k.quiet.trans h.quiet⟩

theorem foldl {α : Type} {f : Part → α → Part} (hf : ∀ p a, Part.Regular p (f p a)) (l : List α) (p : Part) :
    Part.Regular p (l.foldl f p) := by
  induction l generalizing p with
  | nil => exact refl p
  | cons a l ih => exact (hf p a).trans (ih _)

/-- What `Part.Kept` lists is enough, but for the job list's bound and the next-id counter. -/
theorem of_kept_of (h : Part.Kept n p q) (hj : p.jobsBounded → q.jobsBounded)
    (hid : p.engine.nextId < 256 → q.engine.nextId < 256) : Part.Regular p q where
  shaped hp := by
    obtain ⟨ready, tenants, slices, grants, turnaround, quality, raised, masks, slots⟩ := hp
    exact ⟨by rw [h.ready, ready], h.tenants.trans tenants, h.slices.trans slices, h.grants.trans grants,
      h.turnaround.trans turnaround, by rw [h.monitor, quality], h.raised.trans raised, by rw [h.masks, masks],
      h.slots.trans slots⟩
  jobs := hj
  mapped _ hp i hi := by
    obtain ⟨hsound, huse⟩ := h.map i (hp i hi).1
    exact ⟨hsound, by rw [huse, (hp i hi).2, h.split]⟩
  inRange hp := by
    obtain ⟨lo, hi, level, voice, video, data, monitor, top, quality, nextId⟩ := hp
    exact ⟨by rwa [h.split], by rwa [h.split], by rw [h.level]; exact level, by rwa [h.voice], by rwa [h.video],
      by rwa [h.data], by rwa [h.monitor], by rwa [h.top], by rwa [h.monitor], hid nextId⟩
  split := h.split
  quiet := h.quiet

/-- An operation that queues nothing. -/
theorem of_kept (h : Part.Kept 0 p q) : Part.Regular p q :=
  of_kept_of h (fun hp => h.jobs.trans hp) fun hp => by rwa [h.nextId rfl]

/-- An operation that queues at most one job, and only where an entry is free. -/
theorem of_entry (h : Part.Kept 0 p q ∨ (p.hasJobEntry = true ∧ Part.Kept 1 p q))
    (hid : p.engine.nextId < 256 → q.engine.nextId < 256) : Part.Regular p q := by
  rcases h with h | ⟨he, h⟩
  · exact of_kept h
  · have hfree : p.engine.jobs.length < 24 := by simpa [Part.hasJobEntry] using he
    exact of_kept_of h (fun _ => h.jobs.trans (by omega)) hid

theorem thenKept (h : Part.Regular p q) (k : Part.Kept 0 q r) : Part.Regular p r := h.trans (of_kept k)

end Part.Regular

/-! ### The fields that `Part.Kept` holds fixed -/

theorem Part.regular_setAlloc (p : Part) (a : Allocator) : Part.Regular p { p with alloc := a } :=
  ⟨⟨id, id, fun _ => id, id⟩, rfl, rfl⟩

theorem Part.regular_setReady (p : Part) (t : Nat) (b : Bool) : Part.Regular p { p with ready := p.ready.set t b } :=
  ⟨⟨fun h => by simpa [Part.shaped] using h, id, fun _ => id, id⟩, rfl, rfl⟩

theorem Part.regular_setEvents (p : Part) (u : EventUnit) (hr : u.raised.length = p.events.raised.length)
    (hm : u.masks.length = p.events.masks.length) : Part.Regular p { p with events := u } :=
  ⟨⟨fun h => by simpa [Part.shaped, hr, hm] using h, id, fun _ => id, id⟩, rfl, rfl⟩

theorem Part.regular_setStore (p : Part) (u : LineupStore) (hs : u.slots.length = p.store.slots.length)
    (ht : p.store.top < 4 → u.top < 4) : Part.Regular p { p with store := u } where
  shaped h := by simpa [Part.shaped, hs] using h
  jobs := id
  mapped _ := id
  inRange h := by
    obtain ⟨lo, hi, level, voice, video, data, monitor, top, quality, nextId⟩ := h
    exact ⟨lo, hi, level, voice, video, data, monitor, ht top, quality, nextId⟩
  split := rfl
  quiet := rfl

/-- The Plant Monitor's settings and quality entries lie in their ranges. -/
def Monitor.sound (m : Monitor) : Prop := m.inRange ∧ ∀ q ∈ m.quality, q.inRange

theorem Part.inRange.monitorSound {p : Part} (h : p.inRange) : p.monitor.sound := by
  obtain ⟨-, -, -, -, -, -, monitor, -, quality, -⟩ := h
  exact ⟨monitor, quality⟩

theorem Part.regular_setMonitor (p : Part) (m : Monitor) (hl : m.quality.length = p.monitor.quality.length)
    (hm : p.monitor.sound → m.sound) : Part.Regular p { p with monitor := m } where
  shaped h := by simpa [Part.shaped, hl] using h
  jobs := id
  mapped _ := id
  inRange h := by
    obtain ⟨monitor', quality'⟩ := hm h.monitorSound
    obtain ⟨lo, hi, level, voice, video, data, -, top, -, nextId⟩ := h
    exact ⟨lo, hi, level, voice, video, data, monitor', top, quality', nextId⟩
  split := rfl
  quiet := rfl

theorem Part.kept_setTenants (p : Part) (ts : List Tenant) (h : ts.length = p.tenants.length) :
    Part.Kept 0 p { p with tenants := ts } := by
  constructor <;> simp [Part.slice, h]

theorem Part.kept_setDrawn (p : Part) (n : Nat) : Part.Kept 0 p { p with drawn := n } := by
  constructor <;> simp [Part.slice]

theorem Part.kept_setSlots (p : Part) (l : List Slot) (h : l.length = p.store.slots.length) :
    Part.Kept 0 p { p with store := { p.store with slots := l } } := by
  constructor <;> simp [Part.slice, h]

theorem Part.kept_setOverCap (p : Part) (b : Bool) :
    Part.Kept 0 p { p with level := { p.level with overCap := b } } := by
  constructor <;> simp [Part.slice]

theorem Part.kept_stopTurnarounds (p : Part) :
    Part.Kept 0 p { p with engine := { p.engine with turnaround := p.engine.turnaround.map fun _ => none } } := by
  constructor <;> simp [Part.slice]

/-- QUIET has no part in the invariants. -/
theorem Part.upholds_setQuiet (p : Part) (on : Bool) : Part.Upholds p (p.setQuiet on) :=
  ⟨id, id, fun _ => id, id⟩

/-! ### The test of an act, and the service of a request -/

theorem Part.regular_commitTest (p q : Part) : Part.Regular q (p.commitTest q) := by
  obtain ⟨u, hu, hl⟩ := p.commitTest_frame q
  rw [hu]
  exact q.regular_setEvents _ hl rfl

theorem State.regular_act {s t : State} {f : Part → Part} (hf : ∀ p, Part.Regular p (f p)) (h : s.act f = .next t) :
    Part.Regular s.part t.part := by
  cases h
  exact (hf _).trans (Part.regular_commitTest _ _)

theorem State.part_of_serve {s t : State} {cmd : Instr} {tag kind : Byte} {owner : Part → Part × Reply}
    (h : s.serve cmd tag kind owner = .next t) : t.part = s.part.commitTest (owner s.part).1 := by
  cases h
  rfl

theorem State.regular_serve {s t : State} {cmd : Instr} {tag kind : Byte} {owner : Part → Part × Reply}
    (hf : ∀ p, Part.Regular p (owner p).1) (h : s.serve cmd tag kind owner = .next t) :
    Part.Regular s.part t.part := by
  rw [State.part_of_serve h]
  exact (hf _).trans (Part.regular_commitTest _ _)

/-- A malformed payload changes nothing, and the test of the act is regular: what relates a part to its owner's
relates the parts of the states. -/
theorem State.request_related {α : Type} {R : Part → Part → Prop} (hr : ∀ p, R p p)
    (hc : ∀ {p q r : Part}, R p q → Part.Regular q r → R p r) {s t : State} {cmd : Instr} {tag kind : Byte}
    {q : Payload α} {owner : α → Part → Part × Reply} (ho : ∀ a p, R p (owner a p).1)
    (h : s.serve cmd tag kind (served q owner) = .next t) : R s.part t.part := by
  rw [State.part_of_serve h]
  refine hc ?_ (Part.regular_commitTest _ _)
  cases q with
  | none => exact hr s.part
  | some a => exact ho a s.part

theorem State.regular_request {α : Type} {s t : State} {cmd : Instr} {tag kind : Byte} {q : Payload α}
    {owner : α → Part → Part × Reply} (ho : ∀ a p, Part.Regular p (owner a p).1)
    (h : s.serve cmd tag kind (served q owner) = .next t) : Part.Regular s.part t.part :=
  State.request_related Part.Regular.refl Part.Regular.trans ho h

end Sys2Proof.Machine
end

section
/-! SUPPORT. The operations that queue jobs (chapters 3, 4 and 8): `Part.Queues n p q` is `Part.Kept n p q` with the
next-id counter still in its range (R103). Only a queued job moves that counter. -/

namespace Sys2Proof.Machine

/-- At most `n` jobs are queued between `p` and `q`, and the next-id counter stays in its range. -/
structure Part.Queues (n : Nat) (p q : Part) : Prop extends Part.Kept n p q where
  idRange : p.engine.nextId < 256 → q.engine.nextId < 256

namespace Part.Queues

variable {m n : Nat} {p q r : Part}

theorem of_kept (h : Part.Kept 0 p q) : Part.Queues n p q :=
  ⟨h.weaken (Nat.zero_le n), fun hp => by rwa [h.nextId rfl]⟩

theorem refl (p : Part) : Part.Queues n p p := of_kept (.refl p)

theorem weaken (h : Part.Queues m p q) (hm : m ≤ n) : Part.Queues n p q := ⟨h.toKept.weaken hm, h.idRange⟩

theorem trans (h : Part.Queues m p q) (k : Part.Queues n q r) : Part.Queues (m + n) p r :=
  ⟨h.toKept.trans k.toKept, fun hp => k.idRange (h.idRange hp)⟩

theorem thenKept (h : Part.Queues n p q) (k : Part.Kept 0 q r) : Part.Queues n p r := h.trans (n := 0) (of_kept k)

theorem afterKept (h : Part.Kept 0 p q) (k : Part.Queues n q r) : Part.Queues n p r := by
  simpa using (of_kept (n := 0) h).trans k

/-- A work of at most `n` jobs is taken only with that many entries free. -/
theorem regular (h : Part.Queues n p q) (hn : p.engine.jobs.length + n ≤ 24) : Part.Regular p q :=
  .of_kept_of h.toKept (fun _ => h.jobs.trans hn) h.idRange

end Part.Queues

theorem Part.queues_queueJob (p : Part) (g : Nat) (kind : JobKind) (dest : Option Place) (after : Option Nat)
    (relocation : Bool) (batch : Option BatchMark) :
    Part.Queues 1 p (p.queueJob g kind dest after relocation batch).1 :=
  ⟨p.kept_queueJob _ _ _ _ _ _, fun _ => Nat.mod_lt _ (by decide)⟩

/-! ### Releases (3.5, 6.6) -/

theorem Part.queues_releaseActive (p : Part) (g : Nat) : Part.Queues 1 p (p.releaseActive g) :=
  .afterKept ((p.kept_mapBatch _).then₀ (Part.kept_enterLeaving _ _)) (Part.queues_queueJob _ _ _ _ _ _ _)

theorem Part.queues_releaseGrant (p : Part) (g : Nat) (phaseA : Bool) : Part.Queues 1 p (p.releaseGrant g phaseA) := by
  unfold Part.releaseGrant
  split
  · exact .refl p
  split
  · exact .refl p
  · split
    · exact p.queues_releaseActive g
    · exact .refl p
  · split
    · exact .of_kept (p.kept_cutShort _ _ _)
    · exact .refl p

theorem Part.regular_releaseGrant (p : Part) (g : Nat) (phaseA : Bool) : Part.Regular p (p.releaseGrant g phaseA) :=
  .of_entry (p.kept_releaseGrant g phaseA) (p.queues_releaseGrant g phaseA).idRange

theorem Part.regular_backlogRounds (n : Nat) (p : Part) : Part.Regular p (Part.backlogRounds n p) := by
  induction n generalizing p with
  | zero => exact .refl p
  | succ n ih =>
    have turn : ∀ (q : Part) t, Part.Regular q (q.backlogTurn t) := fun q t => by
      unfold Part.backlogTurn
      split
      · exact q.regular_releaseGrant _ _
      · exact .refl q
    exact (Part.Regular.foldl turn _ p).trans (ih _)

theorem Part.regular_release (g : Nat) (p : Part) : Part.Regular p (Part.release g p).1 := by
  unfold Part.release
  split
  · exact .refl p
  · exact (p.regular_releaseGrant _ _).thenKept (Part.kept_progressBatch _)

theorem Part.regular_releaseBacklog (p : Part) : Part.Regular p p.releaseBacklog :=
  (Part.regular_backlogRounds 24 p).thenKept (Part.kept_progressBatch _)

/-! ### The restore batch (8.5) -/

theorem Part.queues_issueItem {p q : Part} {i : BatchItem} (h : p.issueItem i = .issued q) : Part.Queues 1 p q := by
  cases i with
  | move e =>
    simp only [Part.issueItem, Part.issueMove] at h
    split at h
    · cases h
    split at h
    · cases h
    split at h
    · cases h
    cases h
    exact (Part.Queues.afterKept (p.kept_setGrant _ _) (Part.queues_queueJob _ _ _ _ _ _ _)).thenKept
      (Part.kept_claimWindow _ _ _ _)
  | activate e =>
    simp only [Part.issueItem, Part.issueActivate] at h
    split at h
    · split_ifs at h
      cases h
      exact ((Part.Queues.afterKept ((p.kept_setGrant _ _).then₀ (Part.kept_setTenant _ _ _))
        (Part.queues_queueJob _ _ _ _ _ _ _)).thenKept (Part.kept_claimWindow _ _ _ _)).thenKept (Part.kept_upkeep _ _)
    · cases h

theorem Part.queues_takeUpItems (items : List BatchItem) (p : Part) : Part.Queues 1 p (Part.takeUpItems items p) := by
  induction items generalizing p with
  | nil => exact .refl p
  | cons i rest ih =>
    have failed : Part.Kept 0 p ((p.mapBatch fun b => b.dropHead rest).countFailed) :=
      (p.kept_mapBatch _).then₀ (Part.kept_countFailed _)
    unfold Part.takeUpItems
    split
    · next h => exact (Part.queues_issueItem h).thenKept (Part.kept_mapBatch _ _)
    · exact .afterKept failed (ih _)
    · split
      · exact .of_kept (p.kept_mapBatch _)
      · exact .afterKept failed (ih _)

theorem Part.regular_issueHead (p : Part) : Part.Regular p p.issueHead := by
  unfold Part.issueHead
  split
  · exact .refl p
  · next b _ =>
    split
    · next h =>
      have hfree : p.engine.jobs.length < 24 := by
        simp only [Part.hasJobEntry, Bool.and_eq_true, decide_eq_true_eq] at h
        exact h.1.2
      exact ((Part.queues_takeUpItems b.items p).regular (by omega)).thenKept (Part.kept_progressBatch _)
    · exact .refl p

theorem Part.queues_releasePhaseA (p : Part) (g : Nat) : Part.Queues 1 p (p.releasePhaseA g) := by
  unfold Part.releasePhaseA
  split
  · exact .of_kept (p.kept_mapBatch _)
  split
  · split
    · exact p.queues_releaseActive g
    · exact .refl p
  · split
    · exact .of_kept ((p.kept_mapJob _ _).then₀ (Part.kept_mapBatch _ _))
    · exact .of_kept (p.kept_mapBatch _)
  · exact (p.queues_releaseGrant g true).thenKept (Part.kept_mapBatch _ _)

theorem Part.regular_releasePhaseA (p : Part) (g : Nat) : Part.Regular p (p.releasePhaseA g) :=
  .of_entry (p.kept_releasePhaseA g) (p.queues_releasePhaseA g).idRange

theorem Part.regular_phaseARelease (p : Part) : Part.Regular p p.phaseARelease := by
  unfold Part.phaseARelease
  split
  · exact .refl p
  · split
    · exact .refl p
    · exact (p.regular_releasePhaseA _).thenKept (Part.kept_progressBatch _)

theorem Part.regular_releaseInOrder (taken gs : List Nat) (p : Part) :
    Part.Regular p (Part.releaseInOrder taken gs p) := by
  have listed : ∀ (q : Part) g, Part.Regular q (q.releaseListed g) := fun q g => by
    unfold Part.releaseListed
    split
    · exact q.regular_releasePhaseA g
    · exact .refl q
  induction gs generalizing taken p with
  | nil => exact .refl p
  | cons g gs ih => exact ((listed p g).trans (Part.Regular.foldl listed taken _)).trans (ih _ _)

/-- TOP moves by a count of slots round the four (R144). -/
theorem LineupStore.top_moved (n k : Nat) : (n + k) % 4 < 4 := Nat.mod_lt _ (by decide)

theorem Part.regular_startBatch (p : Part) (plan : Plan) : Part.Regular p (p.startBatch plan) := by
  have started := (p.regular_setStore
    { p.store with
      slots := p.store.slots.set p.store.top .empty
      top := (p.store.top + 1) % 4
      batch := some ⟨.a, plan.releases, plan.levels, plan.items, false, false, ⟨0, 0, 0, 0⟩⟩ }
    (by simp) fun _ => LineupStore.top_moved _ _).trans (Part.regular_setAlloc _ { p.alloc with restoreHold := true })
  exact (started.trans (Part.regular_releaseInOrder [] plan.releases _)).thenKept (Part.kept_progressBatch _)

theorem Part.regular_lineupPop (q : Unit) (p : Part) : Part.Regular p (Part.lineupPop q p).1 := by
  unfold Part.lineupPop
  split
  · exact .refl p
  split
  · exact .refl p
  split
  · exact .refl p
  dsimp only
  split
  · exact .refl p
  split
  · exact .refl p
  split
  · exact .refl p
  split
  · exact .refl p
  · exact p.regular_startBatch _

theorem Part.regular_saveInto (p : Part) (n : Nat) : Part.Regular p (p.saveInto ((p.store.top + n) % 4)) :=
  p.regular_setStore _ (by simp) fun _ => LineupStore.top_moved _ _

theorem Part.regular_lineupPush (q : Unit) (p : Part) : Part.Regular p (Part.lineupPush q p).1 := by
  unfold Part.lineupPush
  dsimp only
  split
  · exact p.regular_saveInto 3
  · split
    · exact p.regular_saveInto 3
    · exact .refl p

theorem Part.regular_lineupRotate (q : Unit) (p : Part) : Part.Regular p (Part.lineupRotate q p).1 :=
  p.regular_setStore _ rfl fun _ => LineupStore.top_moved _ _

theorem Part.kept_lineupDrop (n : Nat) (p : Part) : Part.Kept 0 p (Part.lineupDrop n p).1 := by
  unfold Part.lineupDrop
  split
  · exact .refl p
  · exact p.kept_setSlots _ (by simp)

/-! ### The Allocator's decisions (chapter 4) -/

theorem Part.queues_preempt (p : Part) (d width : Nat) : Part.Queues 1 p (p.preempt d width).1 := by
  unfold Part.preempt
  split
  · exact .refl p
  · exact .thenKept (.afterKept (p.kept_setGrant _ _) (Part.queues_queueJob _ _ _ _ _ _ _)) (Part.kept_raise _ _ _)

theorem Part.queues_preemptFor (p : Part) (cls : CarrierClass) (c : Nat) (d : Option Nat) :
    Part.Queues 1 p (p.preemptFor cls c d).1 := by
  cases d with
  | none => exact .refl p
  | some d => exact p.queues_preempt _ _

theorem Part.kept_enlist (p : Part) (t g : Nat) : Part.Kept 0 p (p.enlist t g) := by
  unfold Part.enlist
  split
  · exact .refl p
  · exact p.kept_setTenant _ _

/-- The window is claimed, and the flags follow a PROFILE remedy. -/
theorem Part.kept_remedied (p : Part) (b : Bool) (g : Nat) : Part.Kept 0 p (if b then p.setFlags g else p) := by
  split
  · exact p.kept_setFlags g
  · exact .refl p

theorem Part.queues_acceptAsk (tenant : Nat) (t : TenantRecord) (d : Direction) (floor : Option Nat) (g : Nat)
    (x : Trial) (p : Part) : Part.Queues 2 p (Part.acceptAsk tenant t d floor g x p).1 := by
  have queued := fun (q : Part) r after =>
    Part.Queues.afterKept ((q.kept_setGrant g (some r)).then₀ (Part.kept_enlist _ tenant g))
      (Part.queues_queueJob _ g .activate (some x.place) after false none)
  exact ((((p.queues_preemptFor t.cls x.place.first x.preempt).trans (queued _ _ _)).thenKept
    (Part.kept_claimWindow _ g t.cls x.place)).thenKept (Part.kept_moveRover _ tenant d x.place)).thenKept
    (Part.kept_remedied _ x.remedied g)

theorem Part.queues_acceptMove (g : Nat) (r : Grant) (relocation : Bool) (x : Trial) (p : Part) :
    Part.Queues 2 p (Part.acceptMove g r relocation x p).1 := by
  have queued := fun (q : Part) r after =>
    Part.Queues.afterKept (q.kept_setGrant g (some r))
      (Part.queues_queueJob _ g .move (some x.place) after relocation none)
  exact ((((p.queues_preemptFor r.cls x.place.first x.preempt).trans (queued _ _ _)).thenKept
    (Part.kept_claimWindow _ g r.cls x.place)).thenKept (Part.kept_moveRover _ r.tenant r.dir x.place)).thenKept
    (Part.kept_remedied _ x.remedied g)

theorem Part.queues_acceptGrow (g : Nat) (r : Grant) (q : ResizeFields) (x : Trial) (p : Part) :
    Part.Queues 1 p (Part.acceptGrow g r q x p).1 :=
  ((Part.Queues.afterKept (p.kept_setGrant g _)
    (Part.queues_queueJob _ g .resize (some x.place) none false none)).thenKept
    (Part.kept_claimWindow _ g r.cls x.place)).thenKept (Part.kept_remedied _ x.remedied g)

theorem Part.queues_conclude {n : Nat} (p : Part) (tenant : Nat) (j : Judged) {accept : Trial → Part → Part × Placed}
    (h : ∀ x, Part.Queues n p (accept x p).1) : Part.Queues n p (p.conclude tenant j accept).1 := by
  cases j with
  | error e => exact .of_kept (p.kept_setSticky _ _)
  | ok x => exact (h x).thenKept (Part.kept_setSticky _ _ _)

theorem Part.queues_decideAsk (q : AskFields) (p : Part) : Part.Queues 2 p (p.decideAsk q).1 := by
  unfold Part.decideAsk
  split
  · split
    · exact .refl p
    split
    · exact .refl p
    split
    · exact .refl p
    · exact p.queues_conclude _ _ fun x => Part.queues_acceptAsk _ _ _ _ _ x p
  · exact .refl p

theorem Part.queues_decideMove (q : MoveFields) (p : Part) : Part.Queues 2 p (p.decideMove q).1 := by
  unfold Part.decideMove
  split
  · split
    · exact .refl p
    split
    · exact .refl p
    · exact p.queues_conclude _ _ fun x => Part.queues_acceptMove _ _ _ x p
  · exact .refl p

theorem Part.queues_decideResize (q : ResizeFields) (p : Part) : Part.Queues 2 p (p.decideResize q).1 := by
  unfold Part.decideResize
  split
  · split
    · exact .refl p
    split
    · exact .refl p
    split
    · exact .refl p
    split
    · exact .of_kept ((p.kept_setGrant _ _).then₀ (Part.kept_setDrawn _ _))
    split
    · exact ((Part.Queues.afterKept (p.kept_setGrant _ _) (Part.queues_queueJob _ _ _ _ _ _ _)).thenKept
        (Part.kept_setDrawn _ _)).weaken (by omega)
    · exact (p.queues_conclude _ _ fun x => Part.queues_acceptGrow _ _ _ x p).weaken (by omega)
  · exact .refl p

theorem Part.queues_attempt (g : Nat) (p : Part) : Part.Queues 2 p (Part.attempt g p) := by
  unfold Part.attempt
  split
  · exact .refl p
  · split
    · dsimp only
      split
      · exact Part.queues_acceptMove _ _ _ _ p
      · exact .of_kept (p.kept_raise _ _)
    · exact .of_kept (p.kept_raise _ _)

/-! ### The take (4.1) -/

/-- A take needs two free entries in the job queue (R59), as many as a decision fills. -/
theorem Part.regular_take {p q : Part} (ht : p.mayTake = true) (h : Part.Queues 2 p.dropFront q) : Part.Regular p q := by
  have hroom : p.engine.jobs.length ≤ 22 := by
    simp only [Part.mayTake, Bool.and_eq_true, decide_eq_true_eq] at ht
    exact ht.2
  exact (p.regular_setAlloc _).trans (h.regular (by simpa using hroom))

/-- The reply in build is no part of the invariants. -/
theorem QueueItem.regular_build {p : Part} (i : QueueItem) (out : Part × Reply) (h : Part.Regular p out.1) :
    Part.Regular p (i.build out) := h.trans (Part.regular_setAlloc _ _)

theorem Part.regular_takeAsk (p : Part) : Part.Regular p p.takeAsk := by
  unfold Part.takeAsk
  split
  · split
    · next ht => exact QueueItem.regular_build _ _ (Part.regular_take ht (Part.queues_decideAsk _ _))
    · exact .refl p
  · exact .refl p

theorem Part.regular_takeMove (p : Part) : Part.Regular p p.takeMove := by
  unfold Part.takeMove
  split
  · split
    · next ht => exact QueueItem.regular_build _ _ (Part.regular_take ht (Part.queues_decideMove _ _))
    · exact .refl p
  · exact .refl p

theorem Part.regular_takeResize (p : Part) : Part.Regular p p.takeResize := by
  unfold Part.takeResize
  split
  · split
    · next ht => exact QueueItem.regular_build _ _ (Part.regular_take ht (Part.queues_decideResize _ _))
    · exact .refl p
  · exact .refl p

theorem Part.regular_takeAttempt (p : Part) : Part.Regular p p.takeAttempt := by
  unfold Part.takeAttempt
  split
  · split
    · next ht => exact Part.regular_take ht (Part.queues_attempt _ _)
    · exact .refl p
  · exact .refl p

end Sys2Proof.Machine
end

section
/-! SUPPORT. The passing of time, the sweep and the verdicts (chapter 7), the requests that rewrite map entries
(1.5, 1.6), and what each makes of the Plant Monitor's settings and quality entries. -/

namespace Sys2Proof.Machine

/-! ### The map -/

theorem Part.kept_setSlices (p : Part) (u : List SliceEntry) (hl : u.length = p.slices.length)
    (hm : ∀ i, (p.slice i).Follows (({ p with slices := u } : Part).slice i)) :
    Part.Kept 0 p { p with slices := u } := by
  constructor
  case map => exact hm
  all_goals simp [hl]

/-- A change of a range's slices changes the map and nothing else. -/
theorem Part.mapSlices_frame (p : Part) (f : SliceEntry → SliceEntry) (ns : List Nat) :
    p.mapSlices f ns = { p with slices := (p.mapSlices f ns).slices } ∧
      (p.mapSlices f ns).slices.length = p.slices.length := by
  unfold Part.mapSlices
  induction ns generalizing p with
  | nil => exact ⟨rfl, rfl⟩
  | cons n ns ih =>
    obtain ⟨hframe, hlen⟩ := ih (p.setSlice n (f (p.slice n)))
    exact ⟨hframe, by simpa using hlen⟩

/-- Each slice of the range takes its change, from the entry that it had before the act. -/
theorem Part.slice_mapSlices (p : Part) (f : SliceEntry → SliceEntry) {ns : List Nat} (hn : ns.Nodup) (i : Nat) :
    (p.mapSlices f ns).slice i = if i ∈ ns ∧ i < p.slices.length then f (p.slice i) else p.slice i := by
  induction ns generalizing p with
  | nil => simp [Part.mapSlices]
  | cons n ns ih =>
    obtain ⟨hnot, hnodup⟩ := List.nodup_cons.mp hn
    rw [Part.mapSlices, List.foldl_cons, ← Part.mapSlices, ih _ hnodup]
    by_cases hi : i = n
    · subst hi
      simp [hnot, Part.slice_setSlice]
    · simp [hi]

theorem Part.kept_mapSlices (p : Part) (f : SliceEntry → SliceEntry) {ns : List Nat} (hn : ns.Nodup)
    (hf : ∀ n ∈ ns, (p.slice n).Follows (f (p.slice n))) : Part.Kept 0 p (p.mapSlices f ns) := by
  obtain ⟨hframe, hlen⟩ := p.mapSlices_frame f ns
  have hmap : ∀ i, (p.slice i).Follows ((p.mapSlices f ns).slice i) := fun i => by
    rw [Part.slice_mapSlices p f hn]
    split
    · next hi => exact hf i hi.1
    · exact .refl _
  rw [hframe]
  exact p.kept_setSlices _ hlen hmap

/-- Reservation takes a slice that is not a crossover slice. -/
theorem SliceEntry.follows_reserve {e : SliceEntry} (h : e.reservable = true) : e.Follows e.reserve := fun _ => by
  obtain ⟨u, i, q⟩ := e
  cases u <;> simp_all [SliceEntry.reservable, SliceEntry.reserve, SliceEntry.sound]

theorem SliceEntry.follows_unreserve (e : SliceEntry) : e.Follows e.unreserve := by
  unfold SliceEntry.unreserve
  split
  · next hu => exact SliceEntry.follows_released (by simp [hu])
  · exact .refl e

theorem nodup_rangeSlices (q : RangeFields) : (rangeSlices q).Nodup := List.nodup_range'

theorem mem_rangeSlices {q : RangeFields} {n : Nat} : n ∈ rangeSlices q ↔ q.first ≤ n ∧ n < q.first + q.count := by
  simp [rangeSlices]

theorem rangeOk_iff {most : Nat} {q : RangeFields} :
    rangeOk most q = true ↔ 1 ≤ q.count ∧ q.count ≤ most ∧ q.first + q.count ≤ 1024 := by
  simp [rangeOk, and_assoc]

theorem Part.kept_reserve (q : RangeFields) (p : Part) : Part.Kept 0 p (Part.reserve q p).1 := by
  unfold Part.reserve
  split
  · exact .refl p
  split
  · exact .refl p
  split
  · exact .refl p
  · next h =>
    have hr : ∀ n ∈ rangeSlices q, (p.slice n).reservable = true := by simpa using h
    exact (p.kept_mapSlices _ (nodup_rangeSlices q) fun n hn => SliceEntry.follows_reserve (hr n hn)).then₀
      (Part.kept_capTest _)

theorem Part.kept_unreserve (q : RangeFields) (p : Part) : Part.Kept 0 p (Part.unreserve q p).1 := by
  unfold Part.unreserve
  split
  · exact .refl p
  · exact p.kept_mapSlices _ (nodup_rangeSlices q) fun n _ => SliceEntry.follows_unreserve _

theorem Part.regular_readMap (q : RangeFields) (p : Part) : Part.Regular p (Part.readMap q p).1 := by
  unfold Part.readMap
  split <;> exact .refl p

/-! ### Time -/

theorem Part.regular_elapse (p : Part) (ms : Nat) : Part.Regular p (p.elapse ms) :=
  (p.regular_setMonitor (p.elapse ms).monitor rfl id).thenKept (p.swept_elapse ms)

theorem Part.regular_expirePark (n : Nat) (p : Part) : Part.Regular p (Part.expirePark n p) := by
  unfold Part.expirePark
  split
  · next left fill hu =>
    exact (p.regular_elapse left).thenKept
      (Part.kept_endParking _ n (by rw [Part.slice_elapse]; simp [SliceEntry.elapse, hu]))
  · exact .refl p

theorem Part.regular_expireTurnaround (t : Nat) (p : Part) : Part.Regular p (Part.expireTurnaround t p) := by
  unfold Part.expireTurnaround
  split
  · exact .refl p
  · exact (p.regular_elapse _).thenKept (Part.kept_setTurnaround _ _ _)

/-! ### The ends of phases (6.2 to 6.5) -/

theorem Part.regular_endSetup (channel : Nat) (p : Part) : Part.Regular p (Part.endSetup channel p) := by
  unfold Part.endSetup
  split
  · exact .refl p
  · exact (p.regular_elapse _).thenKept (Part.kept_beginStrobe _ _)

theorem Part.regular_endStrobeMinimum (channel : Nat) (p : Part) :
    Part.Regular p (Part.endStrobeMinimum channel p) := by
  unfold Part.endStrobeMinimum
  split
  · exact .refl p
  · dsimp only
    split
    · exact (p.regular_elapse _).thenKept ((Part.kept_beginHold _ _).then₀ (Part.kept_progressBatch _))
    · exact p.regular_elapse _

theorem Part.kept_raiseTimeout (p : Part) (j : Job) : Part.Kept 0 p (p.raiseTimeout j) := by
  unfold Part.raiseTimeout
  split
  · exact .refl p
  · exact p.kept_raise _ _

theorem Part.regular_endLockWait (channel : Nat) (p : Part) : Part.Regular p (Part.endLockWait channel p) := by
  unfold Part.endLockWait
  split
  · exact .refl p
  split
  · exact .refl p
  split
  · exact .refl p
  · exact (p.regular_elapse _).thenKept
      (((Part.kept_raiseTimeout _ _).then₀ (Part.kept_beginHold _ _)).then₀ (Part.kept_progressBatch _))

theorem Part.regular_endHold (channel : Nat) (p : Part) : Part.Regular p (Part.endHold channel p) := by
  unfold Part.endHold
  split
  · exact .refl p
  · exact (p.regular_elapse _).thenKept ((Part.kept_finish _ _).then₀ (Part.kept_progressBatch _))

/-! ### The sweep (7.2, 7.3) -/

theorem Part.regular_dwellOn (p : Part) (o : Option Nat) : Part.Regular p (p.dwellOn o) :=
  p.regular_setMonitor _ rfl id

theorem Part.regular_startSweep (p : Part) : Part.Regular p p.startSweep := p.regular_dwellOn _

theorem Part.regular_resumeSweep (p : Part) : Part.Regular p p.resumeSweep := by
  unfold Part.resumeSweep
  split
  · exact p.regular_startSweep
  · exact .refl p

theorem Part.regular_advance (p : Part) (n : Nat) : Part.Regular p (p.advance n) := by
  unfold Part.advance
  dsimp only
  split
  · exact p.regular_dwellOn _
  · split
    · exact (Part.Regular.of_kept p.kept_sweepDone).trans (Part.regular_dwellOn _ _)
    · exact p.regular_dwellOn _

/-- The pending values become active: they lie in the same ranges. -/
theorem Part.regular_restart (p : Part) : Part.Regular p p.restart :=
  (p.regular_setMonitor { p.monitor with active := p.monitor.waiting, restartWaiting := false } rfl
    fun ⟨⟨_, waiting, limits⟩, quality⟩ => ⟨⟨waiting, waiting, limits⟩, quality⟩).trans (Part.regular_startSweep _)

theorem Part.regular_afterDwell (p : Part) (n : Nat) : Part.Regular p (p.afterDwell n) := by
  unfold Part.afterDwell
  split
  · exact p.regular_restart
  · exact p.regular_advance n

/-! ### Estimates and quality entries (7.4, 7.5) -/

/-- The quality entry of any slice lies in its range. -/
theorem Part.qualityOf_inRange {p : Part} (h : p.monitor.sound) (n : Nat) : (p.qualityOf n).inRange := by
  unfold Part.qualityOf
  rw [List.getD_eq_getElem?_getD]
  cases hq : p.monitor.quality[n]? with
  | none => simp [QualityEntry.inRange]
  | some q => exact h.2 q (List.mem_of_getElem? hq)

theorem Part.regular_setQuality (p : Part) (n : Nat) (q : QualityEntry) (hq : p.monitor.sound → q.inRange) :
    Part.Regular p (p.setQuality n q) :=
  p.regular_setMonitor _ (by simp) fun h => ⟨h.1, fun x hx => by
    rcases List.mem_or_eq_of_mem_set hx with hx | rfl
    · exact h.2 x hx
    · exact hq h⟩

theorem QualityEntry.inRange_clearCounts {q : QualityEntry} (h : q.inRange) :
    QualityEntry.inRange { q with strikes := 0, clears := 0 } :=
  ⟨h.1, h.2.1, Nat.zero_le _, Nat.zero_le _⟩

theorem Part.regular_clearCounts (p : Part) (n : Nat) : Part.Regular p (p.clearCounts n) :=
  p.regular_setQuality n _ fun h => QualityEntry.inRange_clearCounts (Part.qualityOf_inRange h n)

/-- Smoothing moves a part of the way to the estimate, so a step stays a step (R131). -/
theorem smooth_le (k : Nat) {old : Option Nat} {m : Nat} (ho : ∀ s ∈ old, s ≤ 255) (hm : m ≤ 255) :
    smooth k old m ≤ 255 := by
  cases old with
  | none => exact hm
  | some s =>
    have hs : s ≤ 255 := ho s rfl
    have hpow : (1 : Int) ≤ ((2 ^ k : Nat) : Int) := by exact_mod_cast Nat.one_le_two_pow
    have hshare : ((m : Int) - s) / ((2 ^ k : Nat) : Int) ≤ max 0 (255 - s) := by
      have hmono : ((m : Int) - s) / ((2 ^ k : Nat) : Int) ≤ (255 - s : Int) / ((2 ^ k : Nat) : Int) :=
        Int.ediv_le_ediv (by omega) (by omega)
      have hself : (255 - s : Int) / ((2 ^ k : Nat) : Int) ≤ 255 - s := Int.ediv_le_self _ (by omega)
      omega
    simp only [smooth]
    omega

/-- The quality entry of a slice after the estimate `m`, with these counts (R131). -/
def Part.measuredEntry (p : Part) (n m strikes clears : Nat) : QualityEntry :=
  ⟨some m, some (smooth p.monitor.active.shift (p.qualityOf n).smoothed m), strikes, clears⟩

theorem Part.regular_setMeasured (p : Part) (n : Nat) {m strikes clears : Nat} (hm : m ≤ 255) (hs : strikes ≤ 15)
    (hc : clears ≤ 15) : Part.Regular p (p.setQuality n (p.measuredEntry n m strikes clears)) :=
  p.regular_setQuality n _ fun h => ⟨by simpa [Part.measuredEntry] using hm,
    by simpa [Part.measuredEntry] using smooth_le _ (Part.qualityOf_inRange h n).2.1 hm, hs, hc⟩

/-- A count that reaches its limit gives a verdict on the slice and starts again; else it is stored. -/
theorem Part.regular_verdict {p r : Part} (n : Nat) {m strikes clears : Nat} (e : PlantEvent) (limit count : Nat)
    (hm : m ≤ 255) (hs : strikes ≤ 15) (hc : clears ≤ 15)
    (hr : Part.Kept 0 (p.setQuality n (p.measuredEntry n m 0 0)) r) :
    Part.Regular p (if limit ≤ count then r.raisePlant e else p.setQuality n (p.measuredEntry n m strikes clears)) := by
  split
  · exact (p.regular_setMeasured n hm (Nat.zero_le _) (Nat.zero_le _)).thenKept (hr.then₀ (Part.kept_raisePlant _ e))
  · exact p.regular_setMeasured n hm hs hc

/-- An estimate applied to a slice, in each of the four counting modes. -/
theorem Part.regular_applyEstimate (p : Part) (n : Nat) {m : Nat} (hm : m ≤ 255) :
    Part.Regular p (p.applyEstimate n m) := by
  have hcount : ∀ (c : Prop) [Decidable c] (k : Nat), (if c then min 15 (k + 1) else 0) ≤ 15 := fun c _ k => by
    split <;> omega
  unfold Part.applyEstimate
  dsimp only
  split
  · exact .refl p
  · exact (p.regular_setMeasured n hm (Nat.zero_le _) (Nat.zero_le _)).thenKept (Part.kept_upkeepAll _ _)
  · exact (Part.regular_verdict n _ _ _ hm (hcount _ _) (Nat.zero_le _) (Part.kept_quarantineVerdict _ _ _)).thenKept
      (Part.kept_upkeepAll _ _)
  · next hc =>
    exact (Part.regular_verdict n _ _ _ hm (Nat.zero_le _) (hcount _ _)
      (Part.kept_liftVerdict _ _ _ (.inr (SliceEntry.pinned_of_clear hc)))).thenKept (Part.kept_upkeepAll _ _)

theorem Part.regular_endDwell (p : Part) {m : Nat} (hm : m ≤ 255) : Part.Regular p (p.endDwell m) := by
  unfold Part.endDwell
  split
  · exact .refl p
  · exact ((p.regular_elapse _).trans (Part.regular_applyEstimate _ _ hm)).trans (Part.regular_afterDwell _ _)

theorem Part.regular_dwellEnd {m : Nat} (hm : m ≤ 255) (p : Part) : Part.Regular p (Part.dwellEnd m p) :=
  (p.regular_endDwell hm).thenKept (Part.kept_progressBatch _)

theorem Part.regular_restartTakesEffect {m : Nat} (hm : m ≤ 255) (p : Part) :
    Part.Regular p (Part.restartTakesEffect m p) := by
  unfold Part.restartTakesEffect
  split
  · exact .refl p
  split
  · exact p.regular_dwellEnd hm
  · exact p.regular_restart

/-! ### The Plant Monitor's requests (7.2, 7.6) -/

theorem clampNat_mem {lo hi : Nat} (h : lo ≤ hi) (v : Nat) : lo ≤ clampNat lo hi v ∧ clampNat lo hi v ≤ hi := by
  simp only [clampNat]
  omega

/-- A stored field lies in its range, be it carried or left as it was (R170). -/
theorem storeNat_mem {lo hi old : Nat} (v : Option Nat) (h : lo ≤ hi) (ho : lo ≤ old ∧ old ≤ hi) :
    lo ≤ storeNat lo hi v old ∧ storeNat lo hi v old ≤ hi := by
  cases v with
  | none => exact ho
  | some v => exact clampNat_mem h v

/-- Where the request's window is well formed, the stored settings lie in their ranges (R129). -/
theorem sound_storeSweep {q : SweepFields} {m : Monitor} (hw : ∀ w ∈ q.window, w.1 ≤ w.2 ∧ w.2 ≤ 1023)
    (h : m.sound) : (storeSweep q m).sound := by
  obtain ⟨⟨active, ⟨wf, wl, wd, wd', ws⟩, hqr, hr, hnq, hnq', hnr, hnr'⟩, quality⟩ := h
  have dwell := storeNat_mem q.dwell (by omega : 2 ≤ 255) ⟨wd, wd'⟩
  have shift := storeNat_mem q.shift (by omega : 0 ≤ 4) ⟨Nat.zero_le _, ws⟩
  have nq := storeNat_mem q.nq (by omega : 1 ≤ 15) ⟨hnq, hnq'⟩
  have nr := storeNat_mem q.nr (by omega : 1 ≤ 15) ⟨hnr, hnr'⟩
  have qt := storeNat_mem (old := m.qt) q.qt (by omega : 0 ≤ 251) (by omega)
  have rt := storeNat_mem (old := m.rt) q.rt (by omega : 4 ≤ 255) (by omega)
  have window : (q.window.getD (m.waiting.first, m.waiting.last)).1 ≤
      (q.window.getD (m.waiting.first, m.waiting.last)).2 ∧
      (q.window.getD (m.waiting.first, m.waiting.last)).2 ≤ 1023 := by
    cases hq : q.window with
    | none => exact ⟨wf, wl⟩
    | some w => exact hw w hq
  have waiting : SweepSettings.inRange (storeSweep q m).waiting := by
    simp only [storeSweep]
    split <;> exact ⟨window.1, window.2, dwell.1, dwell.2, shift.2⟩
  unfold storeSweep at waiting ⊢
  dsimp only at waiting ⊢
  split
  · next hc =>
    rw [if_pos hc] at waiting
    refine ⟨⟨active, waiting, ?_, ?_, nq.1, nq.2, nr.1, nr.2⟩, quality⟩
    · exact le_max_right _ _
    · exact max_le rt.2 (by simp only [storedQt]; omega)
  · next hc =>
    rw [if_neg hc] at waiting
    exact ⟨⟨active, waiting, hqr, hr, nq.1, nq.2, nr.1, nr.2⟩, quality⟩

theorem storeSweep_quality (q : SweepFields) (m : Monitor) : (storeSweep q m).quality = m.quality := by
  unfold storeSweep
  dsimp only
  split <;> rfl

theorem Part.regular_sweepSet (q : SweepFields) (p : Part) : Part.Regular p (Part.sweepSet q p).1 := by
  unfold Part.sweepSet
  split
  · exact .refl p
  · next h =>
    have hw : ∀ w ∈ q.window, w.1 ≤ w.2 ∧ w.2 ≤ 1023 := by simpa [Option.all_eq_true] using h
    exact p.regular_setMonitor _ (by rw [storeSweep_quality]) (sound_storeSweep hw)

theorem Part.regular_sweepRestart (q : Unit) (p : Part) : Part.Regular p (Part.sweepRestart q p).1 := by
  unfold Part.sweepRestart
  split
  · exact p.regular_setMonitor _ rfl id
  · exact p.regular_restart

theorem Part.regular_quarantineForce (q : RangeFields) (p : Part) : Part.Regular p (Part.quarantineForce q p).1 := by
  have slice : ∀ (r : Part) n, Part.Regular r (r.forceSlice n) := fun r n => by
    unfold Part.forceSlice
    split
    · exact .refl r
    · exact (Part.Regular.of_kept (Part.kept_quarantineVerdict true r n)).trans (Part.regular_clearCounts _ n)
  unfold Part.quarantineForce
  split
  · exact .refl p
  · exact (Part.Regular.foldl slice _ p).thenKept ((Part.kept_upkeepAll _ _).then₀ (Part.kept_progressBatch _))

theorem Part.regular_quarantineLift (q : RangeFields) (p : Part) : Part.Regular p (Part.quarantineLift q p).1 := by
  have slice : ∀ (r : Part) n, Part.Regular r (r.liftSlice n) := fun r n =>
    (Part.Regular.of_kept (Part.kept_liftVerdict true r n (.inl rfl))).trans (Part.regular_clearCounts _ n)
  unfold Part.quarantineLift
  split
  · exact .refl p
  · exact (Part.Regular.foldl slice _ p).thenKept (Part.kept_upkeepAll _ _)

theorem Part.regular_qualityRead (q : RangeFields) (p : Part) : Part.Regular p (Part.qualityRead q p).1 := by
  unfold Part.qualityRead
  split <;> exact .refl p

end Sys2Proof.Machine
end

section
/-! SUPPORT. The remaining owners: tenants, levels, events, the link's side of the part, and the plant-wide requests.
PLANT_SET, QUIET_ENTER and QUIET_LEAVE hold the invariants; each moves one of the split and QUIET and keeps the
other. -/

namespace Sys2Proof.Machine

/-! ### Tenants (chapter 2) -/

theorem Part.kept_define (q : DefineFields) (p : Part) : Part.Kept 0 p (Part.define q p).1 := by
  unfold Part.define
  split
  · exact .refl p
  split
  · exact .refl p
  · exact (p.kept_setTenants _ (by simp)).then₀ (Part.kept_markStale _ _)

theorem Part.kept_amendEffects (t : Nat) (before after : TenantRecord) (p : Part) :
    Part.Kept 0 p (p.amendEffects t before after) := by
  have upkept : Part.Kept 0 p (if before.margin != after.margin || before.maxProfile != after.maxProfile then
      p.upkeepAll after.grants else p) := by
    split
    · exact p.kept_upkeepAll _
    · exact .refl p
  unfold Part.amendEffects
  dsimp only
  by_cases hp : (before.polarity != after.polarity) = true
  · rw [if_pos hp]
    exact (upkept.then₀ (Part.kept_judgeLock _ _)).then₀ (Part.kept_progressBatch _)
  · rw [if_neg hp]
    exact upkept

theorem Part.kept_amend (q : AmendFields) (p : Part) : Part.Kept 0 p (Part.amend q p).1 := by
  unfold Part.amend
  split
  · exact (p.kept_setTenant _ _).then₀ (Part.kept_amendEffects _ _ _ _)
  · exact .refl p

theorem Part.kept_retire (t : Nat) (p : Part) : Part.Kept 0 p (Part.retire t p).1 := by
  unfold Part.retire
  split
  · split
    · exact p.kept_completeRetire t
    · exact .refl p
  · exact .refl p

theorem Part.regular_retireReleases (gs : List Nat) (p : Part) : Part.Regular p (Part.retireReleases gs p) := by
  refine Part.Regular.foldl (fun q g => ?_) gs p
  unfold Part.retireRelease
  dsimp only
  split
  · exact (q.regular_releaseGrant g false).trans (Part.regular_backlogRounds 24 _)
  · exact q.regular_releaseGrant g false

theorem Part.regular_forceRetire (t : Nat) (p : Part) : Part.Regular p (Part.forceRetire t p).1 := by
  unfold Part.forceRetire
  split
  · split
    · exact .of_kept (p.kept_completeRetire t)
    · exact ((Part.Regular.of_kept (p.kept_setTenant _ _)).trans (Part.regular_retireReleases _ _)).thenKept
        (Part.kept_progressBatch _)
  · exact .refl p

theorem Part.kept_faultMask (q : FaultMaskFields) (p : Part) : Part.Kept 0 p (Part.faultMask q p).1 := by
  unfold Part.faultMask
  split
  · next r _ _ =>
    dsimp only
    by_cases h : (r.mask &&& ~~~q.mask &&& r.sticky != 0) = true
    · simp only [if_pos h]
      exact (p.kept_setTenant _ _).then₀ (Part.kept_raise _ _ _)
    · simp only [if_neg h]
      exact p.kept_setTenant _ _
  · exact .refl p

theorem Part.kept_faultClear (q : FaultClearFields) (p : Part) : Part.Kept 0 p (Part.faultClear q p).1 := by
  unfold Part.faultClear
  split
  · exact p.kept_setTenant _ _
  · exact .refl p

theorem Part.regular_queryTenant (t : Nat) (p : Part) : Part.Regular p (Part.queryTenant t p).1 := by
  unfold Part.queryTenant
  split <;> exact .refl p

theorem Part.regular_readyChange (t : Nat) (level : Bool) (p : Part) :
    Part.Regular p (Part.readyChange t level p) := by
  have raised : ∀ q : Part, Part.Kept 0 q (if level && !p.ready.getD t false then q.raise t .readyRise else q) :=
    fun q => by
      split
      · exact q.kept_raise _ _
      · exact .refl q
  exact (p.regular_setReady t level).thenKept
    (((raised _).then₀ (Part.kept_judgeLock _ t)).then₀ (Part.kept_progressBatch _))

/-! ### Grants, levels and events -/

theorem Part.regular_queryGrant (g : Nat) (p : Part) : Part.Regular p (Part.queryGrant g p).1 := by
  unfold Part.queryGrant
  split <;> exact .refl p

theorem Part.kept_applyGrantLevel (p : Part) (g : Nat) (v : Int) (remedies : FaultSet) :
    Part.Kept 0 p (p.applyGrantLevel g v remedies).1 :=
  (p.kept_setLevel g v).then₀ (Part.kept_capTest _)

theorem Part.kept_changeLevel (q : LevelFields) (p : Part) : Part.Kept 0 p (Part.changeLevel q p).1 := by
  unfold Part.changeLevel
  split
  · dsimp only
    split
    · exact p.kept_applyGrantLevel _ _ _
    · split
      · exact (p.kept_setSticky _ _).then₀ (Part.kept_applyGrantLevel _ _ _ _)
      · exact p.kept_setSticky _ _
  · exact .refl p

theorem EventUnit.cleared_raised_length (u : EventUnit) : u.cleared.raised.length = u.raised.length := by
  simp [EventUnit.cleared]

theorem Part.regular_eventsRead (q : Unit) (p : Part) : Part.Regular p (Part.eventsRead q p).1 :=
  p.regular_setEvents _ p.events.cleared_raised_length rfl

theorem Part.regular_eventsMask (q : EventsMaskFields) (p : Part) : Part.Regular p (Part.eventsMask q p).1 :=
  p.regular_setEvents _ rfl (by simp [storeMasks])

/-! ### ENGINE_RESET (R175) -/

theorem Part.kept_resetJobs (p : Part) : Part.Kept 0 p p.resetJobs := by
  have job : ∀ (q : Part) id, Part.Kept 0 q (q.resetJob id) := fun q id => by
    unfold Part.resetJob
    split
    · exact .refl q
    · split
      · exact q.kept_finishByReset _
      · exact q.kept_abandon _ _
  exact (Part.Kept.foldl job _ p).then₀ (Part.kept_stopTurnarounds _)

theorem Part.regular_resetMonitor (p : Part) : Part.Regular p p.resetMonitor := by
  refine Part.Regular.trans (p.regular_setMonitor { p.monitor with
    quality := p.monitor.quality.map fun (q : QualityEntry) => { q with strikes := 0, clears := 0 }
    restartWaiting := false } (by simp) fun h => ⟨h.1, fun x hx => ?_⟩) (Part.regular_startSweep _)
  obtain ⟨y, hy, rfl⟩ := List.mem_map.mp hx
  exact QualityEntry.inRange_clearCounts (h.2 y hy)

theorem Part.regular_resetEvents (p : Part) : Part.Regular p p.resetEvents :=
  (p.regular_setEvents _ p.events.cleared_raised_length rfl).thenKept (Part.kept_raisePlant _ _)

theorem Part.regular_engineReset (p : Part) : Part.Regular p p.engineReset :=
  (((p.regular_setAlloc _).thenKept (((Part.kept_resetJobs _).then₀ (Part.kept_mapBatch _ _)).then₀
    (Part.kept_endBatch _ true))).trans (Part.regular_resetMonitor _)).trans (Part.regular_resetEvents _)

/-! ### The split (R2) -/

/-- The crossover slices of the new split are the ones made CROSSOVER, and the others stay sound. -/
theorem SliceEntry.sound_resplit (split n : Nat) {e : SliceEntry} (h : e.sound = true) :
    (e.resplit split n).sound = true ∧ ((e.resplit split n).use = .crossover ↔ split ≤ n ∧ n < split + 8) := by
  unfold SliceEntry.resplit
  split
  · next hc => exact ⟨rfl, by simpa using hc⟩
  · next hc =>
    have hout : ¬(split ≤ n ∧ n < split + 8) := by simpa using hc
    split
    · exact ⟨rfl, by simp [hout]⟩
    · next hu =>
      split
      · exact ⟨rfl, by simp [hout]⟩
      · exact ⟨h, by simp [hout, hu]⟩
    · next hu _ => exact ⟨h, iff_of_false hu hout⟩

theorem QualityEntry.inRange_resplit (old split n : Nat) {q : QualityEntry} (h : q.inRange) :
    (q.resplit old split n).inRange := by
  unfold QualityEntry.resplit
  split
  · exact QualityEntry.inRange_clearCounts h
  · exact h

/-- A change of split to a value in its range. -/
theorem Part.upholds_changeSplit (p : Part) {split : Nat} (lo : 24 ≤ split) (hi : split ≤ 192) :
    Part.Upholds p (Part.changeSplit split p) ∧ (Part.changeSplit split p).engine.quiet = p.engine.quiet := by
  unfold Part.changeSplit
  split
  · exact ⟨(Part.Regular.refl p).toUpholds, rfl⟩
  · have sweep := Part.regular_resumeSweep { p with
        split := split
        slices := p.slices.mapIdx fun n (e : SliceEntry) => e.resplit split n
        tenants := p.tenants.map (Tenant.resplit split)
        monitor := { p.monitor with
          quality := p.monitor.quality.mapIdx fun n (q : QualityEntry) => q.resplit p.split split n } }
    refine ⟨Part.Upholds.trans ?_ sweep.toUpholds, sweep.quiet⟩
    constructor
    case shaped => exact fun h => by simpa [Part.shaped] using h
    case jobs => exact id
    case mapped =>
      intro hs hm n hn
      have hlen : n < p.slices.length := by rw [hs.2.2.1]; exact hn
      have hslice : (p.slice n).resplit split n = (p.slices.mapIdx fun n (e : SliceEntry) => e.resplit split n).getD n
          ⟨.crossover, false, false⟩ := by
        simp [Part.slice, List.getD_eq_getElem?_getD, hlen]
      have hnew := SliceEntry.sound_resplit split n (hm n hn).1
      rw [hslice] at hnew
      exact hnew
    case inRange =>
      intro h
      obtain ⟨-, -, level, voice, video, data, monitor, top, quality, nextId⟩ := h
      refine ⟨lo, hi, level, voice, video, data, monitor, top, fun x hx => ?_, nextId⟩
      obtain ⟨i, hi, rfl⟩ := List.mem_mapIdx.mp hx
      exact QualityEntry.inRange_resplit _ _ _ (quality _ (List.getElem_mem hi))

theorem Part.upholds_storeSplit (p : Part) (v : Option Nat) :
    Part.Upholds p (p.storeSplit v) ∧ (p.storeSplit v).engine.quiet = p.engine.quiet := by
  cases v with
  | none => exact ⟨(Part.Regular.refl p).toUpholds, rfl⟩
  | some v =>
    have h := clampNat_mem (by omega : 24 ≤ 192) v
    exact p.upholds_changeSplit h.1 h.2

/-! ### The stored plant fields and the cap (R96, R98, R107) -/

theorem LevelController.inRange_store (q : PlantFields) {l : LevelController} (h : l.inRange) :
    (l.store q).inRange := by
  obtain ⟨cap, cap', slope, pivot, park, drop, snr⟩ := h
  have hcap := storeNat_mem q.cap (by omega : 1 ≤ 4194304) ⟨cap, cap'⟩
  exact ⟨hcap.1, hcap.2, (storeNat_mem q.slope (Nat.zero_le _) ⟨Nat.zero_le _, slope⟩).2,
    (storeNat_mem q.pivot (Nat.zero_le _) ⟨Nat.zero_le _, pivot⟩).2,
    (storeNat_mem q.parkTime (Nat.zero_le _) ⟨Nat.zero_le _, park⟩).2,
    (storeNat_mem q.fillDrop (Nat.zero_le _) ⟨Nat.zero_le _, drop⟩).2,
    (storeNat_mem q.assumedSnr (Nat.zero_le _) ⟨Nat.zero_le _, snr⟩).2⟩

theorem Timings.inRange_store (q : TimingFields) {t : Timings} (h : t.inRange) : (t.store q).inRange := by
  obtain ⟨setup, strobe, strobe', lock, hold, turnaround⟩ := h
  have hstrobe := storeNat_mem q.strobeMin (by omega : 1 ≤ 1000) ⟨strobe, strobe'⟩
  exact ⟨(storeNat_mem q.setup (Nat.zero_le _) ⟨Nat.zero_le _, setup⟩).2, hstrobe.1, hstrobe.2,
    (storeNat_mem q.lockMax (Nat.zero_le _) ⟨Nat.zero_le _, lock⟩).2,
    (storeNat_mem q.hold (Nat.zero_le _) ⟨Nat.zero_le _, hold⟩).2,
    (storeNat_mem q.turnaround (Nat.zero_le _) ⟨Nat.zero_le _, turnaround⟩).2⟩

theorem Part.regular_storePlant (q : PlantFields) (p : Part) : Part.Regular p (Part.storePlant q p) where
  shaped := id
  jobs := id
  mapped _ := id
  inRange h := by
    obtain ⟨lo, hi, level, voice, video, data, rest⟩ := h
    exact ⟨lo, hi, LevelController.inRange_store q level, Timings.inRange_store q.voice voice,
      Timings.inRange_store q.video video, Timings.inRange_store q.data data, rest⟩
  split := rfl
  quiet := rfl

/-- Parking that ends on a slice makes no other slice a crossover slice. -/
theorem Part.use_endParking_ne {p : Part} {n i : Nat} (h : (p.slice i).use ≠ .crossover) :
    ((p.endParking n).slice i).use ≠ .crossover := by
  have hslices : (p.endParking n).slices = (p.setSlice n ⟨.free, false, false⟩).slices := by
    unfold Part.endParking
    rcases (p.setSlice n ⟨.free, false, false⟩).capTest_eq with hc | ⟨-, -, hc⟩
    · rw [hc]
    · rw [hc]
      rfl
  rw [Part.slice_congr hslices, Part.slice_setSlice]
  split
  · simp
  · exact h

theorem Part.kept_unparkDown (p : Part) : Part.Kept 0 p p.unparkDown := by
  have run : ∀ (ns : List Nat) (q : Part), (∀ n ∈ ns, (q.slice n).use ≠ .crossover) → Part.Kept 0 q
      (ns.foldl (fun q n => if q.level.cap < q.composite then q.endParking n else q) q) := by
    intro ns
    induction ns with
    | nil => exact fun q _ => .refl q
    | cons n ns ih =>
      intro q hq
      rw [List.foldl_cons]
      split
      · exact (q.kept_endParking n (hq n (by simp))).then₀
          (ih _ fun m hm => Part.use_endParking_ne (hq m (by simp [hm])))
      · exact ih q fun m hm => hq m (by simp [hm])
  refine run _ p fun n hn hu => ?_
  simp [hu] at hn

theorem Part.kept_overCapTest (p : Part) : Part.Kept 0 p p.overCapTest := by
  unfold Part.overCapTest
  split
  · exact .refl p
  · refine Part.Kept.then₀ ?_ (Part.kept_unparkDown _)
    split
    · exact .refl p
    · exact (p.kept_setOverCap true).then₀ (Part.kept_raisePlant _ _)

theorem Part.upholds_applyPlant (q : PlantFields) (p : Part) :
    Part.Upholds p (Part.applyPlant q p) ∧ (Part.applyPlant q p).engine.quiet = p.engine.quiet := by
  obtain ⟨hsplit, hquiet⟩ := p.upholds_storeSplit q.split
  have remeasured : ∀ (a : Part), Part.Kept 0 a
      (if a.level.assumedSnr != p.level.assumedSnr then a.upkeepAll a.unmeasuredGrants else a) := fun a => by
    split
    · exact a.kept_upkeepAll _
    · exact .refl a
  have tested : ∀ (a b : Part), Part.Kept 0 b (if powerChanged p.level a.level then b.overCapTest else b) :=
    fun a b => by
      split
      · exact b.kept_overCapTest
      · exact .refl b
  have stored : Part.Regular (p.storeSplit q.split) (Part.applyPlant q p) :=
    (Part.regular_storePlant q _).thenKept (((remeasured _).then₀ (tested _ _)).then₀ (Part.kept_capTest _))
  exact ⟨hsplit.trans stored.toUpholds, stored.quiet.trans hquiet⟩

theorem Part.upholds_plantSet (q : PlantFields) (p : Part) :
    Part.Upholds p (Part.plantSet q p).1 ∧ (Part.plantSet q p).1.engine.quiet = p.engine.quiet := by
  unfold Part.plantSet
  split
  · exact ⟨(Part.Regular.refl p).toUpholds, rfl⟩
  · exact p.upholds_applyPlant q

/-! ### QUIET (R120, R121) -/

theorem Part.upholds_enterQuiet (q : Unit) (p : Part) :
    Part.Upholds p (Part.enterQuiet q p).1 ∧ (Part.enterQuiet q p).1.split = p.split := by
  unfold Part.enterQuiet
  split
  · exact ⟨(Part.Regular.refl p).toUpholds, rfl⟩
  · dsimp only
    split
    · split
      · exact ⟨(p.upholds_setQuiet true).trans (Part.regular_afterDwell _ _).toUpholds,
          (Part.regular_afterDwell (p.setQuiet true) _).split⟩
      · exact ⟨p.upholds_setQuiet true, rfl⟩
    · exact ⟨p.upholds_setQuiet true, rfl⟩

theorem Part.kept_resumeChannel (p : Part) (channel : Nat) : Part.Kept 0 p (p.resumeChannel channel) := by
  unfold Part.resumeChannel
  split
  · exact .refl p
  split
  · exact .refl p
  split
  · split
    · exact p.kept_beginStrobe _
    · exact .refl p
  · split
    · exact p.kept_finish _
    · exact .refl p
  · dsimp only
    split
    · exact (p.kept_mapJob _ _).then₀ (Part.kept_beginHold _ _)
    · exact p.kept_mapJob _ _

theorem Part.upholds_leaveQuiet (q : Unit) (p : Part) :
    Part.Upholds p (Part.leaveQuiet q p).1 ∧ (Part.leaveQuiet q p).1.split = p.split := by
  unfold Part.leaveQuiet
  split
  · exact ⟨(Part.Regular.refl p).toUpholds, rfl⟩
  · have resumed : Part.Regular (p.setQuiet false)
        (([0, 1, 2, 3].foldl Part.resumeChannel (p.setQuiet false)).resumeSweep.progressBatch.startJob) :=
      ((Part.Regular.of_kept (Part.Kept.foldl Part.kept_resumeChannel _ _)).trans
        (Part.regular_resumeSweep _)).thenKept ((Part.kept_progressBatch _).then₀ (Part.kept_startJob _))
    exact ⟨(p.upholds_setQuiet false).trans resumed.toUpholds, resumed.split⟩

end Sys2Proof.Machine
end

section
/-! SUPPORT. The commands one by one: what `exec` keeps of the invariants, of the split and of QUIET. -/

namespace Sys2Proof

/-- The commands that may change the split or the QUIET flag (R2, R18, R120, R121). -/
def Instr.resettles : Instr → Bool
  | .powerOn | .plantSet _ _ | .quietEnter _ _ | .quietLeave _ _ => true
  | _ => false

end Sys2Proof

namespace Sys2Proof.Machine

/-! ### Commands that reach the part by its queues only -/

theorem State.regular_transaction {s t : State} {cmd : Byte} {bytes : List Byte}
    (h : s.transaction cmd bytes = .next t) : Part.Regular s.part t.part := by
  have hp : t.part = s.part := by
    unfold State.transaction at h
    split at h
    · cases h; rfl
    dsimp only at h
    split at h
    · cases h; rfl
    split at h
    · split at h <;> (cases h; rfl)
    · cases h; rfl
  rw [hp]
  exact .refl _

theorem State.regular_arrive {s t : State} {cmd : Instr} {tag kind : Byte} {fields : Option PlacementFields}
    (h : s.arrive cmd tag kind fields = .next t) : Part.Regular s.part t.part := by
  unfold State.arrive at h
  dsimp only at h
  split at h
  · cases h
    exact .refl _
  · split at h
    · cases h
      exact .refl _
    · cases h
      exact s.part.regular_setAlloc _

theorem State.regular_withdraw (s : State) (l : Link) (detached : Bool) (tag named : Byte) :
    Part.Regular s.part (s.withdraw l detached tag named).part := by
  unfold State.withdraw
  split
  · exact s.part.regular_setAlloc _
  · exact .refl _

theorem State.regular_cancel {s t : State} {tag : Byte} {q : Payload Byte} (h : execCancel tag q s = .next t) :
    Part.Regular s.part t.part := by
  unfold execCancel at h
  cases q with
  | none =>
    cases h
    exact .refl _
  | some named =>
    cases h
    exact s.regular_withdraw _ _ _ _

theorem State.regular_deliverBuilt (s : State) : Part.Regular s.part s.deliverBuilt.part := by
  unfold State.deliverBuilt
  split
  · exact .refl _
  · exact s.part.regular_setAlloc _

theorem State.regular_engineReset {s t : State} {tag : Byte} {q : Payload Unit}
    (h : execEngineReset tag q s = .next t) : Part.Regular s.part t.part := by
  unfold execEngineReset at h
  cases q with
  | none =>
    cases h
    exact .refl _
  | some q =>
    cases h
    exact s.part.regular_engineReset

/-! ### The dispatch -/

/-- Every command but POWER_ON, PLANT_SET and the two of QUIET keeps the invariants, the split and QUIET. -/
theorem exec_regular {c : Instr} {s t : State} (hc : c.resettles = false) (h : exec c s = .next t) :
    Part.Regular s.part t.part := by
  cases c with
  | powerOn | plantSet | quietEnter | quietLeave => cases hc
  | linkReset => cases h; exact s.part.regular_setAlloc _
  | linkResetReleased => cases h; exact .refl _
  | send | fetch | statusRead => exact State.regular_transaction h
  | readyInputChange => exact State.regular_act (Part.regular_readyChange _ _) h
  | tenantDefine => exact State.regular_request (fun q p => .of_kept (p.kept_define q)) h
  | tenantAmend => exact State.regular_request (fun q p => .of_kept (p.kept_amend q)) h
  | tenantRetire => exact State.regular_request (fun q p => .of_kept (p.kept_retire q)) h
  | tenantRetireForce => exact State.regular_serve (Part.regular_forceRetire _) h
  | tenantQuery => exact State.regular_request Part.regular_queryTenant h
  | faultMask => exact State.regular_request (fun q p => .of_kept (p.kept_faultMask q)) h
  | faultClear => exact State.regular_request (fun q p => .of_kept (p.kept_faultClear q)) h
  | grantAsk | grantMove | grantResize => exact State.regular_arrive h
  | grantAskTake => exact State.regular_act Part.regular_takeAsk h
  | grantMoveTake => exact State.regular_act Part.regular_takeMove h
  | grantResizeTake => exact State.regular_act Part.regular_takeResize h
  | relocationAttempt => exact State.regular_act Part.regular_takeAttempt h
  | replyBuilt => cases h; exact s.regular_deliverBuilt
  | grantRelease => exact State.regular_request Part.regular_release h
  | grantQuery => exact State.regular_request Part.regular_queryGrant h
  | cancel => exact State.regular_cancel h
  | sliceReserve => exact State.regular_request (fun q p => .of_kept (p.kept_reserve q)) h
  | sliceUnreserve => exact State.regular_request (fun q p => .of_kept (p.kept_unreserve q)) h
  | mapRead => exact State.regular_request Part.regular_readMap h
  | grantLevel => exact State.regular_request (fun q p => .of_kept (p.kept_changeLevel q)) h
  | sweepSet => exact State.regular_request Part.regular_sweepSet h
  | sweepRestart => exact State.regular_request Part.regular_sweepRestart h
  | sweepRestartTakesEffect m =>
    exact State.regular_act (Part.regular_restartTakesEffect (Nat.le_of_lt_succ m.isLt)) h
  | sweepResume => exact State.regular_act Part.regular_resumeSweep h
  | quarantineForce => exact State.regular_request Part.regular_quarantineForce h
  | quarantineLift => exact State.regular_request Part.regular_quarantineLift h
  | qualityRead => exact State.regular_request Part.regular_qualityRead h
  | lineupPush => exact State.regular_request Part.regular_lineupPush h
  | lineupPop => exact State.regular_request Part.regular_lineupPop h
  | phaseARelease => exact State.regular_act Part.regular_phaseARelease h
  | lineupItemIssue => exact State.regular_act Part.regular_issueHead h
  | lineupRotate => exact State.regular_request Part.regular_lineupRotate h
  | lineupDrop => exact State.regular_request (fun q p => .of_kept (p.kept_lineupDrop q)) h
  | lineupStatus => exact State.regular_request (fun _ p => .refl p) h
  | eventsRead => exact State.regular_request Part.regular_eventsRead h
  | eventsMask => exact State.regular_request Part.regular_eventsMask h
  | plantQuery => exact State.regular_request (fun _ p => .refl p) h
  | engineReset => exact State.regular_engineReset h
  | jobStart => exact State.regular_act (fun p => .of_kept p.kept_startJob) h
  | setupEnd => exact State.regular_act (Part.regular_endSetup _) h
  | strobeMinimumElapsed => exact State.regular_act (Part.regular_endStrobeMinimum _) h
  | lockWaitTimeout => exact State.regular_act (Part.regular_endLockWait _) h
  | holdEnd => exact State.regular_act (Part.regular_endHold _) h
  | retireBacklogRelease => exact State.regular_act Part.regular_releaseBacklog h
  | turnaroundExpiry => exact State.regular_act (Part.regular_expireTurnaround _) h
  | parkExpiry => exact State.regular_act (Part.regular_expirePark _) h
  | dwellEnd m => exact State.regular_act (Part.regular_dwellEnd (Nat.le_of_lt_succ m.isLt)) h

end Sys2Proof.Machine
end

section
/-! SUPPORT. The part right after the power-on reset, field by field, and its invariants. -/

namespace Sys2Proof.Machine

/-- A table filled with the value that stands for an absent entry reads as that value everywhere. -/
theorem getD_replicate_default {α : Type} (n i : Nat) (a : α) : (List.replicate n a).getD i a = a := by
  rw [List.getD_eq_getElem?_getD, List.getElem?_getD_replicate_default_eq]

/-- The map at power-on: the crossover of the split 64, and FREE without marks elsewhere (R18). -/
theorem Part.slice_powerOn {n : Nat} (h : n < 1024) :
    Part.powerOn.slice n = ⟨if 64 ≤ n ∧ n < 72 then .crossover else .free, false, false⟩ := by
  have hread : Part.powerOn.slice n = SliceEntry.powerOn[n]?.getD ⟨.crossover, false, false⟩ :=
    List.getD_eq_getElem?_getD
  rw [hread, SliceEntry.powerOn]
  simp only [List.getElem?_append, List.getElem?_replicate, List.length_replicate]
  by_cases lo : n < 64
  · simp only [lo, Nat.not_le.mpr lo, if_true, false_and, if_false, Option.getD_some]
  by_cases mid : n < 72
  · have eight : n - 64 < 8 := by omega
    simp only [lo, mid, eight, Nat.not_lt.mp lo, and_self, if_true, if_false, Option.getD_some]
  · have eight : ¬n - 64 < 8 := by omega
    have above : n - 64 - 8 < 952 := by omega
    simp only [lo, mid, eight, above, and_false, if_true, if_false, Option.getD_some]

theorem Part.grant_powerOn (g : Nat) : Part.powerOn.grant g = none := getD_replicate_default 96 g none

theorem Part.tenants_powerOn (t : Nat) : Part.powerOn.tenants.getD t ⟨0, none⟩ = ⟨0, none⟩ :=
  getD_replicate_default 16 t _

theorem Part.mapped_powerOn : Part.powerOn.mapped := by
  intro n hn
  rw [Part.slice_powerOn hn]
  split
  · next h => exact ⟨rfl, fun _ => h, fun _ => rfl⟩
  · next h => exact ⟨rfl, nofun, fun hc => absurd hc h⟩

theorem Part.shaped_powerOn : Part.powerOn.shaped := by
  have slices : Part.powerOn.slices.length = 1024 := by
    simp only [Part.powerOn, SliceEntry.powerOn, List.length_append, List.length_replicate]
  exact ⟨List.length_replicate, List.length_replicate, slices, List.length_replicate, List.length_replicate,
    List.length_replicate, List.length_replicate, List.length_replicate, List.length_replicate⟩

theorem Part.inRange_powerOn : Part.powerOn.inRange := by
  have quality : ∀ q ∈ Part.powerOn.monitor.quality, q.inRange := fun q hq => by
    rw [List.eq_of_mem_replicate hq]
    decide
  have settings : 24 ≤ Part.powerOn.split ∧ Part.powerOn.split ≤ 192 ∧ Part.powerOn.level.inRange ∧
      Part.powerOn.engine.voice.inRange ∧ Part.powerOn.engine.video.inRange ∧ Part.powerOn.engine.data.inRange ∧
      Part.powerOn.monitor.inRange ∧ Part.powerOn.store.top < 4 := by decide
  obtain ⟨lo, hi, level, voice, video, data, monitor, top⟩ := settings
  exact ⟨lo, hi, level, voice, video, data, monitor, top, quality, by decide⟩

theorem Part.jobsBounded_powerOn : Part.powerOn.jobsBounded := by decide

/-- Without a PARKED slice there is no fill in the composite (R89). -/
theorem Part.fillsWeight_of_unparked (p : Part) (n : Nat) {es : List SliceEntry}
    (h : ∀ e ∈ es, ∀ left fill, e.use ≠ .parked left fill) : p.fillsWeight n es = 0 := by
  induction es generalizing n with
  | nil => rfl
  | cons e es ih =>
    have rest := ih (n + 1) fun x hx => h x (by simp [hx])
    unfold Part.fillsWeight
    split
    · next left fill hu => exact absurd hu (h e (by simp) left fill)
    · simpa using rest

theorem Part.composite_powerOn : Part.powerOn.composite = 0 := by
  have grants : ∀ g, Part.powerOn.contribution g = 0 := fun g => by
    simp [Part.contribution, Part.grant_powerOn]
  have fills : Part.powerOn.fillsWeight 0 Part.powerOn.slices = 0 := by
    refine Part.fillsWeight_of_unparked _ _ fun e he left fill => ?_
    have huse : e = ⟨.free, false, false⟩ ∨ e = ⟨.crossover, false, false⟩ := by
      simp only [Part.powerOn, SliceEntry.powerOn, List.mem_append, List.mem_replicate] at he
      tauto
    rcases huse with rfl | rfl <;> simp
  unfold Part.composite
  rw [fills, List.map_congr_left fun g _ => grants g]
  simp

theorem State.atn_reset : State.reset.atn = false := by decide

/-- POWER_ON leaves the pins and the waiting commands (assumption 3). -/
theorem exec_powerOn (s : State) : exec .powerOn s = .next ⟨s.pending, { State.reset.link with held := s.link.held },
    { State.reset.part with ready := s.part.ready }⟩ := rfl

/-- The invariants hold after POWER_ON; the ready inputs keep their count. -/
theorem Part.upholds_powerOn (p : Part) : Part.Upholds p { Part.powerOn with ready := p.ready } where
  shaped h := ⟨h.1, Part.shaped_powerOn.2⟩
  jobs _ := Part.jobsBounded_powerOn
  mapped _ _ := Part.mapped_powerOn
  inRange _ := Part.inRange_powerOn

/-! ### Every command, and every step -/

theorem exec_plantSet {tag : Byte} {q : Payload PlantFields} {s t : State} (h : exec (.plantSet tag q) s = .next t) :
    Part.Upholds s.part t.part ∧ t.part.engine.quiet = s.part.engine.quiet :=
  State.request_related (R := fun p q => Part.Upholds p q ∧ q.engine.quiet = p.engine.quiet)
    (fun p => ⟨(Part.Regular.refl p).toUpholds, rfl⟩) (fun h k => ⟨h.1.trans k.toUpholds, k.quiet.trans h.2⟩)
    (fun q p => p.upholds_plantSet q) h

/-- The two QUIET requests have the same frame: the invariants and the split. -/
theorem exec_quiet_request {s t : State} {cmd : Instr} {tag kind : Byte} {q : Payload Unit}
    {owner : Unit → Part → Part × Reply} (ho : ∀ a p, Part.Upholds p (owner a p).1 ∧ (owner a p).1.split = p.split)
    (h : s.serve cmd tag kind (served q owner) = .next t) :
    Part.Upholds s.part t.part ∧ t.part.split = s.part.split :=
  State.request_related (R := fun p q => Part.Upholds p q ∧ q.split = p.split)
    (fun p => ⟨(Part.Regular.refl p).toUpholds, rfl⟩) (fun h k => ⟨h.1.trans k.toUpholds, k.split.trans h.2⟩) ho h

theorem exec_quietEnter {tag : Byte} {q : Payload Unit} {s t : State} (h : exec (.quietEnter tag q) s = .next t) :
    Part.Upholds s.part t.part ∧ t.part.split = s.part.split :=
  exec_quiet_request (fun q p => p.upholds_enterQuiet q) h

theorem exec_quietLeave {tag : Byte} {q : Payload Unit} {s t : State} (h : exec (.quietLeave tag q) s = .next t) :
    Part.Upholds s.part t.part ∧ t.part.split = s.part.split :=
  exec_quiet_request (fun q p => p.upholds_leaveQuiet q) h

theorem exec_upholds {c : Instr} {s t : State} (h : exec c s = .next t) : Part.Upholds s.part t.part := by
  cases hc : c.resettles with
  | false => exact (exec_regular hc h).toUpholds
  | true =>
    cases c with
    | powerOn => cases h; exact s.part.upholds_powerOn
    | plantSet => exact (exec_plantSet h).1
    | quietEnter => exact (exec_quietEnter h).1
    | quietLeave => exact (exec_quietLeave h).1
    | _ => cases hc

/-- A step is a command on the rest of the queue, or a millisecond. -/
theorem step_upholds {s t : State} (h : step s = .next t) : Part.Upholds s.part t.part := by
  unfold step at h
  split at h
  · cases h
    exact (s.part.regular_elapse 1).toUpholds
  · next c rest _ => exact exec_upholds (s := { s with pending := rest }) h

end Sys2Proof.Machine
end

section
/-! The statements about what every step keeps: O4, O5, O6 and O8. -/

namespace Sys2Proof.Machine

/-! ### The first free job id (R103) -/

/-- Fewer jobs than ids: some id, counting upward from `start`, is held by no job. -/
theorem exists_free_id (js : List Job) (start : Nat) (h : js.length ≤ 24) :
    ∃ i < 256, ∀ j ∈ js, j.id ≠ (start + i) % 256 := by
  by_contra hall
  push Not at hall
  have hsub : (List.range 256).map (fun i => (start + i) % 256) ⊆ js.map (·.id) := fun x hx => by
    obtain ⟨i, hi, rfl⟩ := List.mem_map.mp hx
    obtain ⟨j, hj, hid⟩ := hall i (List.mem_range.mp hi)
    exact List.mem_map.mpr ⟨j, hj, hid⟩
  have hnodup : ((List.range 256).map fun i => (start + i) % 256).Nodup :=
    List.Nodup.map_on (fun i hi k hk he => by
      simp only [List.mem_range] at hi hk
      omega) List.nodup_range
  have hlen := (hnodup.subperm hsub).length_le
  simp only [List.length_map, List.length_range] at hlen
  omega

/-- The id that a job takes is the first that no job holds, counting upward from the counter and wrapping. -/
theorem firstFreeId_spec (js : List Job) (start : Nat) (h : js.length ≤ 24) :
    ∃ k < 256, firstFreeId js start = (start + k) % 256 ∧ (∀ j ∈ js, j.id ≠ firstFreeId js start) ∧
      ∀ i < k, ∃ j ∈ js, j.id = (start + i) % 256 := by
  unfold firstFreeId
  rw [List.find?_map]
  cases hf : (List.range 256).find? ((fun i => js.all fun j => j.id != i) ∘ fun i => (start + i) % 256) with
  | none =>
    obtain ⟨i, hi, hfree⟩ := exists_free_id js start h
    rw [List.find?_range_eq_none] at hf
    exact absurd (hf i hi) (by simpa using hfree)
  | some k =>
    obtain ⟨hfree, hk, hbelow⟩ := List.find?_range_eq_some.mp hf
    exact ⟨k, List.mem_range.mp hk, rfl, by simpa using hfree, fun i hi => by simpa using hbelow i hi⟩

/-- Settles O4: the invariants of every step, and the choice of a job's id. -/
theorem tablesKeepTheirSizes : Obligations.TablesKeepTheirSizes := by
  refine ⟨fun s t h => ⟨(step_upholds h).shaped, (step_upholds h).jobs⟩, fun js start hl _ => ?_⟩
  obtain ⟨k, hk, hid, hfree, hbelow⟩ := firstFreeId_spec js start hl
  exact ⟨hfree, by rw [hid]; exact Nat.mod_lt _ (by decide), k, hk, hid, hbelow⟩

/-- Settles O5: every command keeps the map's form, PLANT_SET by rebuilding the crossover of its split. -/
theorem mapKeepsItsForm : Obligations.MapKeepsItsForm := fun _ _ hs hm h => (step_upholds h).mapped hs hm

/-- Settles O6: every command keeps the ranges, a request by clamping what it stores. -/
theorem settingsStayInRange : Obligations.SettingsStayInRange := fun _ _ hr h => (step_upholds h).inRange hr

/-- Settles O8: every other command is regular, and the requests excepted by one clause keep what the other names. -/
theorem quietAndSplitAreGuarded : Obligations.QuietAndSplitAreGuarded := by
  intro c s t h
  cases hc : c.resettles with
  | false => exact ⟨fun _ _ => (exec_regular hc h).quiet, fun _ _ => (exec_regular hc h).split⟩
  | true =>
    cases c with
    | powerOn => exact ⟨fun _ hne => absurd rfl hne, fun _ hne => absurd rfl hne⟩
    | plantSet tag q => exact ⟨fun _ _ => (exec_plantSet h).2, fun hne _ => absurd rfl (hne tag q)⟩
    | quietEnter tag q => exact ⟨fun hne _ => absurd rfl (hne tag q).1, fun _ _ => (exec_quietEnter h).2⟩
    | quietLeave tag q => exact ⟨fun hne _ => absurd rfl (hne tag q).2, fun _ _ => (exec_quietLeave h).2⟩
    | _ => cases hc

end Sys2Proof.Machine
end

section
/-! The statements about the map: O34, O35 and O36. -/

namespace Sys2Proof.Machine

/-! ### Letting go (R7): one equation for each row of the table -/

theorem Part.letGoSlice_of_claimed {g : Nat} {level : Option Int} {p : Part} {n : Nat}
    (h : (p.slice n).use = .claimed g) : Part.letGoSlice g level p n = p.setSlice n (p.slice n).released := by
  simp [Part.letGoSlice, h]

theorem Part.letGoSlice_of_guard {g : Nat} {level : Option Int} {p : Part} {n : Nat}
    (h : (p.slice n).use = .guard g none) : Part.letGoSlice g level p n = p.setSlice n (p.slice n).released := by
  simp [Part.letGoSlice, h]

/-- A GRANTED slice with the impaired mark, or of the return band, does not park. -/
theorem Part.letGoSlice_of_granted {g : Nat} {level : Option Int} {p : Part} {n : Nat}
    (h : (p.slice n).use = .granted g) (hn : (p.slice n).impaired = true ∨ n < p.split) :
    Part.letGoSlice g level p n = p.setSlice n (p.slice n).released := by
  simp only [Part.letGoSlice, h, bne_self_eq_false, Bool.false_eq_true, if_false, Bool.or_eq_true, decide_eq_true_eq]
  rw [if_pos hn]

theorem Part.letGoSlice_of_forward {g : Nat} {level : Option Int} {p : Part} {n : Nat}
    (h : (p.slice n).use = .granted g) (hm : (p.slice n).impaired = false) (hn : p.split ≤ n) :
    Part.letGoSlice g level p n = p.parkOrFree n (level.getD 0) := by
  simp [Part.letGoSlice, h, hm, Nat.not_lt.mpr hn]

theorem Part.letGoSlice_of_first_guard {g k : Nat} {level : Option Int} {p : Part} {n : Nat}
    (h : (p.slice n).use = .guard g (some k)) :
    Part.letGoSlice g level p n = p.setSlice n { p.slice n with use := .guard k none } := by
  simp [Part.letGoSlice, h]

theorem Part.letGoSlice_of_second_guard {g k : Nat} {level : Option Int} {p : Part} {n : Nat} (hk : k ≠ g)
    (h : (p.slice n).use = .guard k (some g)) :
    Part.letGoSlice g level p n = p.setSlice n { p.slice n with use := .guard k none } := by
  simp [Part.letGoSlice, h, hk]

/-- What another grant holds, and what no grant holds, is left. -/
theorem Part.letGoSlice_of_not_held {g : Nat} {level : Option Int} {p : Part} {n : Nat}
    (h : (p.slice n).heldBy g = false) : Part.letGoSlice g level p n = p := by
  unfold SliceEntry.heldBy at h
  cases hu : (p.slice n).use with
  | guard a b => cases b <;> simp_all [Part.letGoSlice]
  | _ => simp_all [Part.letGoSlice]

/-- Only the slice itself changes. -/
theorem Part.slice_letGoSlice_ne (g : Nat) (level : Option Int) (p : Part) (n : Nat) {k : Nat} (hk : k ≠ n) :
    (Part.letGoSlice g level p n).slice k = p.slice k := by
  have park : (p.parkOrFree n (level.getD 0)).slice k = p.slice k := by
    unfold Part.parkOrFree
    dsimp only
    split <;> simp [hk]
  unfold Part.letGoSlice
  dsimp only
  split
  · split <;> simp [hk]
  · split
    · rfl
    · split
      · simp [hk]
      · exact park
  · split <;> simp [hk]
  · split
    · simp [hk]
    · split <;> simp [hk]
  · rfl

theorem Part.slice_parkOrFree {p : Part} {n : Nat} (hn : n < p.slices.length) (level : Int) :
    let parked : SliceEntry := ⟨.parked p.level.parkTime (p.fillLevel level), false, false⟩
    (p.parkOrFree n level).slice n =
      if p.level.parkTime ≠ 0 ∧ p.fits (p.setSlice n parked).composite = true then parked
      else ⟨.free, false, false⟩ := by
  dsimp only
  unfold Part.parkOrFree
  dsimp only
  split
  · next h => rw [if_pos (by simpa using h), Part.slice_setSlice_self _ _ _ hn]
  · next h => rw [if_neg (by simpa using h), Part.slice_setSlice_self _ _ _ hn]

/-- Settles O34, row by row of R7's table. -/
theorem letGoTable : Obligations.LetGoTable := by
  intro p g n level hn
  have self : ∀ e, (p.setSlice n e).slice n = e := fun e => p.slice_setSlice_self n e hn
  refine ⟨fun k hk => p.slice_letGoSlice_ne g level n hk, Part.letGoSlice_of_not_held, ?_, ?_, ?_, ?_, ?_, ?_⟩
  · rintro (h | h)
    · rw [Part.letGoSlice_of_claimed h, self, SliceEntry.released]
    · rw [Part.letGoSlice_of_guard h, self, SliceEntry.released]
  · intro h hm
    rw [Part.letGoSlice_of_granted h (.inl hm), self, SliceEntry.released, if_pos hm]
  · intro h hm hr
    rw [Part.letGoSlice_of_granted h (.inr hr), self, SliceEntry.released, hm, if_neg (by decide)]
  · intro h hm hf
    rw [Part.letGoSlice_of_forward h hm hf]
    exact Part.slice_parkOrFree hn _
  · intro k h
    rw [Part.letGoSlice_of_first_guard h, self]
  · intro k hk h
    rw [Part.letGoSlice_of_second_guard hk h, self]

/-! ### Reservation (R15, R16) -/

/-- A slice of the grid is an entry of the map's list. -/
theorem Part.getElem?_slices {p : Part} {n : Nat} (h : n < p.slices.length) : p.slices[n]? = some (p.slice n) := by
  simp [Part.slice, List.getD_eq_getElem?_getD, h]

/-- The map's list after the change of a range. -/
theorem Part.getElem?_mapSlices (p : Part) (f : SliceEntry → SliceEntry) (q : RangeFields) {n : Nat}
    (h : n < p.slices.length) : (p.mapSlices f (rangeSlices q)).slices[n]? =
      some (if q.first ≤ n ∧ n < q.first + q.count then f (p.slice n) else p.slice n) := by
  rw [Part.getElem?_slices (by rwa [(p.mapSlices_frame f _).2]), Part.slice_mapSlices p f (nodup_rangeSlices q)]
  simp [mem_rangeSlices, h]

theorem SliceEntry.reservable_iff {e : SliceEntry} :
    e.reservable = false ↔ e.use ≠ .free ∧ e.use ≠ .quarantined ∧ ∀ left fill, e.use ≠ .parked left fill := by
  obtain ⟨u, i, q⟩ := e
  cases u <;> simp [SliceEntry.reservable]

theorem SliceEntry.reserve_eq (e : SliceEntry) :
    e.reserve = if e.use = .quarantined then ⟨.reserved, true, e.pinned⟩ else ⟨.reserved, false, false⟩ := by
  obtain ⟨u, i, q⟩ := e
  cases u <;> rfl

theorem SliceEntry.unreserve_eq (e : SliceEntry) : e.unreserve = if e.use = .reserved then e.released else e := by
  obtain ⟨u, i, q⟩ := e
  cases u <;> rfl

theorem Part.capTest_tenants (p : Part) : p.capTest.tenants = p.tenants := by
  rcases p.capTest_eq with h | ⟨-, -, h⟩
  · rw [h]
  · rw [h]
    rfl

theorem Part.capTest_grants (p : Part) : p.capTest.grants = p.grants := by
  rcases p.capTest_eq with h | ⟨-, -, h⟩
  · rw [h]
  · rw [h]
    rfl

/-- The request's conflict: a slice of its range that may not be reserved. -/
theorem all_reservable_iff {p : Part} {q : RangeFields} :
    (rangeSlices q).all (fun n => (p.slice n).reservable) = true ↔
      ¬∃ n, q.first ≤ n ∧ n < q.first + q.count ∧ (p.slice n).use ≠ .free ∧ (p.slice n).use ≠ .quarantined ∧
        ∀ left fill, (p.slice n).use ≠ .parked left fill := by
  rw [List.all_eq_true]
  constructor
  · rintro h ⟨n, lo, hi, hu⟩
    have := h n (mem_rangeSlices.mpr ⟨lo, hi⟩)
    rw [SliceEntry.reservable_iff.mpr hu] at this
    cases this
  · intro h n hn
    obtain ⟨lo, hi⟩ := mem_rangeSlices.mp hn
    by_contra hr
    exact h ⟨n, lo, hi, SliceEntry.reservable_iff.mp (by simpa using hr)⟩

/-- SLICE_RESERVE that is not refused (R15). -/
theorem Part.reserve_of_ok {p : Part} {q : RangeFields} (hok : rangeOk 64 q = true) (hheld : p.alloc.restoreHold = false)
    (hall : (rangeSlices q).all (fun n => (p.slice n).reservable) = true) : Part.reserve q p =
      (({ p with slices := (p.mapSlices SliceEntry.reserve (rangeSlices q)).slices } : Part).capTest, doneWith []) := by
  rw [← (p.mapSlices_frame SliceEntry.reserve (rangeSlices q)).1]
  simp only [Part.reserve, hok, hheld, hall, Bool.not_true, Bool.false_eq_true, if_false]

/-- SLICE_UNRESERVE that is not refused (R16). -/
theorem Part.unreserve_of_ok {p : Part} {q : RangeFields} (hok : rangeOk 64 q = true) : Part.unreserve q p =
    ({ p with slices := (p.mapSlices SliceEntry.unreserve (rangeSlices q)).slices },
      doneWith [byte ((rangeSlices q).countP fun n => (p.slice n).use == .reserved)]) := by
  rw [← (p.mapSlices_frame SliceEntry.unreserve (rangeSlices q)).1]
  simp only [Part.unreserve, hok, Bool.not_true, Bool.false_eq_true, if_false]

/-- A well-formed SLICE_RESERVE goes to its owner. -/
theorem exec_sliceReserve (tag : Byte) (q : RangeFields) (s : State) :
    exec (.sliceReserve tag (some q)) s = s.serve (.sliceReserve tag (some q)) tag 0x26 (Part.reserve q) := rfl

theorem exec_sliceUnreserve (tag : Byte) (q : RangeFields) (s : State) :
    exec (.sliceUnreserve tag (some q)) s = s.serve (.sliceUnreserve tag (some q)) tag 0x27 (Part.unreserve q) := rfl

/-- Settles O35: the refusals in the order of R15, and the maps that the two requests leave. -/
theorem reservationTakesAndFrees : Obligations.ReservationTakesAndFrees := by
  intro s tag q hs
  have hlen : s.part.slices.length = 1024 := hs.2.2.1
  have okIff := rangeOk_iff (most := 64) (q := q)
  refine ⟨fun ha => ?_, fun ha => ?_⟩
  · rw [exec_sliceReserve]
    refine ⟨fun hok => ?_, fun hok hheld => ?_, fun hok hheld hc => ?_, fun hok hheld hc => ?_⟩
    · exact State.serve_of_kept _ _ ha (by simp [Part.reserve, mt okIff.mp hok])
    · exact State.serve_of_kept _ _ ha (by simp [Part.reserve, okIff.mpr hok, hheld])
    · have hall := mt all_reservable_iff.mp (not_not.mpr hc)
      exact State.serve_of_kept _ _ ha (by simp only [Part.reserve, okIff.mpr hok, hheld, hall, Bool.not_true,
        Bool.false_eq_true, Bool.not_false, if_false, if_true])
    · refine ⟨_, State.serve_of_same _ _ ha (Part.reserve_of_ok (okIff.mpr hok) hheld (all_reservable_iff.mpr hc))
        (Part.capTest_tenants _) (Part.capTest_grants _), (s.part.mapSlices_frame _ _).2.trans hlen, fun n hn => ?_⟩
      rw [Part.getElem?_mapSlices _ _ _ (by rwa [hlen]), SliceEntry.reserve_eq]
  · rw [exec_sliceUnreserve]
    refine ⟨fun hok => ?_, fun hok => ?_⟩
    · exact State.serve_of_kept _ _ ha (by simp [Part.unreserve, mt okIff.mp hok])
    · refine ⟨_, State.serve_of_same _ _ ha (Part.unreserve_of_ok (okIff.mpr hok)) rfl rfl,
        (s.part.mapSlices_frame _ _).2.trans hlen, fun n hn => ?_⟩
      rw [Part.getElem?_mapSlices _ _ _ (by rwa [hlen]), SliceEntry.unreserve_eq, ← ite_and]
      rfl

/-! ### Timers (R9, R115) -/

/-- Settles O36: with OVER_CAP clear the cap's test does nothing, and neither timer touches tenants or grants. -/
theorem timersRunOut : Obligations.TimersRunOut := by
  intro s
  refine ⟨fun n left fill hu hc => ?_, fun t left ht => ?_⟩
  · have hn : n < s.part.slices.length := by
      by_contra hge
      simp [Part.slice, List.getD_eq_getElem?_getD, List.getElem?_eq_none (Nat.le_of_not_lt hge)] at hu
    have hfreed : Part.expirePark n s.part = (s.part.elapse left).setSlice n ⟨.free, false, false⟩ := by
      simp only [Part.expirePark, hu, Part.endParking]
      exact Part.capTest_of_clear hc
    refine ⟨?_, Part.slice_setSlice_self _ _ _ (by simpa using hn), fun m hm => ?_⟩
    · have htest := Part.commitTest_of_same (p := s.part) (q := (s.part.elapse left).setSlice n ⟨.free, false, false⟩)
        rfl rfl
      show s.act (Part.expirePark n) = _
      rw [State.act_eq, hfreed, htest]
      rfl
    · exact (Part.slice_setSlice_ne _ _ _ _ hm).trans (Part.slice_elapse _ _ _)
  · have hstopped : Part.expireTurnaround t s.part = (s.part.elapse left).setTurnaround t none := by
      simp only [Part.expireTurnaround, ht]
    have htest := Part.commitTest_of_same (p := s.part) (q := (s.part.elapse left).setTurnaround t none) rfl rfl
    show s.act (Part.expireTurnaround t) = _
    rw [State.act_eq, hstopped, htest]
    rfl

end Sys2Proof.Machine
end

section
/-! The statements about a step and about power-on: O1 and O3. -/

namespace Sys2Proof.Machine

/-! ### A millisecond (R9, R115, R120, R126) -/

theorem SliceEntry.elapse_of_parked {e : SliceEntry} {left : Nat} {fill : Int} (ms : Nat)
    (h : e.use = .parked left fill) : e.elapse ms = { e with use := .parked (left - ms) fill } := by
  simp [SliceEntry.elapse, h]

theorem SliceEntry.elapse_of_unparked {e : SliceEntry} (ms : Nat) (h : ∀ left fill, e.use ≠ .parked left fill) :
    e.elapse ms = e := by
  unfold SliceEntry.elapse
  split
  · next left fill hu => exact absurd hu (h left fill)
  · rfl

theorem Run.elapse_eq (ms : Nat) (r : Run) : r.elapse ms =
    if r.phase = .strobe then { r with strobeLeft := r.strobeLeft - ms, lockLeft := r.lockLeft.map (· - ms) }
    else { r with left := r.left - ms } := by
  cases hp : r.phase <;> simp [Run.elapse, hp]

theorem Part.turnaround_elapse (p : Part) (ms t : Nat) :
    (p.elapse ms).engine.turnaround.getD t none = (p.engine.turnaround.getD t none).map (· - ms) := by
  simp only [Part.elapse, List.getD_eq_getElem?_getD, List.getElem?_map]
  cases p.engine.turnaround[t]? <;> rfl

/-- QUIET pauses the phases. -/
theorem Part.jobs_elapse_quiet {p : Part} (h : p.engine.quiet = true) (ms : Nat) :
    (p.elapse ms).engine.jobs = p.engine.jobs := by
  simp [Part.elapse, h]

theorem Part.jobs_elapse {p : Part} (h : p.engine.quiet = false) (ms : Nat) :
    (p.elapse ms).engine.jobs = p.engine.jobs.map fun j => { j with run := j.run.map (Run.elapse ms) } := by
  simp [Part.elapse, h]

/-- Settles O1: the two arms of `step`, the second by what a millisecond makes of each timer. -/
theorem stepTakesFrontCommand : Obligations.StepTakesFrontCommand := by
  intro s
  refine ⟨fun c rest h => by simp only [step, h], fun h => ⟨s.part.elapse 1, by simp only [step, h], rfl, by simp,
    fun n left fill hu => ?_, fun n hu => ?_, s.part.turnaround_elapse 1, fun hq => Part.jobs_elapse_quiet hq 1,
    fun hq => ?_⟩⟩
  · rw [Part.slice_elapse, SliceEntry.elapse_of_parked 1 hu]
  · rw [Part.slice_elapse, SliceEntry.elapse_of_unparked 1 hu]
  · rw [Part.jobs_elapse hq, funext (Run.elapse_eq 1)]

/-! ### Power-on -/

/-- Settles O3, block by block. -/
theorem powerOnState : Obligations.PowerOnState := by
  have slots : ∀ n, Part.powerOn.store.slot n = .empty := fun n => getD_replicate_default 4 n _
  have masks : ∀ t, t < 16 → Part.powerOn.events.masks.getD t 0 = 0b1011111111#10 := by decide
  refine ⟨⟨rfl, fun n hn => ?_, Part.composite_powerOn, fun t _ => ?_, Part.grant_powerOn, rfl, rfl⟩,
    ⟨rfl, rfl, rfl, fun t => getD_replicate_default 16 t none, rfl, rfl, rfl⟩,
    ⟨rfl, rfl, rfl, rfl, rfl, rfl, rfl, rfl, rfl, fun n => getD_replicate_default 1024 n _⟩,
    ⟨slots, rfl, rfl, rfl, rfl, fun t => getD_replicate_default 16 t 0, rfl, masks, rfl⟩,
    ⟨rfl, rfl, rfl, rfl, rfl, State.atn_reset⟩,
    ⟨Part.shaped_powerOn, Part.mapped_powerOn, Part.inRange_powerOn, Part.jobsBounded_powerOn,
      ⟨Nat.zero_le _, List.nodup_nil⟩, rfl⟩, exec_powerOn⟩
  · have hslice : State.reset.part.slice n = _ := Part.slice_powerOn hn
    rw [hslice]
    exact ⟨rfl, rfl, rfl⟩
  · have htenant : State.reset.part.tenants.getD t ⟨0, none⟩ = ⟨0, none⟩ := Part.tenants_powerOn t
    exact ⟨congrArg Tenant.record htenant, congrArg Tenant.generation htenant⟩

end Sys2Proof.Machine
end

section
/-! The UNDER_COMMIT test and TENANT_DEFINE: O16 and O17, with the checks of R22 that every request for a tenant shares. -/

namespace Sys2Proof.Machine

/-! ### The UNDER_COMMIT test (R37) -/

theorem Part.meetsCommit_iff {p : Part} {t : Nat} :
    p.meetsCommit t = true ↔ ∃ r, p.tenant t = some r ∧ r.committed ≤ p.delivered t := by
  simp [Part.meetsCommit, Option.any_eq_true]

theorem Part.underCommit_iff {p : Part} {t : Nat} :
    p.underCommit t = true ↔ ∃ r, p.tenant t = some r ∧ r.status ≠ .retiring ∧ p.delivered t < r.committed := by
  simp [Part.underCommit, Option.any_eq_true]

/-- What raising an event leaves in a source of the table. -/
theorem Part.raised_raise (p : Part) (k : Nat) (e : TenantEvent) {t : Nat} (ht : t < p.events.raised.length) :
    (p.raise k e).events.raised.getD t 0 =
      if k = t then p.events.raised.getD t 0 ||| e.bit else p.events.raised.getD t 0 := by
  simp only [Part.raise_events, List.getD_eq_getElem?_getD, List.getElem?_modify]
  by_cases hk : k = t
  · subst hk
    simp [ht]
  · simp [hk]

/-- The test over some of the tenants, each named once: a source in the table gains UNDER_COMMIT where its tenant is
among them and has turned. -/
theorem Part.raised_foldl_underCommit (turned : Nat → Bool) {t : Nat} (ts : List Nat) (hts : ts.Nodup) (x : Part)
    (ht : t < x.events.raised.length) :
    (ts.foldl (fun y k => if turned k then y.raise k .underCommit else y) x).events.raised.getD t 0 =
      if t ∈ ts ∧ turned t = true then x.events.raised.getD t 0 ||| 0x040 else x.events.raised.getD t 0 := by
  induction ts generalizing x with
  | nil => simp
  | cons k ts ih =>
    obtain ⟨hk, hts⟩ := List.nodup_cons.mp hts
    rw [List.foldl_cons]
    by_cases hturned : turned k = true
    · rw [if_pos hturned, ih hts _ (by simpa using ht), Part.raised_raise x k _ ht]
      by_cases e : k = t
      · subst e
        simp [hk, hturned, TenantEvent.bit]
      · simp [e, Ne.symm e]
    · rw [if_neg hturned, ih hts _ ht]
      by_cases e : t = k
      · subst e
        simp [hturned]
      · simp [e]

/-- Settles O16: the frame of the test, and its fold over the sixteen sources. -/
theorem underCommitTurns : Obligations.UnderCommitTurns := by
  intro p q hlen
  constructor
  · obtain ⟨u, hu, -⟩ := p.commitTest_frame q
    rw [hu]
  · intro t ht
    have hfold := Part.raised_foldl_underCommit (fun k => p.meetsCommit k && q.underCommit k) (List.range 16)
      List.nodup_range q (hlen ▸ ht)
    refine hfold.trans ?_
    simp only [List.mem_range, ht, true_and, Bool.and_eq_true, Part.meetsCommit_iff, Part.underCommit_iff]

/-- An act that gives one tenant a new record and leaves the grants turns that tenant or none. -/
theorem Part.commitTest_of_setTenant {p q : Part} {t : Nat} {r after : TenantRecord} (ht : t < 16)
    (hr : p.tenant t = some r) (htenants : q.tenants = (p.setTenant t after).tenants) (hgrants : q.grants = p.grants) :
    p.commitTest q = if r.committed ≤ p.delivered t ∧ after.status ≠ .retiring ∧ p.delivered t < after.committed
      then q.raise t .underCommit else q := by
  have hq : q.tenant t = some after := (Part.tenant_congr htenants t).trans (Part.tenant_setTenant_self after hr)
  rw [Part.commitTest_of_one p q t ht fun k _ hk => Part.no_turn_setTenant hk htenants hgrants]
  simp only [Bool.and_eq_true, Part.meetsCommit_iff, Part.underCommit_iff, hr, hq, Option.some.injEq,
    exists_eq_left', Part.delivered_congr hgrants]

/-- An act that gives one tenant a new record with the same committed capacity raises no UNDER_COMMIT. -/
theorem Part.commitTest_of_committed {p q : Part} {t : Nat} {r after : TenantRecord} (ht : t < 16)
    (hr : p.tenant t = some r) (hc : after.committed = r.committed)
    (htenants : q.tenants = (p.setTenant t after).tenants) (hgrants : q.grants = p.grants) : p.commitTest q = q := by
  rw [Part.commitTest_of_setTenant ht hr htenants hgrants, if_neg (by omega)]

/-! ### The checks of R22 -/

theorem Part.tenantRefusal_of_range {p : Part} {t : Nat} (h : 16 ≤ t) : p.tenantRefusal t = some .badField := by
  simp [Part.tenantRefusal, h]

theorem Part.tenantRefusal_of_empty {p : Part} {t : Nat} (ht : t < 16) (h : p.tenant t = none) :
    p.tenantRefusal t = some .noTenant := by
  simp [Part.tenantRefusal, Nat.not_le.mpr ht, h]

theorem Part.tenantRefusal_of_retiring {p : Part} {t : Nat} {r : TenantRecord} (ht : t < 16) (h : p.tenant t = some r)
    (hr : r.status = .retiring) : p.tenantRefusal t = some .gone := by
  simp [Part.tenantRefusal, Nat.not_le.mpr ht, h, hr]

theorem Part.tenantRefusal_of_standing {p : Part} {t : Nat} {r : TenantRecord} (ht : t < 16) (h : p.tenant t = some r)
    (hr : r.status ≠ .retiring) : p.tenantRefusal t = none := by
  simp [Part.tenantRefusal, Nat.not_le.mpr ht, h, hr]

/-! ### TENANT_DEFINE (R23, R24) -/

theorem Part.define_of_bad {p : Part} {q : DefineFields} (h : 16 ≤ q.tenant ∨ (q.cls = .video ∧ q.dirs ≠ .forward)) :
    Part.define q p = (p, refuse .badField) := by
  simp [Part.define, h]

theorem define_allowed {q : DefineFields} (ht : q.tenant < 16) (hv : q.cls = .video → q.dirs = .forward) :
    ¬(16 ≤ q.tenant ∨ (q.cls = .video ∧ q.dirs ≠ .forward)) := by
  rintro (hge | ⟨hc, hd⟩)
  · omega
  · exact hd (hv hc)

theorem Part.define_of_defined {p : Part} {q : DefineFields} (ht : q.tenant < 16)
    (hv : q.cls = .video → q.dirs = .forward) (h : (p.tenant q.tenant).isSome) :
    Part.define q p = (p, refuse .busy) := by
  have hok := define_allowed ht hv
  simp only [Part.define, Bool.or_eq_true, Bool.and_eq_true, decide_eq_true_eq, beq_iff_eq, bne_iff_ne, hok, h,
    if_false, if_true]

theorem Part.define_of_empty {p : Part} {q : DefineFields} (ht : q.tenant < 16)
    (hv : q.cls = .video → q.dirs = .forward) (h : p.tenant q.tenant = none) :
    Part.define q p =
      (({ p with tenants := p.tenants.set q.tenant ⟨(p.generation q.tenant + 1) % 256,
          some (storeContract q.contract (TenantRecord.fresh q p.split))⟩ } : Part).markStale q.tenant,
        ⟨.done, contractClamped q.contract (TenantRecord.fresh q p.split),
          [byte ((p.generation q.tenant + 1) % 256)]⟩) := by
  have hok := define_allowed ht hv
  simp only [Part.define, Bool.or_eq_true, Bool.and_eq_true, decide_eq_true_eq, beq_iff_eq, bne_iff_ne, hok, h,
    Option.isSome_none, Bool.false_eq_true, if_false]

/-- Another tenant's record survives a new entry of the table. -/
theorem Part.tenant_of_set {p q : Part} {t k : Nat} {x : Tenant} (h : q.tenants = p.tenants.set t x) (hk : k ≠ t) :
    q.tenant k = p.tenant k := by
  simp [Part.tenant, h, List.getD_eq_getElem?_getD, Ne.symm hk]

/-- A tenant whose record stands, and whose delivered capacity does, does not turn. -/
theorem Part.no_turn_of_same {p q : Part} {t : Nat} (ht : q.tenant t = p.tenant t)
    (hd : p.delivered t ≤ q.delivered t) : (p.meetsCommit t && q.underCommit t) = false :=
  Part.no_turn_of_kept hd fun r r' h h' => by
    rw [ht, h] at h'
    cases h'
    exact le_rfl

/-- A tenant that was EMPTY before an act meets no commitment that the act could break. -/
theorem Part.no_turn_of_empty {p q : Part} {t : Nat} (h : p.tenant t = none) :
    (p.meetsCommit t && q.underCommit t) = false := by
  simp [Part.meetsCommit, h]

/-- A tenant that is EMPTY or RETIRING after an act does not turn by it. -/
theorem Part.no_turn_of_ended {p q : Part} {t : Nat} (h : ∀ r, q.tenant t = some r → r.status = .retiring) :
    (p.meetsCommit t && q.underCommit t) = false := by
  rw [Bool.and_eq_false_iff, Bool.eq_false_iff (b := q.underCommit t), ne_eq, Part.underCommit_iff]
  exact .inr fun ⟨r, hr, hs, _⟩ => hs (h r hr)

theorem exec_tenantDefine (tag : Byte) (q : DefineFields) (s : State) :
    exec (.tenantDefine tag (some q)) s = s.serve (.tenantDefine tag (some q)) tag 0x10 (Part.define q) := rfl

/-- Settles O17: the two refusals, and the record of a tenant that was EMPTY. -/
theorem defineSetsUpTenant : Obligations.DefineSetsUpTenant := by
  intro s tag q ha
  simp only [exec_tenantDefine]
  refine ⟨fun hbad => State.serve_of_kept _ _ ha (Part.define_of_bad hbad), fun ht hv => ⟨fun hdef => ?_, fun hnone => ?_⟩⟩
  · exact State.serve_of_kept _ _ ha (Part.define_of_defined ht hv hdef)
  · rw [State.serve_of_awaits _ _ ha, Part.define_of_empty ht hv hnone, Part.commitTest_of_no_turn]
    · rfl
    · intro k _
      by_cases hk : k = q.tenant
      · subst hk
        exact Part.no_turn_of_empty hnone
      · exact Part.no_turn_of_same (Part.tenant_of_set rfl hk) (Part.delivered_congr rfl k).ge

end Sys2Proof.Machine
end

section
/-! The masks and sticky faults of a tenant: O19. -/

namespace Sys2Proof.Machine

/-- A request whose effect turns no relation. -/
theorem State.serve_of_no_turn {s : State} {cmd : Instr} {tag : Byte} (kind : Byte) {owner : Part → Part × Reply}
    {q : Part} {a : Reply} (h : s.awaits cmd tag) (ho : owner s.part = (q, a)) (ht : s.part.commitTest q = q) :
    s.serve cmd tag kind owner = .next (s.answers cmd tag kind a q) := by
  rw [State.serve_of_awaits _ _ h, ho, ht]

/-- A request whose owner gives one tenant a new record with the same committed capacity, and leaves the grants. -/
theorem State.serve_of_committed {s : State} {cmd : Instr} {tag : Byte} (kind : Byte) {owner : Part → Part × Reply}
    {q : Part} {a : Reply} {t : Nat} {r after : TenantRecord} (h : s.awaits cmd tag) (ho : owner s.part = (q, a))
    (ht : t < 16) (hr : s.part.tenant t = some r) (hc : after.committed = r.committed)
    (htenants : q.tenants = (s.part.setTenant t after).tenants) (hgrants : q.grants = s.part.grants) :
    s.serve cmd tag kind owner = .next (s.answers cmd tag kind a q) :=
  State.serve_of_no_turn kind h ho (Part.commitTest_of_committed ht hr hc htenants hgrants)

/-- A HELD tenant with no class both unmasked and sticky is ACTIVE again; any other record stands (R35). -/
theorem TenantRecord.settle_eq (r : TenantRecord) : r.settle =
    { r with status := if r.status = .held ∧ r.sticky &&& ~~~r.mask = 0 then .active else r.status } := by
  unfold TenantRecord.settle
  simp only [Bool.and_eq_true, beq_iff_eq]
  split <;> rfl

/-- A tenant that was not RETIRING is not RETIRING after the release from HELD. -/
theorem TenantRecord.settle_status_ne {r : TenantRecord} (h : r.status ≠ .retiring) : r.settle.status ≠ .retiring := by
  rw [TenantRecord.settle_eq]
  dsimp only
  split
  · decide
  · exact h

/-- The state byte of a tenant that is not RETIRING (11.3). -/
theorem byte_tenantStateCode {r : TenantRecord} (h : r.status ≠ .retiring) :
    byte (tenantStateCode (some r)) = if r.status = .held then 2 else 1 := by
  cases hs : r.status with
  | active => simp [tenantStateCode, hs, byte]
  | held => simp [tenantStateCode, hs, byte]
  | retiring => exact absurd hs h

/-- FAULT_MASK that withdraws the masking of a sticky class (R34). -/
theorem Part.faultMask_of_holds {p : Part} {q : FaultMaskFields} {r : TenantRecord} (ht : q.tenant < 16)
    (hr : p.tenant q.tenant = some r) (hs : r.status ≠ .retiring) (h : r.mask &&& ~~~q.mask &&& r.sticky ≠ 0) :
    Part.faultMask q p =
      ((p.setTenant q.tenant { r with mask := q.mask, status := .held }).raise q.tenant .faultHeld, doneWith [2]) := by
  simp only [Part.faultMask, Part.tenantRefusal_of_standing ht hr hs, hr, bne_iff_ne, ne_eq, h, not_false_eq_true, if_true]
  rfl

/-- FAULT_MASK that withdraws no such masking (R34, R35). -/
theorem Part.faultMask_of_not_holds {p : Part} {q : FaultMaskFields} {r : TenantRecord} (ht : q.tenant < 16)
    (hr : p.tenant q.tenant = some r) (hs : r.status ≠ .retiring) (h : r.mask &&& ~~~q.mask &&& r.sticky = 0) :
    let after := ({ r with mask := q.mask } : TenantRecord).settle
    Part.faultMask q p = (p.setTenant q.tenant after, doneWith [if after.status = .held then 2 else 1]) := by
  dsimp only
  rw [← byte_tenantStateCode (TenantRecord.settle_status_ne (by exact hs))]
  simp only [Part.faultMask, Part.tenantRefusal_of_standing ht hr hs, hr, bne_iff_ne, ne_eq, h, not_true_eq_false,
    if_false]

/-- FAULT_CLEAR (R35). -/
theorem Part.faultClear_of_standing {p : Part} {q : FaultClearFields} {r : TenantRecord} (ht : q.tenant < 16)
    (hr : p.tenant q.tenant = some r) (hs : r.status ≠ .retiring) :
    let after := ({ r with sticky := r.sticky &&& ~~~(q.faults.getD 0xF) } : TenantRecord).settle
    Part.faultClear q p =
      (p.setTenant q.tenant after, doneWith [if after.status = .held then 2 else 1, faultByte after.sticky]) := by
  dsimp only
  rw [← byte_tenantStateCode (TenantRecord.settle_status_ne (by exact hs))]
  simp only [Part.faultClear, Part.tenantRefusal_of_standing ht hr hs, hr]

theorem exec_faultMask (tag : Byte) (q : FaultMaskFields) (s : State) :
    exec (.faultMask tag (some q)) s = s.serve (.faultMask tag (some q)) tag 0x14 (Part.faultMask q) := rfl

theorem exec_faultClear (tag : Byte) (q : FaultClearFields) (s : State) :
    exec (.faultClear tag (some q)) s = s.serve (.faultClear tag (some q)) tag 0x15 (Part.faultClear q) := rfl

/-- Settles O19: a withdrawn masking holds or not, and a record that keeps its commitment turns no relation. -/
theorem faultMaskHoldsAndClearReleases : Obligations.FaultMaskHoldsAndClearReleases := by
  intro s tag r
  refine ⟨fun q ha ht hr hs => ?_, fun q ha ht hr hs => ?_⟩
  · rw [exec_faultMask]
    by_cases h : r.mask &&& ~~~q.mask &&& r.sticky = 0
    · have hserve := State.serve_of_committed 0x14 ha (Part.faultMask_of_not_holds ht hr hs h) ht hr
        (by rw [TenantRecord.settle_eq]) rfl rfl
      rw [hserve, TenantRecord.settle_eq]
      simp only [ne_eq, h, not_true_eq_false, if_false]
    · have hserve := State.serve_of_committed (after := { r with mask := q.mask, status := .held }) 0x14 ha
        (Part.faultMask_of_holds ht hr hs h) ht hr rfl rfl rfl
      rw [hserve]
      simp only [ne_eq, h, not_false_eq_true, if_true]
  · have hserve := State.serve_of_committed 0x15 ha (Part.faultClear_of_standing ht hr hs) ht hr
      (by rw [TenantRecord.settle_eq]) rfl rfl
    rw [exec_faultClear, hserve, TenantRecord.settle_eq]
    rfl

end Sys2Proof.Machine
end

section
/-! The ready inputs and the end of STROBE: O58, with the judgement of a lock wait that an amend shares. -/

namespace Sys2Proof.Machine

/-- A search finds the one member that it looks for. -/
theorem find?_eq_some_of_unique {α : Type} {l : List α} {a : α} {f : α → Bool} (ha : a ∈ l) (hf : f a = true)
    (huniq : ∀ b ∈ l, f b = true → b = a) : l.find? f = some a := by
  cases h : l.find? f with
  | none => exact absurd hf (List.find?_eq_none.mp h a ha)
  | some b => rw [huniq b (List.mem_of_find?_eq_some h) (List.find?_some h)]

/-! ### The jobs of a part -/

/-- The job of this id runs its cycle as `run`; everything else stands. -/
def Part.withRun (p : Part) (id : Nat) (run : Run) : Part :=
  { p with engine := { p.engine with
    jobs := p.engine.jobs.map fun k => if k.id = id then { k with run := some run } else k } }

/-- A job is the only one of the list with its id. -/
def Part.holdsJob (p : Part) (j : Job) : Prop := j ∈ p.engine.jobs ∧ ∀ k ∈ p.engine.jobs, k.id = j.id → k = j

/-- A change of the job of this id is a change of that job. -/
theorem Part.mapJob_eq_withRun {p : Part} {j : Job} (h : p.holdsJob j) {f : Job → Job} {run : Run}
    (hf : f j = { j with run := some run }) : p.mapJob j.id f = p.withRun j.id run := by
  obtain ⟨-, huniq⟩ := h
  have hjobs : (p.engine.jobs.map fun k => if k.id == j.id then f k else k) =
      p.engine.jobs.map fun k => if k.id = j.id then { k with run := some run } else k := by
    refine List.map_congr_left fun k hk => ?_
    by_cases e : k.id = j.id
    · rw [huniq k hk e]
      simp [hf]
    · simp [e]
  simp only [Part.mapJob, Part.setJobs, hjobs]
  rfl

/-- A job that runs as it is given leaves the part. -/
theorem Part.withRun_self {p : Part} {j : Job} (h : p.holdsJob j) {run : Run} (hr : j.run = some run) :
    p.withRun j.id run = p := by
  have hjobs : (p.engine.jobs.map fun k => if k.id = j.id then { k with run := some run } else k) = p.engine.jobs := by
    refine (List.map_congr_left fun k hk => ?_).trans (List.map_id _)
    by_cases e : k.id = j.id
    · rw [h.2 k hk e, if_pos rfl, ← hr]
      rfl
    · rw [if_neg e]
      rfl
  simp only [Part.withRun, hjobs]

/-- The job of an id, after it has taken a run. -/
theorem Part.job_withRun {p : Part} {j : Job} (h : p.holdsJob j) (run : Run) :
    (p.withRun j.id run).job j.id = some { j with run := some run } := by
  have hfirst : ∀ js : List Job, j ∈ js → (∀ k ∈ js, k.id = j.id → k = j) →
      (js.map fun k => if k.id = j.id then { k with run := some run } else k).find? (fun k => k.id == j.id) =
        some { j with run := some run } := by
    intro js
    induction js with
    | nil => simp
    | cons k js ih =>
      intro hmem huniq
      by_cases e : k.id = j.id
      · simp [huniq k (by simp) e]
      · have hne : k ≠ j := fun hk => e (by rw [hk])
        have hmem' : j ∈ js := (List.mem_cons.mp hmem).resolve_left (Ne.symm hne)
        simpa [e] using ih hmem' fun i hi => huniq i (by simp [hi])
  exact hfirst _ h.1 h.2

/-- The run of a cycle whose HOLD begins (R108). -/
def Run.held (r : Run) : Run := { r with phase := .hold, left := r.timings.hold }

/-- HOLD begins in full, with a hold time that is not 0 (R112). -/
theorem Part.beginHold_of_run {p : Part} {j : Job} {r : Run} (h : p.holdsJob j) (hr : j.run = some r)
    (hhold : r.timings.hold ≠ 0) :
    p.beginHold j.id = p.withRun j.id r.held := by
  have hmap := Part.mapJob_eq_withRun h
    (f := fun k => { k with run := k.run.map fun r => { r with phase := .hold, left := r.timings.hold } })
    (run := r.held) (by simp [hr, Run.held])
  have hleft : (r.held.left == 0) = false := beq_eq_false_iff_ne.mpr hhold
  simp only [Part.beginHold, hmap, Part.job_withRun h, Option.any_some, hleft, Bool.and_false, Bool.false_eq_true,
    if_false]

/-! ### Time (R9, R115, R120) -/

/-- The job of a channel after time has passed outside QUIET. -/
theorem Part.holdsJob_elapse {p : Part} {j : Job} {r : Run} (h : p.holdsJob j) (hq : p.engine.quiet = false)
    (hr : j.run = some r) (ms : Nat) : (p.elapse ms).holdsJob { j with run := some (r.elapse ms) } := by
  have hj : ({ j with run := some (r.elapse ms) } : Job) = { j with run := j.run.map (Run.elapse ms) } := by rw [hr]; rfl
  rw [hj, Part.holdsJob, Part.jobs_elapse hq]
  refine ⟨List.mem_map_of_mem h.1, fun k hk e => ?_⟩
  obtain ⟨i, hi, rfl⟩ := List.mem_map.mp hk
  rw [h.2 i hi e]

theorem Part.mem_of_jobIn {p : Part} {c : Nat} {j : Job} (h : p.jobIn c = some j) : j ∈ p.engine.jobs :=
  List.mem_of_find?_eq_some h

/-- `ms` milliseconds of STROBE. -/
theorem Run.elapse_of_strobe {r : Run} (h : r.phase = .strobe) (ms : Nat) :
    r.elapse ms = { r with strobeLeft := r.strobeLeft - ms, lockLeft := r.lockLeft.map (· - ms) } := by
  rw [Run.elapse_eq, if_pos h]

theorem Run.timings_elapse (ms : Nat) (r : Run) : (r.elapse ms).timings = r.timings := by
  rw [Run.elapse_eq]
  split <;> rfl

/-- HOLD begins in full after time has passed outside QUIET. -/
theorem Part.beginHold_elapse {p q : Part} {j : Job} {r : Run} (h : p.holdsJob j) (hq : p.engine.quiet = false)
    (hr : j.run = some r) (hhold : r.timings.hold ≠ 0) {ms : Nat} (hengine : q.engine = (p.elapse ms).engine) :
    q.beginHold j.id = q.withRun j.id (r.elapse ms).held := by
  have hj := Part.holdsJob_elapse h hq hr ms
  rw [Part.holdsJob, ← hengine] at hj
  exact Part.beginHold_of_run (j := { j with run := some (r.elapse ms) }) hj rfl (by rwa [Run.timings_elapse])

/-! ### The judgement of a lock wait (R26, R27, R111) -/

theorem Part.asserted_congr {p q : Part} {t : Nat} (ht : q.tenants = p.tenants) (hr : q.ready = p.ready) :
    q.asserted t = p.asserted t := by
  simp [Part.asserted, Part.tenant_congr ht, hr]

theorem Part.jobTenant_congr {p q : Part} {j : Job} (h : q.grants = p.grants) : q.jobTenant j = p.jobTenant j := by
  simp [Part.jobTenant, Part.grant_congr h]

/-- Whether STROBE ends is told by its phase, its minimum, its lock wait and its tenant's input. -/
theorem Part.strobeSatisfied_iff {p : Part} {j : Job} {t : Nat} (ht : p.jobTenant j = some t) (r : Run) :
    p.strobeSatisfied j r = true ↔
      r.phase = .strobe ∧ r.strobeLeft = 0 ∧ (r.lockLeft = none ∨ p.asserted t = true) := by
  simp [Part.strobeSatisfied, ht, and_assoc]

/-- QUIET pauses the lock wait. -/
theorem Part.judgeLock_of_quiet {p : Part} (h : p.engine.quiet = true) (t : Nat) : p.judgeLock t = p := by
  simp [Part.judgeLock, h]

/-- No STROBE of the tenant ends: each has some of its minimum left, or waits for an input that is not asserted. -/
theorem Part.judgeLock_of_waiting {p : Part} {t : Nat}
    (h : ∀ j ∈ p.engine.jobs, p.jobTenant j = some t → ∀ r, j.run = some r → r.phase = .strobe →
      r.strobeLeft ≠ 0 ∨ (p.asserted t = false ∧ r.lockLeft.isSome)) : p.judgeLock t = p := by
  have hnone : p.engine.jobs.find? (fun j => p.jobTenant j == some t && j.run.any (p.strobeSatisfied j)) = none := by
    refine List.find?_eq_none.mpr fun j hj hsat => ?_
    obtain ⟨ht, r, hr, hsat⟩ : p.jobTenant j = some t ∧ ∃ r, j.run = some r ∧ p.strobeSatisfied j r = true := by
      simpa [Option.any_eq_true] using hsat
    obtain ⟨hphase, hmin, hlock⟩ := (Part.strobeSatisfied_iff ht r).mp hsat
    rcases h j hj ht r hr hphase with hleft | ⟨hnot, hwait⟩
    · exact hleft hmin
    · rcases hlock with hlock | hlock
      · simp [hlock] at hwait
      · simp [hlock] at hnot
  unfold Part.judgeLock
  rw [hnone]
  split <;> rfl

/-- The one running job of a tenant is in a STROBE that ends. -/
theorem Part.judgeLock_of_satisfied {p : Part} {t : Nat} {j : Job} {r : Run} (hq : p.engine.quiet = false)
    (hj : j ∈ p.engine.jobs) (ht : p.jobTenant j = some t) (hr : j.run = some r) (hphase : r.phase = .strobe)
    (hmin : r.strobeLeft = 0) (hlock : r.lockLeft = none ∨ p.asserted t = true)
    (huniq : ∀ k ∈ p.engine.jobs, p.jobTenant k = some t → k.run.isSome → k = j) : p.judgeLock t = p.beginHold j.id := by
  have hsat := (Part.strobeSatisfied_iff ht r).mpr ⟨hphase, hmin, hlock⟩
  have hfind : p.engine.jobs.find? (fun j => p.jobTenant j == some t && j.run.any (p.strobeSatisfied j)) = some j := by
    refine find?_eq_some_of_unique hj (by simp [ht, hr, hsat]) fun k hk hksat => ?_
    obtain ⟨hkt, x, hx, -⟩ : p.jobTenant k = some t ∧ ∃ r, k.run = some r ∧ p.strobeSatisfied k r = true := by
      simpa [Option.any_eq_true] using hksat
    exact huniq k hk hkt (by simp [hx])
  simp only [Part.judgeLock, hq, hfind, Bool.false_eq_true, if_false]

/-! ### READY_INPUT_CHANGE (R27, R111) -/

/-- The raw level of an input, with READY_RISE on a rising edge. -/
def Part.setReady (p : Part) (t : Nat) (level : Bool) : Part :=
  let q : Part := { p with ready := p.ready.set t level }
  if p.ready.getD t false = false ∧ level = true then q.raise t .readyRise else q

/-- What a new level leaves but the level and the event. -/
theorem Part.setReady_frame (p : Part) (t : Nat) (level : Bool) :
    (p.setReady t level).engine = p.engine ∧ (p.setReady t level).tenants = p.tenants ∧
      (p.setReady t level).grants = p.grants ∧ (p.setReady t level).store = p.store := by
  unfold Part.setReady
  dsimp only
  split <;> exact ⟨rfl, rfl, rfl, rfl⟩

/-- A new level is followed by the judgement of the lock wait. -/
theorem Part.readyChange_eq (p : Part) (t : Nat) (level : Bool) :
    Part.readyChange t level p = ((p.setReady t level).judgeLock t).progressBatch := by
  unfold Part.readyChange Part.setReady
  simp only [Bool.and_eq_true, Bool.not_eq_true', and_comm]

/-- An act that leaves the tenants, the grants and the batch, where none runs. -/
theorem State.act_of_same {s : State} {f : Part → Part} {q : Part} (h : f s.part = q.progressBatch)
    (hb : q.store.batch = none) (ht : q.tenants = s.part.tenants) (hg : q.grants = s.part.grants) :
    s.act f = .next { s with part := q } := by
  rw [State.act_eq, h, Part.progressBatch_of_none hb, Part.commitTest_of_same ht hg]

/-- A change of an input on which nothing that STROBE waits for has come. -/
theorem State.readyChange_of_waiting {s : State} {t : Nat} {level : Bool} (hb : s.part.store.batch = none)
    (h : ∀ j ∈ s.part.engine.jobs, s.part.jobTenant j = some t → ∀ r, j.run = some r → r.phase = .strobe →
      r.strobeLeft ≠ 0 ∨ ((s.part.setReady t level).asserted t = false ∧ r.lockLeft.isSome)) :
    exec (.readyInputChange t level) s = .next { s with part := s.part.setReady t level } := by
  obtain ⟨hengine, htenants, hgrants, hstore⟩ := s.part.setReady_frame t level
  have hjudge : (s.part.setReady t level).judgeLock t = s.part.setReady t level :=
    Part.judgeLock_of_waiting fun j hj ht => h j (by rwa [hengine] at hj) (by rwa [Part.jobTenant_congr hgrants] at ht)
  exact State.act_of_same ((Part.readyChange_eq _ _ _).trans (by rw [hjudge])) (by rw [hstore, hb]) htenants hgrants

/-- A change of the input on which the one running job of a tenant waited: its HOLD begins. -/
theorem State.readyChange_of_satisfied {s : State} {t : Nat} {level : Bool} {j : Job} {r : Run}
    (hb : s.part.store.batch = none) (hq : s.part.engine.quiet = false) (hj : s.part.holdsJob j)
    (ht : s.part.jobTenant j = some t) (hr : j.run = some r) (hphase : r.phase = .strobe) (hmin : r.strobeLeft = 0)
    (hlock : (s.part.setReady t level).asserted t = true)
    (huniq : ∀ k ∈ s.part.engine.jobs, s.part.jobTenant k = some t → k.run.isSome → k = j) (hhold : r.timings.hold ≠ 0) :
    exec (.readyInputChange t level) s =
      .next { s with part := (s.part.setReady t level).withRun j.id r.held } := by
  obtain ⟨hengine, htenants, hgrants, hstore⟩ := s.part.setReady_frame t level
  have hj' : (s.part.setReady t level).holdsJob j := by rwa [Part.holdsJob, hengine]
  have hjudge : (s.part.setReady t level).judgeLock t = (s.part.setReady t level).withRun j.id r.held := by
    rw [← Part.beginHold_of_run hj' hr hhold]
    refine Part.judgeLock_of_satisfied (by rwa [hengine]) hj'.1 (by rwa [Part.jobTenant_congr hgrants]) hr hphase hmin
      (.inr hlock) fun k hk hkt => ?_
    exact huniq k (by rwa [hengine] at hk) (by rwa [Part.jobTenant_congr hgrants] at hkt)
  exact State.act_of_same ((Part.readyChange_eq _ _ _).trans (by rw [hjudge])) (hstore ▸ hb) htenants hgrants

/-! ### STROBE_MINIMUM_ELAPSED and LOCK_WAIT_TIMEOUT (R111) -/

/-- Whether STROBE ends with its minimum is told by the lock wait and the input. -/
theorem Part.strobeSatisfied_elapse {p : Part} {j : Job} {r : Run} {t : Nat} (ht : p.jobTenant j = some t)
    (hphase : r.phase = .strobe) : (p.elapse r.strobeLeft).strobeSatisfied j (r.elapse r.strobeLeft) = true ↔
      r.lockLeft = none ∨ p.asserted t = true := by
  have ht' : (p.elapse r.strobeLeft).jobTenant j = some t := ht
  rw [Part.strobeSatisfied_iff ht', Run.elapse_of_strobe hphase]
  simp [hphase, Part.asserted_congr (p := p) (q := p.elapse r.strobeLeft) rfl rfl]

/-- The end of the minimum, where STROBE ends with it. -/
theorem State.strobeMinimum_of_satisfied {s : State} {c t : Nat} {j : Job} {r : Run} (hb : s.part.store.batch = none)
    (hq : s.part.engine.quiet = false) (hc : s.part.jobIn c = some j) (hj : s.part.holdsJob j)
    (ht : s.part.jobTenant j = some t) (hr : j.run = some r) (hphase : r.phase = .strobe) (hhold : r.timings.hold ≠ 0)
    (hlock : r.lockLeft = none ∨ s.part.asserted t = true) :
    exec (.strobeMinimumElapsed c) s =
      .next { s with part := (s.part.elapse r.strobeLeft).withRun j.id (r.elapse r.strobeLeft).held } := by
  have hsat := (Part.strobeSatisfied_elapse ht hphase).mpr hlock
  have hin := Part.phaseIn_eq hq hc hr
  rw [hphase] at hin
  have hend : Part.endStrobeMinimum c s.part =
      ((s.part.elapse r.strobeLeft).withRun j.id (r.elapse r.strobeLeft).held).progressBatch := by
    rw [← Part.beginHold_elapse hj hq hr hhold rfl]
    simp only [Part.endStrobeMinimum, hin, hsat, if_true]
  exact State.act_of_same hend hb rfl rfl

/-- The end of the minimum, where STROBE waits on. -/
theorem State.strobeMinimum_of_waiting {s : State} {c t : Nat} {j : Job} {r : Run} (hb : s.part.store.batch = none)
    (hq : s.part.engine.quiet = false) (hc : s.part.jobIn c = some j) (ht : s.part.jobTenant j = some t)
    (hr : j.run = some r) (hphase : r.phase = .strobe) (hlock : ¬(r.lockLeft = none ∨ s.part.asserted t = true)) :
    exec (.strobeMinimumElapsed c) s = .next { s with part := s.part.elapse r.strobeLeft } := by
  have hsat := mt (Part.strobeSatisfied_elapse ht hphase).mp hlock
  have hin := Part.phaseIn_eq hq hc hr
  rw [hphase] at hin
  have hend : Part.endStrobeMinimum c s.part = (s.part.elapse r.strobeLeft).progressBatch := by
    rw [Part.progressBatch_of_none (by exact hb)]
    simp only [Part.endStrobeMinimum, hin, if_neg hsat]
  exact State.act_of_same hend hb rfl rfl

/-- The end of the lock wait without the input (R111). -/
theorem State.lockWaitTimeout_of_waiting {s : State} {c t left : Nat} {j : Job} {r : Run}
    (hb : s.part.store.batch = none) (hq : s.part.engine.quiet = false) (hc : s.part.jobIn c = some j)
    (hj : s.part.holdsJob j) (ht : s.part.jobTenant j = some t) (hr : j.run = some r) (hphase : r.phase = .strobe)
    (hhold : r.timings.hold ≠ 0) (hleft : r.lockLeft = some left) (hnot : s.part.asserted t = false) :
    exec (.lockWaitTimeout c) s =
      .next { s with part := ((s.part.elapse left).raise t .lockTimeout).withRun j.id (r.elapse left).held } := by
  have hraise : (s.part.elapse left).raiseTimeout j = (s.part.elapse left).raise t .lockTimeout := by
    simp only [Part.raiseTimeout, Part.jobTenant_congr (s.part.elapse_grants left), ht]
  have hfirst : s.part.lockComesFirst j = false := by simp [Part.lockComesFirst, ht, hnot]
  have hin := Part.phaseIn_eq hq hc hr
  rw [hphase] at hin
  have hend : Part.endLockWait c s.part =
      (((s.part.elapse left).raise t .lockTimeout).withRun j.id (r.elapse left).held).progressBatch := by
    rw [← Part.beginHold_elapse (q := (s.part.elapse left).raise t .lockTimeout) hj hq hr hhold rfl]
    simp only [Part.endLockWait, hin, hleft, hfirst, hraise, Bool.false_eq_true, if_false]
  exact State.act_of_same hend hb rfl rfl

/-- With the input asserted the lock wait does not run out (R111). -/
theorem State.lockWaitTimeout_of_asserted {s : State} {c t left : Nat} {j : Job} {r : Run}
    (hq : s.part.engine.quiet = false) (hc : s.part.jobIn c = some j) (ht : s.part.jobTenant j = some t)
    (hr : j.run = some r) (hphase : r.phase = .strobe) (hleft : r.lockLeft = some left)
    (hlock : s.part.asserted t = true) : exec (.lockWaitTimeout c) s = .next s := by
  have hfirst : s.part.lockComesFirst j = true := by simp [Part.lockComesFirst, ht, hlock]
  have hin := Part.phaseIn_eq hq hc hr
  rw [hphase] at hin
  exact State.act_of_fixed (by simp only [Part.endLockWait, hin, hleft, hfirst, if_true])

/-- Settles O58, by the judgement of the lock wait and the three ends of STROBE. -/
theorem readyRisesAndStrobeEnds : Obligations.ReadyRisesAndStrobeEnds := by
  refine ⟨fun s t level _ hb hno => ?_, fun s c t j r hq hb hc hr hphase ht huniq hhold => ?_⟩
  · exact State.readyChange_of_waiting hb fun j hj ht r hr hphase => absurd hphase (hno j hj ht r hr)
  have hj : s.part.holdsJob j := ⟨Part.mem_of_jobIn hc, huniq⟩
  refine ⟨fun hlock => ?_, fun hnot hwait => ?_, fun left hleft hnot => ?_, fun left hleft hlock => ?_,
    fun hrunning level => ⟨fun hmin hlock => ?_, fun hwait => ?_⟩⟩
  · rw [State.strobeMinimum_of_satisfied hb hq hc hj ht hr hphase hhold hlock.symm, Run.elapse_of_strobe hphase,
      Nat.sub_self]
    rfl
  · have hlock : ¬(r.lockLeft = none ∨ s.part.asserted t = true) := by
      simp [hnot, Option.isSome_iff_ne_none.mp hwait]
    have hself := Part.withRun_self (Part.holdsJob_elapse hj hq hr r.strobeLeft) rfl
    rw [Run.elapse_of_strobe hphase, Nat.sub_self] at hself
    exact (State.strobeMinimum_of_waiting hb hq hc ht hr hphase hlock).trans
      (congrArg (fun p => Host.Outcome.next { s with part := p }) hself.symm)
  · rw [State.lockWaitTimeout_of_waiting hb hq hc hj ht hr hphase hhold hleft hnot, Run.elapse_of_strobe hphase, hleft,
      Option.map_some, Nat.sub_self]
    rfl
  · exact State.lockWaitTimeout_of_asserted hq hc ht hr hphase hleft hlock
  · exact State.readyChange_of_satisfied hb hq hj ht hr hphase hmin hlock hrunning hhold
  · refine State.readyChange_of_waiting hb fun k hk hkt x hx _ => ?_
    cases hrunning k hk hkt (by simp [hx])
    cases hr.symm.trans hx
    exact hwait

end Sys2Proof.Machine
end

section
/-! SUPPORT. The contract fields of a tenant (R21), and the upkeep of grants (R137 to R139) in full: what it makes of one
grant, and what several of them leave. -/

namespace Sys2Proof.Machine

/-! ### Clamping (R21, R170) -/

/-- A stored field in its range is what clamping leaves of it. -/
theorem storeNat_eq {lo hi old : Nat} (hlo : lo ≤ old) (hhi : old ≤ hi) (v : Option Nat) :
    storeNat lo hi v old = max lo (min hi (v.getD old)) := by
  cases v with
  | none => simp only [storeNat, Option.getD_none]; omega
  | some v => rfl

theorem storeLevel_eq {old : Int} (hlo : -96 ≤ old) (hhi : old ≤ 48) (v : Option Int) :
    storeLevel v old = max (-96) (min 48 (v.getD old)) := by
  cases v with
  | none => simp only [storeLevel, Option.getD_none]; omega
  | some v => rfl

theorem outside_iff {lo hi : Nat} {v : Option Nat} :
    outside lo hi v = true ↔ ∃ x, v = some x ∧ (x < lo ∨ hi < x) := by
  simp [outside, Option.any_eq_true]

theorem levelInRange_iff {v : Int} : levelInRange v = false ↔ v < -96 ∨ 48 < v := by
  simp only [levelInRange, Bool.and_eq_false_iff, decide_eq_false_iff_not]
  omega

theorem carriesContract_iff {c : ContractFields} : carriesContract c = true ↔
    c.committed.isSome ∨ c.ceiling.isSome ∨ c.margin.isSome ∨ c.maxProfile.isSome ∨ c.defaultLevel.isSome := by
  simp [carriesContract, or_assoc]

/-- The fields that carry a contract value are stored clamped, singly and then jointly. -/
theorem storeContract_of_carried {c : ContractFields} {r : TenantRecord} (h : carriesContract c = true)
    (hceiling : r.ceiling ≤ 16777215) (hcommitted : r.committed ≤ 16777215) (hmargin : r.margin ≤ 40)
    (hlow : 1 ≤ r.maxProfile) (hhigh : r.maxProfile ≤ 6) (hlevel : -96 ≤ r.defaultLevel) (hlevel' : r.defaultLevel ≤ 48) :
    let ceiling := min 16777215 (c.ceiling.getD r.ceiling)
    let profile := max 1 (min 6 (c.maxProfile.getD r.maxProfile))
    storeContract c r = { r with
      committed := min (min 16777215 (c.committed.getD r.committed)) ceiling
      ceiling := ceiling
      margin := min 40 (c.margin.getD r.margin)
      maxProfile := if r.cls = .video then max 3 profile else profile
      defaultLevel := max (-96) (min 48 (c.defaultLevel.getD r.defaultLevel))
      scan := c.scan.getD r.scan
      polarity := c.polarity.getD r.polarity } := by
  simp only [storeContract, h, if_true, storedCeiling, storedCommitted, storedProfile,
    storeNat_eq (Nat.zero_le _) hceiling, storeNat_eq (Nat.zero_le _) hcommitted, storeNat_eq (Nat.zero_le _) hmargin,
    storeNat_eq hlow hhigh, storeLevel_eq hlevel hlevel', Nat.zero_max, beq_iff_eq]

theorem storeContract_of_none {c : ContractFields} (h : carriesContract c = false) (r : TenantRecord) :
    storeContract c r = { r with scan := c.scan.getD r.scan, polarity := c.polarity.getD r.polarity } := by
  simp only [storeContract, h, Bool.false_eq_true, if_false]

@[simp] theorem storeContract_status (c : ContractFields) (r : TenantRecord) :
    (storeContract c r).status = r.status := by
  unfold storeContract
  dsimp only
  split <;> rfl

@[simp] theorem storeContract_grants (c : ContractFields) (r : TenantRecord) :
    (storeContract c r).grants = r.grants := by
  unfold storeContract
  dsimp only
  split <;> rfl

/-- CLAMPED says that a carried field lay outside its range, or that a joint condition changed one. -/
theorem contractClamped_iff {c : ContractFields} (h : carriesContract c = true) (r : TenantRecord) :
    contractClamped c r = true ↔
      (∃ v, c.committed = some v ∧ 16777215 < v) ∨ (∃ v, c.ceiling = some v ∧ 16777215 < v) ∨
        (∃ v, c.margin = some v ∧ 40 < v) ∨ (∃ v, c.maxProfile = some v ∧ (v < 1 ∨ 6 < v)) ∨
        (∃ v, c.defaultLevel = some v ∧ (v < -96 ∨ 48 < v)) ∨ (r.cls = .video ∧ storedProfile c r < 3) ∨
        storedCeiling c r < storedCommitted c r := by
  simp only [contractClamped, h, Bool.true_and, Bool.or_eq_true, outside_iff, Nat.not_lt_zero, false_or,
    Option.any_eq_true, Bool.not_eq_true', levelInRange_iff, Bool.and_eq_true, beq_iff_eq, decide_eq_true_eq, or_assoc]

/-! ### What only grants, events and the attempt list take part in -/

/-- `q` is `p` but for its grants, its events and its placement work, with no event and no work lost. -/
structure Part.Upkept (p q : Part) : Prop where
  frame : q = { p with grants := q.grants, events := q.events, alloc := q.alloc }
  length : q.events.raised.length = p.events.raised.length
  raised : ∀ t b, p.events.raised.getD t 0 &&& b = b → q.events.raised.getD t 0 &&& b = b
  work : ∀ w ∈ p.alloc.work, w ∈ q.alloc.work

theorem bitVec_or_and {n : Nat} (a b : BitVec n) : (a ||| b) &&& b = b := by
  ext i hi
  simp only [BitVec.getElem_and, BitVec.getElem_or]
  cases b[i] <;> simp

/-- Raising more events loses none. -/
theorem bitVec_or_and_of_and {n : Nat} {a b : BitVec n} (c : BitVec n) (h : a &&& b = b) : (a ||| c) &&& b = b := by
  rw [← h]
  ext i hi
  simp only [BitVec.getElem_and, BitVec.getElem_or]
  cases a[i] <;> simp

namespace Part.Upkept

variable {p q r : Part}

theorem refl (p : Part) : Part.Upkept p p := ⟨rfl, rfl, fun _ _ => id, fun _ => id⟩

theorem trans (h : Part.Upkept p q) (k : Part.Upkept q r) : Part.Upkept p r where
  frame := by rw [k.frame, h.frame]
  length := k.length.trans h.length
  raised t b e := k.raised t b (h.raised t b e)
  work w e := k.work w (h.work w e)

theorem foldl {α : Type} {f : Part → α → Part} (hf : ∀ p a, Part.Upkept p (f p a)) (l : List α) (p : Part) :
    Part.Upkept p (l.foldl f p) := by
  induction l generalizing p with
  | nil => exact refl p
  | cons a l ih => exact (hf p a).trans (ih _)

theorem setGrant (p : Part) (g : Nat) (x : Option Grant) : Part.Upkept p (p.setGrant g x) :=
  ⟨rfl, rfl, fun _ _ => id, fun _ => id⟩

theorem raise (p : Part) (k : Nat) (e : TenantEvent) : Part.Upkept p (p.raise k e) where
  frame := rfl
  length := by simp
  raised t b h := by
    by_cases ht : t < p.events.raised.length
    · rw [Part.raised_raise p k e ht]
      split
      · exact bitVec_or_and_of_and _ h
      · exact h
    · have hout : ∀ l : List TenantEventSet, l.length = p.events.raised.length → l.getD t 0 = 0 := fun l hl => by
        simp [List.getD_eq_getElem?_getD, List.getElem?_eq_none (hl ▸ Nat.le_of_not_lt ht)]
      rw [hout _ rfl] at h
      rwa [hout _ (by simp)]
  work _ := id

theorem markAttempt (p : Part) (g : Nat) : Part.Upkept p (p.markAttempt g) := by
  unfold Part.markAttempt
  split
  · exact refl p
  · exact ⟨rfl, rfl, fun _ _ => id, fun w h => List.mem_append_left _ h⟩

theorem commitTest (p q : Part) : Part.Upkept q (p.commitTest q) :=
  foldl (f := fun x t => if p.meetsCommit t && q.underCommit t then x.raise t .underCommit else x) (fun x t => by
    split
    · exact raise x t _
    · exact refl x) _ q

theorem tenant (h : Part.Upkept p q) (t : Nat) : q.tenant t = p.tenant t := by rw [h.frame]; rfl

theorem placeBad (h : Part.Upkept p q) (cls : CarrierClass) (t : TenantRecord) (c : Place) :
    q.placeBad cls t c = p.placeBad cls t c := by rw [h.frame]; rfl

theorem placeProfile (h : Part.Upkept p q) (cls : CarrierClass) (t : TenantRecord) (c : Place) :
    q.placeProfile cls t c = p.placeProfile cls t c := by rw [h.frame]; rfl

end Part.Upkept

/-! ### The upkeep of one grant (R137 to R139) -/

theorem Part.setGrant_setGrant (p : Part) (g : Nat) (x y : Option Grant) :
    (p.setGrant g x).setGrant g y = p.setGrant g y := by
  simp [Part.setGrant]

/-- The record of a grant after its upkeep for a tenant. -/
def Part.judgedAt (p : Part) (t : TenantRecord) (x : Grant) : Grant :=
  x.judged (p.placeProfile x.cls t ⟨x.first, x.width⟩) (p.placeBad x.cls t ⟨x.first, x.width⟩)

/-- A grant that is not in use, or whose tenant is EMPTY, or that is LEAVING, has no upkeep. -/
theorem Part.upkeep_of_idle {p : Part} {g : Nat} (h : ∀ x t, p.grant g = some x → p.tenant x.tenant = some t →
    x.state = .leaving) : p.upkeep g = p := by
  have hrecompute : p.recompute g = p := by
    unfold Part.recompute
    split
    · rfl
    · next x hx =>
      split
      · rfl
      · next t ht => rw [if_pos (by simp [h x t hx ht])]
  rw [Part.upkeep, hrecompute]
  unfold Part.judgeGrant
  split
  · rfl
  · next x hx =>
    split
    · rfl
    · next t ht => rw [if_pos (by simp [h x t hx ht])]

/-- The record of a grant with a newly selected profile (step 1 of upkeep). -/
def Grant.recomputed (x : Grant) (profile : Nat) : Grant :=
  { x with profile := profile, capacity := capacityOf x.cls x.width profile }

theorem Part.recompute_of_live {p : Part} {g : Nat} {x : Grant} {t : TenantRecord} (hx : p.grant g = some x)
    (ht : p.tenant x.tenant = some t) (hs : x.state ≠ .leaving) :
    p.recompute g = p.setGrant g (some (x.recomputed (p.placeProfile x.cls t ⟨x.first, x.width⟩))) := by
  simp only [Part.recompute, hx, ht, beq_iff_eq, hs, if_false]
  rfl

theorem Part.setFlags_of_clear {p : Part} {g : Nat} {x : Grant} (hx : p.grant g = some x) (hi : x.impaired = false) :
    p.setFlags g = ((p.setGrant g (some { x with impaired := true, relocationPending := true })).raise x.tenant
      .impaired).markAttempt g := by
  simp only [Part.setFlags, hx, hi, Bool.false_eq_true, if_false]

theorem Part.clearFlags_of_grant {p : Part} {g : Nat} {x : Grant} (hx : p.grant g = some x) :
    p.clearFlags g = p.setGrant g (some { x with impaired := false, relocationPending := false }) := by
  simp only [Part.clearFlags, hx]

/-- Step 2 of upkeep: the flags turn where the judgement does. -/
theorem Part.judgeGrant_of_live {p : Part} {g : Nat} {x : Grant} {t : TenantRecord} (hx : p.grant g = some x)
    (ht : p.tenant x.tenant = some t) (hs : x.state ≠ .leaving) :
    p.judgeGrant g = if p.placeBad x.cls t ⟨x.first, x.width⟩ = true then (if x.impaired then p else p.setFlags g)
      else if x.impaired then p.clearFlags g else p := by
  simp only [Part.judgeGrant, hx, ht, beq_iff_eq, hs, if_false]
  rfl

/-- A grant that has its upkeep takes its judged record; where it turns bad, IMPAIRED is raised and it joins the attempt
list. -/
theorem Part.upkeep_of_live {p : Part} {g : Nat} {x : Grant} {t : TenantRecord} (hx : p.grant g = some x)
    (ht : p.tenant x.tenant = some t) (hs : x.state ≠ .leaving) :
    p.upkeep g = if p.placeBad x.cls t ⟨x.first, x.width⟩ = true ∧ x.impaired = false then
        ((p.setGrant g (some (p.judgedAt t x))).raise x.tenant .impaired).markAttempt g
      else p.setGrant g (some (p.judgedAt t x)) := by
  have hy := Part.grant_setGrant_self (some (x.recomputed (p.placeProfile x.cls t ⟨x.first, x.width⟩))) hx
  rw [Part.upkeep, Part.recompute_of_live hx ht hs, Part.judgeGrant_of_live hy (by exact ht) (by exact hs),
    Part.clearFlags_of_grant hy, Part.setGrant_setGrant]
  change (if p.placeBad x.cls t ⟨x.first, x.width⟩ = true then if x.impaired then _ else _
    else if x.impaired then _ else _) = _
  cases hb : p.placeBad x.cls t ⟨x.first, x.width⟩ <;> cases hi : x.impaired
  · simp [Part.judgedAt, Grant.judged, Grant.recomputed, hb, hi]
  · simp [Part.judgedAt, Grant.judged, Grant.recomputed, hb, hi]
  · rw [Part.setFlags_of_clear hy hi, Part.setGrant_setGrant]
    simp [Part.judgedAt, Grant.judged, Grant.recomputed, hb, hi]
  · simp [Part.judgedAt, Grant.judged, Grant.recomputed, hb, hi]

theorem Part.upkept_upkeep (p : Part) (g : Nat) : Part.Upkept p (p.upkeep g) := by
  by_cases h : ∃ x t, p.grant g = some x ∧ p.tenant x.tenant = some t ∧ x.state ≠ .leaving
  · obtain ⟨x, t, hx, ht, hs⟩ := h
    rw [Part.upkeep_of_live hx ht hs]
    split
    · exact ((Part.Upkept.setGrant p g _).trans (.raise _ _ _)).trans (.markAttempt _ _)
    · exact .setGrant p g _
  · push Not at h
    rw [Part.upkeep_of_idle h]
    exact .refl p

/-! ### The upkeep of several grants -/

theorem Part.upkept_upkeepAll (gs : List Nat) (p : Part) : Part.Upkept p (p.upkeepAll gs) :=
  .foldl Part.upkept_upkeep gs p

/-- Upkeep leaves the record of every other grant. -/
theorem Part.grant_upkeep_ne (p : Part) {g k : Nat} (hk : k ≠ g) : (p.upkeep g).grant k = p.grant k := by
  have hmark : ∀ q : Part, (q.markAttempt g).grant k = q.grant k := fun q => by
    unfold Part.markAttempt
    split <;> rfl
  by_cases h : ∃ x t, p.grant g = some x ∧ p.tenant x.tenant = some t ∧ x.state ≠ .leaving
  · obtain ⟨x, t, hx, ht, hs⟩ := h
    have hset := Part.grant_setGrant_ne p g (some (p.judgedAt t x)) k hk
    rw [Part.upkeep_of_live hx ht hs]
    split
    · exact (hmark _).trans hset
    · exact hset
  · push Not at h
    rw [Part.upkeep_of_idle h]

/-- Upkeep of a grant leaves its judged record, and the event and the attempt where it turns bad. -/
theorem Part.upkeep_self {p : Part} {g : Nat} {x : Grant} {t : TenantRecord} (hx : p.grant g = some x)
    (ht : p.tenant x.tenant = some t) (hs : x.state ≠ .leaving) :
    (p.upkeep g).grant g = some (p.judgedAt t x) ∧
      (p.placeBad x.cls t ⟨x.first, x.width⟩ = true → x.impaired = false → x.tenant < p.events.raised.length →
        (p.upkeep g).events.raised.getD x.tenant 0 &&& 8 = 8 ∧ .attempt g ∈ (p.upkeep g).alloc.work) := by
  have hset := Part.grant_setGrant_self (some (p.judgedAt t x)) hx
  rw [Part.upkeep_of_live hx ht hs]
  split
  · refine ⟨?_, fun _ _ hlen => ⟨?_, ?_⟩⟩
    · unfold Part.markAttempt
      split <;> exact hset
    · refine (Part.Upkept.markAttempt _ g).raised _ _ ?_
      rw [Part.raised_raise _ _ _ (by exact hlen), if_pos rfl]
      exact bitVec_or_and _ _
    · unfold Part.markAttempt
      split
      · next h => simpa using h
      · simp
  · next h => exact ⟨hset, fun hb hi => absurd ⟨hb, hi⟩ h⟩

/-- A second judgement in the same state finds the record as it is. -/
theorem Part.judgedAt_judgedAt (p : Part) (t : TenantRecord) (x : Grant) :
    p.judgedAt t (p.judgedAt t x) = p.judgedAt t x := by
  simp [Part.judgedAt, Grant.judged]

theorem Part.Upkept.judgedAt {p q : Part} (h : Part.Upkept p q) (t : TenantRecord) (x : Grant) :
    q.judgedAt t x = p.judgedAt t x := by
  rw [Part.judgedAt, Part.judgedAt, h.placeBad, h.placeProfile]

theorem Part.grant_upkeepAll_of_not_mem {gs : List Nat} {g : Nat} (h : g ∉ gs) (p : Part) :
    (p.upkeepAll gs).grant g = p.grant g := by
  induction gs generalizing p with
  | nil => rfl
  | cons k gs ih =>
    obtain ⟨hk, hg⟩ : g ≠ k ∧ g ∉ gs := by simpa using h
    exact (ih hg _).trans (p.grant_upkeep_ne hk)

/-- A grant without upkeep keeps its record while others have theirs. -/
theorem Part.grant_upkeepAll_of_leaving {g : Nat} {x : Grant} (hs : x.state = .leaving) (gs : List Nat) (p : Part)
    (hx : p.grant g = some x) : (p.upkeepAll gs).grant g = some x := by
  induction gs generalizing p with
  | nil => exact hx
  | cons k gs ih =>
    refine ih _ ?_
    by_cases hk : g = k
    · subst hk
      rwa [Part.upkeep_of_idle fun y _ hy _ => by cases hx.symm.trans hy; exact hs]
    · rwa [p.grant_upkeep_ne hk]

/-- The upkeep of a list of grants, however often it names one: each one's judged record. -/
theorem Part.grant_upkeepAll_of_live {g : Nat} {x : Grant} {t : TenantRecord} (hs : x.state ≠ .leaving)
    {gs : List Nat} (hg : g ∈ gs) (p : Part) (hx : p.grant g = some x) (ht : p.tenant x.tenant = some t) :
    (p.upkeepAll gs).grant g = some (p.judgedAt t x) := by
  induction gs generalizing p x with
  | nil => cases hg
  | cons k gs ih =>
    have hstep := p.upkept_upkeep k
    have ht' : (p.upkeep k).tenant x.tenant = some t := (hstep.tenant _).trans ht
    rw [← hstep.judgedAt t x]
    by_cases hk : g = k
    · subst hk
      have hself := (Part.upkeep_self hx ht hs).1
      rw [← hstep.judgedAt t x] at hself
      by_cases hmem : g ∈ gs
      · rw [← Part.judgedAt_judgedAt]
        exact ih (by exact hs) hmem _ hself ht'
      · exact (Part.grant_upkeepAll_of_not_mem hmem _).trans hself
    · exact ih hs ((List.mem_cons.mp hg).resolve_left hk) _ ((p.grant_upkeep_ne hk).trans hx) ht'

/-- A grant of the list that turns bad raises IMPAIRED and joins the attempt list. -/
theorem Part.upkeepAll_of_bad {g : Nat} {x : Grant} {t : TenantRecord} (hs : x.state ≠ .leaving)
    (hi : x.impaired = false) {gs : List Nat} (hg : g ∈ gs) (p : Part) (hx : p.grant g = some x)
    (ht : p.tenant x.tenant = some t) (hb : p.placeBad x.cls t ⟨x.first, x.width⟩ = true)
    (hlen : x.tenant < p.events.raised.length) :
    (p.upkeepAll gs).events.raised.getD x.tenant 0 &&& 8 = 8 ∧ .attempt g ∈ (p.upkeepAll gs).alloc.work := by
  induction gs generalizing p with
  | nil => cases hg
  | cons k gs ih =>
    have hstep := p.upkept_upkeep k
    by_cases hk : g = k
    · subst hk
      obtain ⟨hraised, hwork⟩ := (Part.upkeep_self hx ht hs).2 hb hi hlen
      have hrest := Part.upkept_upkeepAll gs (p.upkeep g)
      exact ⟨hrest.raised _ _ hraised, hrest.work _ hwork⟩
    · exact ih ((List.mem_cons.mp hg).resolve_left hk) _ ((p.grant_upkeep_ne hk).trans hx) ((hstep.tenant _).trans ht)
        ((hstep.placeBad _ _ _).trans hb) (by rwa [hstep.length])

end Sys2Proof.Machine
end

section
/-! TENANT_AMEND: O18. -/

namespace Sys2Proof.Machine

theorem exec_tenantAmend (tag : Byte) (q : AmendFields) (s : State) :
    exec (.tenantAmend tag (some q)) s = s.serve (.tenantAmend tag (some q)) tag 0x11 (Part.amend q) := rfl

theorem Part.amend_of_standing {p : Part} {q : AmendFields} {r : TenantRecord} (ht : q.tenant < 16)
    (hr : p.tenant q.tenant = some r) (hs : r.status ≠ .retiring) :
    Part.amend q p = ((p.setTenant q.tenant (storeContract q.contract r)).amendEffects q.tenant r
      (storeContract q.contract r), ⟨.done, contractClamped q.contract r, []⟩) := by
  simp only [Part.amend, Part.tenantRefusal_of_standing ht hr hs, hr]

/-! ### The effects of an amend (R26), by what it changes -/

theorem Part.amendEffects_of_same {t : Nat} {before after : TenantRecord} (p : Part)
    (hm : after.margin = before.margin) (hp : after.maxProfile = before.maxProfile)
    (hl : after.polarity = before.polarity) : p.amendEffects t before after = p := by
  simp [Part.amendEffects, hm, hp, hl]

theorem Part.amendEffects_of_upkeep {t : Nat} {before after : TenantRecord} (p : Part)
    (h : after.margin ≠ before.margin ∨ after.maxProfile ≠ before.maxProfile) (hl : after.polarity = before.polarity) :
    p.amendEffects t before after = p.upkeepAll after.grants := by
  have hchanged : (before.margin != after.margin || before.maxProfile != after.maxProfile) = true := by
    simp only [Bool.or_eq_true, bne_iff_ne]
    exact h.imp Ne.symm Ne.symm
  simp [Part.amendEffects, hchanged, hl]

theorem Part.amendEffects_of_polarity {t : Nat} {before after : TenantRecord} (p : Part)
    (hm : after.margin = before.margin) (hp : after.maxProfile = before.maxProfile)
    (hl : after.polarity ≠ before.polarity) : p.amendEffects t before after = (p.judgeLock t).progressBatch := by
  simp [Part.amendEffects, hm, hp, Ne.symm hl]

/-! ### The amend of a tenant that is not RETIRING -/

/-- The ready input of a tenant, through its polarity (R27). -/
theorem Part.asserted_iff {p : Part} {t : Nat} {r : TenantRecord} (hr : p.tenant t = some r) :
    p.asserted t = true ↔ (p.ready.getD t false = true ↔ r.polarity = .high) := by
  cases hl : r.polarity <;> simp [Part.asserted, hr, hl]

/-- An amend whose effects leave the tenants and the grants: UNDER_COMMIT follows on the turn. -/
theorem State.amend_of_same {s : State} {tag : Byte} {q : AmendFields} {r : TenantRecord} {u : Part}
    (ha : s.awaits (.tenantAmend tag (some q)) tag) (ht : q.tenant < 16) (hr : s.part.tenant q.tenant = some r)
    (hs : r.status ≠ .retiring)
    (hu : (s.part.setTenant q.tenant (storeContract q.contract r)).amendEffects q.tenant r
      (storeContract q.contract r) = u)
    (htenants : u.tenants = (s.part.setTenant q.tenant (storeContract q.contract r)).tenants)
    (hgrants : u.grants = s.part.grants) :
    exec (.tenantAmend tag (some q)) s = .next (s.answers (.tenantAmend tag (some q)) tag 0x11
      ⟨.done, contractClamped q.contract r, []⟩
      (if r.committed ≤ s.part.delivered q.tenant ∧ s.part.delivered q.tenant < (storeContract q.contract r).committed
        then u.raise q.tenant .underCommit else u)) := by
  have hturn := Part.commitTest_of_setTenant ht hr htenants hgrants
  simp only [storeContract_status, hs, ne_eq, not_false_eq_true, true_and] at hturn
  rw [exec_tenantAmend, State.serve_of_awaits _ _ ha, Part.amend_of_standing ht hr hs, hu, hturn]

/-- An amend that brings the upkeep of the tenant's grants. -/
theorem State.amend_of_upkeep {s : State} {tag : Byte} {q : AmendFields} {r : TenantRecord}
    (ha : s.awaits (.tenantAmend tag (some q)) tag) (ht : q.tenant < 16) (hr : s.part.tenant q.tenant = some r)
    (hs : r.status ≠ .retiring) (hchanged : (storeContract q.contract r).margin ≠ r.margin ∨
      (storeContract q.contract r).maxProfile ≠ r.maxProfile)
    (hl : (storeContract q.contract r).polarity = r.polarity) :
    exec (.tenantAmend tag (some q)) s = .next (s.answers (.tenantAmend tag (some q)) tag 0x11
      ⟨.done, contractClamped q.contract r, []⟩
      (s.part.commitTest ((s.part.setTenant q.tenant (storeContract q.contract r)).upkeepAll r.grants))) := by
  rw [exec_tenantAmend, State.serve_of_awaits _ _ ha, Part.amend_of_standing ht hr hs,
    Part.amendEffects_of_upkeep _ hchanged hl, storeContract_grants]

theorem Part.commitTest_grants (p q : Part) : (p.commitTest q).grants = q.grants := by
  obtain ⟨u, hu, -⟩ := p.commitTest_frame q
  rw [hu]

/-- UNDER_COMMIT stands in the source of a tenant that turned. -/
theorem Part.raised_of_turn {p q : Part} {t : Nat} {r after : TenantRecord} (hlen : q.events.raised.length = 16)
    (ht : t < 16) (hr : p.tenant t = some r) (hq : q.tenant t = some after) (hs : after.status ≠ .retiring)
    (hmeets : r.committed ≤ p.delivered t) (hunder : q.delivered t < after.committed) :
    (p.commitTest q).events.raised.getD t 0 &&& 0x40 = 0x40 := by
  rw [(underCommitTurns p q hlen).2 t ht, if_pos ⟨⟨r, hr, hmeets⟩, ⟨after, hq, hs, hunder⟩⟩]
  exact bitVec_or_and _ _

/-- The upkeep of a tenant's grants in an act of its own: the grants outside the list and the LEAVING ones stand, every
other one takes its judged record, and one that turns bad raises IMPAIRED and joins the attempt list. -/
theorem Part.commitTest_upkeepAll (before : Part) {p : Part} {t : Nat} {after : TenantRecord} (gs : List Nat)
    (hlen : p.events.raised.length = 16) (ht : t < 16) (hp : p.tenant t = some after) :
    let u := before.commitTest (p.upkeepAll gs)
    Part.Upkept p u ∧ (∀ g, g ∉ gs → u.grant g = p.grant g) ∧
      ∀ g x, g ∈ gs → p.grant g = some x → x.tenant = t →
        (x.state = .leaving → u.grant g = some x) ∧
        (x.state ≠ .leaving → u.grant g = some (p.judgedAt after x) ∧
          (p.placeBad x.cls after ⟨x.first, x.width⟩ = true → x.impaired = false →
            u.events.raised.getD t 0 &&& 8 = 8 ∧ .attempt g ∈ u.alloc.work)) := by
  have htest := Part.Upkept.commitTest before (p.upkeepAll gs)
  have hgrant := Part.grant_congr (Part.commitTest_grants before (p.upkeepAll gs))
  refine ⟨(Part.upkept_upkeepAll gs p).trans htest, fun g hg => ?_,
    fun g x hg hx hxt => ⟨fun hleaving => ?_, fun hlive => ⟨?_, fun hbad hclear => ?_⟩⟩⟩
  · rw [hgrant]
    exact Part.grant_upkeepAll_of_not_mem hg p
  · rw [hgrant]
    exact Part.grant_upkeepAll_of_leaving hleaving gs p hx
  · rw [hgrant]
    exact Part.grant_upkeepAll_of_live hlive hg p hx (by rwa [hxt])
  · obtain ⟨hraised, hwork⟩ := Part.upkeepAll_of_bad hlive hclear hg p hx (by rwa [hxt]) hbad (by rwa [hlen, hxt])
    rw [hxt] at hraised
    exact ⟨htest.raised _ _ hraised, htest.work _ hwork⟩

/-- A tenant takes a record of another polarity, and no STROBE of its jobs ends by it. -/
theorem Part.judgeLock_setTenant_of_waiting {p : Part} {t : Nat} {r after : TenantRecord} (hr : p.tenant t = some r)
    (h : p.engine.quiet = true ∨ ∀ j x, j ∈ p.engine.jobs → p.jobTenant j = some t → j.run = some x →
      x.phase = .strobe → x.strobeLeft ≠ 0 ∨
        (¬(p.ready.getD t false = true ↔ after.polarity = .high) ∧ x.lockLeft.isSome)) :
    (p.setTenant t after).judgeLock t = p.setTenant t after := by
  rcases h with hquiet | hwaiting
  · exact Part.judgeLock_of_quiet (p := p.setTenant t after) hquiet t
  · refine Part.judgeLock_of_waiting fun j hj hjt x hx hphase => ?_
    refine (hwaiting j x hj hjt hx hphase).imp_right fun ⟨hnot, hlock⟩ => ⟨?_, hlock⟩
    rw [Bool.eq_false_iff, ne_eq, Part.asserted_iff (Part.tenant_setTenant_self after hr)]
    exact hnot

/-- A tenant takes a polarity under which its input is asserted: the STROBE of its running job ends. -/
theorem Part.judgeLock_setTenant_of_satisfied {p : Part} {t : Nat} {r after : TenantRecord} {j : Job} {x : Run}
    (hr : p.tenant t = some r) (hq : p.engine.quiet = false) (hj : p.holdsJob j) (hjt : p.jobTenant j = some t)
    (hx : j.run = some x) (hphase : x.phase = .strobe) (hmin : x.strobeLeft = 0) (hhold : x.timings.hold ≠ 0)
    (hasserted : p.ready.getD t false = true ↔ after.polarity = .high)
    (huniq : ∀ k ∈ p.engine.jobs, p.jobTenant k = some t → k.run.isSome → k = j) :
    (p.setTenant t after).judgeLock t = (p.setTenant t after).withRun j.id x.held := by
  have hlock := (Part.asserted_iff (Part.tenant_setTenant_self after hr)).mpr hasserted
  rw [← Part.beginHold_of_run (p := p.setTenant t after) hj hx hhold]
  exact Part.judgeLock_of_satisfied (p := p.setTenant t after) hq hj.1 hjt hx hphase hmin (.inr hlock) huniq

/-- Settles O18: the fields and CLAMPED, then the amend by what it changes. -/
theorem amendClampsAndStores : Obligations.AmendClampsAndStores := by
  refine ⟨fun c r => ⟨fun hc => ?_, fun hcommitted hceiling hmargin hprofile hlevel => ?_⟩,
    fun s tag q r ha ht hr hs => ⟨fun hm hx hl => ?_, fun hchanged hl hshaped => ?_, fun hm hx hl hb => ⟨?_, ?_⟩⟩⟩
  · have hcarried := carriesContract_iff.mpr hc
    exact ⟨storeContract_of_carried hcarried, contractClamped_iff hcarried r⟩
  · have hnone : carriesContract c = false := by simp [carriesContract, hcommitted, hceiling, hmargin, hprofile, hlevel]
    exact ⟨storeContract_of_none hnone r, by simp [contractClamped, hnone]⟩
  · exact State.amend_of_same ha ht hr hs (Part.amendEffects_of_same _ hm hx hl) rfl rfl
  · have hp := Part.tenant_setTenant_self (storeContract q.contract r) hr
    have hlen : (s.part.setTenant q.tenant (storeContract q.contract r)).events.raised.length = 16 := by
      obtain ⟨-, -, -, -, -, -, hraised, -⟩ := hshaped
      exact hraised
    obtain ⟨hkept, hother, hlisted⟩ := Part.commitTest_upkeepAll s.part r.grants hlen ht hp
    refine ⟨_, State.amend_of_upkeep ha ht hr hs hchanged hl, hkept.frame, hother, fun hmeets hunder => ?_,
      fun g x hg _ hx hxt => hlisted g x hg hx hxt⟩
    rw [Part.delivered_congr (Part.commitTest_grants _ _)] at hunder
    have hupkept := Part.upkept_upkeepAll r.grants (s.part.setTenant q.tenant (storeContract q.contract r))
    exact Part.raised_of_turn (hupkept.length.trans hlen) ht hr ((hupkept.tenant _).trans hp) (by simpa using hs) hmeets
      hunder
  · intro hwaiting
    refine State.amend_of_same ha ht hr hs ?_ rfl rfl
    rw [Part.amendEffects_of_polarity _ hm hx hl, Part.judgeLock_setTenant_of_waiting hr hwaiting,
      Part.progressBatch_of_none (by exact hb)]
  · intro j x hquiet hj hjt hrun hphase hmin hasserted hhold huniq
    refine State.amend_of_same ha ht hr hs ?_ rfl rfl
    rw [Part.amendEffects_of_polarity _ hm hx hl, Part.judgeLock_setTenant_of_satisfied hr hquiet
      ⟨hj, fun k hk e => huniq k hk (.inl e)⟩ hjt hrun hphase hmin hhold hasserted
      fun k hk hkt hkrun => huniq k hk (.inr ⟨hkt, hkrun⟩), Part.progressBatch_of_none (by exact hb)]
    rfl

end Sys2Proof.Machine
end

section
/-! TENANT_RETIRE, plain and forced, and the retire backlog: O20. -/

namespace Sys2Proof.Machine

/-! ### The end of a retire (R32, R148) -/

theorem Part.completeRetire_eq (p : Part) (t : Nat) : p.completeRetire t = { p with
    tenants := p.tenants.set t ⟨(p.generation t + 1) % 256, none⟩
    engine := { p.engine with turnaround := p.engine.turnaround.set t none }
    store := { p.store with slots := p.store.slots.map (Slot.staleFor t) } } := by
  have htenants : (p.tenants.modify t fun x => ⟨(x.generation + 1) % 256, none⟩) =
      p.tenants.set t ⟨(p.generation t + 1) % 256, none⟩ := by
    refine List.ext_getElem? fun i => ?_
    rw [List.getElem?_modify, List.getElem?_set, Part.generation, List.getD_eq_getElem?_getD]
    by_cases hi : t = i
    · subst hi
      by_cases ht : t < p.tenants.length
      · simp [ht]
      · simp [ht]
    · simp [hi]
  rw [← htenants]
  rfl

/-- A retire that completes turns no relation: its tenant is EMPTY, and the others stand. -/
theorem Part.commitTest_completeRetire {p : Part} {t : Nat} {r : TenantRecord} (hr : p.tenant t = some r) :
    p.commitTest (p.completeRetire t) = p.completeRetire t := by
  have hset : (p.completeRetire t).tenants = p.tenants.set t ⟨(p.generation t + 1) % 256, none⟩ := by
    rw [Part.completeRetire_eq]
  refine Part.commitTest_of_no_turn _ _ fun k _ => ?_
  by_cases hk : k = t
  · subst hk
    have hnone : (p.completeRetire k).tenant k = none := by
      simp [Part.tenant, hset, Part.lt_of_tenant hr]
    exact Part.no_turn_of_ended (by simp [hnone])
  · exact Part.no_turn_of_same (Part.tenant_of_set hset hk) (Part.delivered_congr rfl k).ge

/-! ### The release of an ACTIVE grant outside a restore (R31, R52, R54) -/

/-- The record of an ACTIVE grant that is released. -/
def Grant.released (x : Grant) : Grant := { x with state := .leaving, relocationPending := false }

/-- The part with one more RELEASE job, its grant LEAVING. -/
def Part.releasing (p : Part) (g : Nat) (x : Grant) : Part :=
  { p with
    grants := p.grants.set g (some x.released)
    engine := p.engine.withJob (p.newJob g .release none) }

theorem Part.mapBatch_of_none {p : Part} (h : p.store.batch = none) (f : Batch → Batch) : p.mapBatch f = p := by
  have hstore : ({ p.store with batch := p.store.batch.map f } : LineupStore) = p.store := by
    rw [h, Option.map_none, ← h]
  simp only [Part.mapBatch, hstore]

theorem Part.releaseActive_of_no_batch {p : Part} {g : Nat} {x : Grant} (hb : p.store.batch = none)
    (hx : p.grant g = some x) : p.releaseActive g = p.releasing g x := by
  have hleaving : p.enterLeaving g = p.setGrant g (some x.released) := by
    simp only [Part.enterLeaving, hx]
    rfl
  simp only [Part.releaseActive, Part.mapBatch_of_none hb, hb, Option.any_none, hleaving]
  rfl

/-- With an entry free an ACTIVE grant is released, and with none it stays. -/
theorem Part.releaseGrant_of_active {p : Part} {g : Nat} {x : Grant} (hb : p.store.batch = none)
    (hx : p.grant g = some x) (hs : x.state = .active) (phaseA : Bool) :
    p.releaseGrant g phaseA = if p.engine.jobs.length < 24 then p.releasing g x else p := by
  simp only [Part.releaseGrant, hx, hs, Part.hasJobEntry, decide_eq_true_eq, Part.releaseActive_of_no_batch hb hx]

/-- A record of one tenant's grant is no part of what another tenant is delivered. -/
theorem Part.delivered_of_setGrant {p q : Part} {g k : Nat} {x y : Grant} (hx : p.grant g = some x)
    (hq : q.grants = p.grants.set g (some y)) (hxk : x.tenant ≠ k) (hyk : y.tenant ≠ k) :
    q.delivered k = p.delivered k := by
  have hmap : q.grants.map (Grant.capacityIn k [.active, .moving, .resizing]) =
      p.grants.map (Grant.capacityIn k [.active, .moving, .resizing]) := by
    refine List.ext_getElem? fun i => ?_
    rw [hq, List.getElem?_map, List.getElem?_map, List.getElem?_set]
    by_cases hi : g = i
    · subst hi
      have hg : p.grants[g]'(Part.lt_of_grant hx) = some x := by
        simpa [Part.grant, List.getD_eq_getElem?_getD, Part.lt_of_grant hx] using hx
      simp [hg, Part.lt_of_grant hx, Grant.capacityIn, hxk, hyk]
    · simp [hi]
  rw [Part.delivered, Part.delivered, hmap]

/-- An act that leaves one tenant RETIRING, and what the others have and are delivered, turns no relation. -/
theorem Part.commitTest_of_retiring {p q : Part} {t : Nat} {r : TenantRecord} (hr : q.tenant t = some r)
    (hs : r.status = .retiring) (ht : ∀ k, k ≠ t → q.tenant k = p.tenant k)
    (hd : ∀ k, k ≠ t → q.delivered k = p.delivered k) : p.commitTest q = q := by
  refine Part.commitTest_of_no_turn _ _ fun k _ => ?_
  by_cases hk : k = t
  · subst hk
    refine Part.no_turn_of_ended fun x hx => ?_
    cases hr.symm.trans hx
    exact hs
  · exact Part.no_turn_of_same (ht k hk) (hd k hk).ge

/-! ### TENANT_RETIRE (R30, R31) -/

theorem exec_tenantRetire (tag : Byte) (t : Nat) (s : State) :
    exec (.tenantRetire tag (some t)) s = s.serve (.tenantRetire tag (some t)) tag 0x12 (Part.retire t) := rfl

theorem exec_tenantRetireForce (tag : Byte) (t : Nat) (s : State) :
    exec (.tenantRetireForce tag t) s = s.serve (.tenantRetireForce tag t) tag 0x12 (Part.forceRetire t) := rfl

/-- The releases of a forced retire, where the list names one ACTIVE grant (R31, R54). -/
theorem Part.retireReleases_of_one {p : Part} {g : Nat} {gs : List Nat} {x : Grant} (hg : gs = [g])
    (hx : p.grant g = some x) (ha : x.state = .active) (hb : p.store.batch = none) :
    Part.retireReleases gs p = if p.engine.jobs.length < 24 then p.releasing g x else p := by
  rw [hg, Part.retireReleases, List.foldl_cons, List.foldl_nil, Part.retireRelease, Part.releaseGrant_of_active hb hx ha]
  by_cases hfree : p.engine.jobs.length < 24
  · simp [Part.hasJobEntry, hfree]
  · simp [Part.hasJobEntry, hfree]

/-- A forced retire of a tenant with one ACTIVE grant. -/
theorem Part.forceRetire_of_one {p : Part} {t g : Nat} {r : TenantRecord} {x : Grant} (ht : t < 16)
    (hr : p.tenant t = some r) (hs : r.status ≠ .retiring) (hg : r.grants = [g]) (hx : p.grant g = some x)
    (ha : x.state = .active) (hb : p.store.batch = none) :
    Part.forceRetire t p = (if p.engine.jobs.length < 24 then (p.setTenant t { r with status := .retiring }).releasing g x
      else p.setTenant t { r with status := .retiring }, doneWith []) := by
  have hone := Part.retireReleases_of_one (p := p.setTenant t { r with status := .retiring }) hg hx ha hb
  have hbatch : (Part.retireReleases r.grants (p.setTenant t { r with status := .retiring })).store.batch = none := by
    rw [hone]
    split <;> exact hb
  have hlisted : r.grants.isEmpty = false := by simp [hg]
  simp only [Part.forceRetire, Part.tenantRefusal_of_standing ht hr hs, hr, hlisted, Bool.false_eq_true, if_false,
    Part.progressBatch_of_none hbatch]
  rw [hone]
  rfl

/-! ### The retire backlog (R54) -/

theorem Part.backlogFront_eq_none {p : Part} {t : Nat} : p.backlogFront t = none ↔
    ∀ r, p.tenant t = some r → r.status = .retiring → ∀ g ∈ r.grants, ∀ x, p.grant g = some x → x.state ≠ .active := by
  unfold Part.backlogFront
  cases p.tenant t with
  | none => simp
  | some r =>
    by_cases hs : r.status = .retiring
    · simp [hs, Option.any_eq_false]
    · simp [hs]

theorem Part.backlogFront_of_one {p : Part} {t g : Nat} {r : TenantRecord} {x : Grant} (hr : p.tenant t = some r)
    (hs : r.status = .retiring) (hg : g ∈ r.grants) (hx : p.grant g = some x) (ha : x.state = .active)
    (hother : ∀ h ∈ r.grants, h ≠ g → ∀ y, p.grant h = some y → y.state ≠ .active) : p.backlogFront t = some g := by
  simp only [Part.backlogFront, hr, hs, beq_self_eq_true, if_true]
  refine find?_eq_some_of_unique hg (by simp [hx, ha]) fun h hh hactive => ?_
  obtain ⟨y, hy, hstate⟩ : ∃ y, p.grant h = some y ∧ y.state = .active := by
    simpa [Option.any_eq_true] using hactive
  by_contra hne
  exact hother h hh hne y hy hstate

theorem Part.backlogTurn_of_none {p : Part} {t : Nat} (h : p.backlogFront t = none) : p.backlogTurn t = p := by
  simp only [Part.backlogTurn, h]

/-- A round over tenants without a backlog does nothing. -/
theorem Part.foldl_backlogTurn_of_none {p : Part} {ts : List Nat} (h : ∀ t ∈ ts, p.backlogFront t = none) :
    ts.foldl Part.backlogTurn p = p := by
  induction ts with
  | nil => rfl
  | cons t ts ih =>
    rw [List.foldl_cons, Part.backlogTurn_of_none (h t (by simp))]
    exact ih fun k hk => h k (by simp [hk])

theorem Part.backlogRounds_of_none {p : Part} (h : ∀ t, t < 16 → p.backlogFront t = none) (n : Nat) :
    Part.backlogRounds n p = p := by
  induction n with
  | zero => rfl
  | succ n ih => rw [Part.backlogRounds, Part.foldl_backlogTurn_of_none (by simpa using h), ih]

/-- A round in which one tenant's turn alone does something, and leaves no backlog. -/
theorem Part.foldl_backlogTurn_of_one {p q : Part} {t : Nat} {ts : List Nat} (ht : t ∈ ts)
    (hturn : p.backlogTurn t = q) (hother : ∀ k ∈ ts, k ≠ t → p.backlogFront k = none)
    (hdone : ∀ k ∈ ts, q.backlogFront k = none) : ts.foldl Part.backlogTurn p = q := by
  induction ts with
  | nil => cases ht
  | cons k ts ih =>
    rw [List.foldl_cons]
    by_cases hk : k = t
    · rw [hk, hturn]
      exact Part.foldl_backlogTurn_of_none fun i hi => hdone i (by simp [hi])
    · rw [Part.backlogTurn_of_none (hother k (by simp) hk)]
      exact ih ((List.mem_cons.mp ht).resolve_left (Ne.symm hk)) (fun i hi => hother i (by simp [hi]))
        fun i hi => hdone i (by simp [hi])

/-- A grant that is released is in no backlog, and no other grant joins one. -/
theorem Part.backlogFront_releasing {p : Part} {g : Nat} {x : Grant} (hx : p.grant g = some x) {k : Nat}
    (h : ∀ r, p.tenant k = some r → r.status = .retiring → ∀ h ∈ r.grants, h ≠ g → ∀ y, p.grant h = some y →
      y.state ≠ .active) : (p.releasing g x).backlogFront k = none := by
  refine Part.backlogFront_eq_none.mpr fun r hr hs i hi y hy => ?_
  by_cases hig : i = g
  · subst hig
    have hself : (p.releasing i x).grant i = some x.released := Part.grant_setGrant_self _ hx
    cases hself.symm.trans hy
    exact nofun
  · have hne : (p.releasing g x).grant i = p.grant i := Part.grant_setGrant_ne p g _ i hig
    exact h r hr hs i hi hig y (hne ▸ hy)

/-- One grant in the whole backlog takes a free entry, and the backlog is empty. -/
theorem Part.releaseBacklog_of_one {p : Part} {t g : Nat} {r : TenantRecord} {x : Grant} (ht : t < 16)
    (hr : p.tenant t = some r) (hs : r.status = .retiring) (hg : g ∈ r.grants) (hx : p.grant g = some x)
    (ha : x.state = .active) (hother : ∀ h ∈ r.grants, h ≠ g → ∀ y, p.grant h = some y → y.state ≠ .active)
    (hfront : ∀ k, k < 16 → k ≠ t → p.backlogFront k = none) (hfree : p.engine.jobs.length < 24)
    (hb : p.store.batch = none) : p.releaseBacklog = p.releasing g x := by
  have hturn : p.backlogTurn t = p.releasing g x := by
    simp only [Part.backlogTurn, Part.backlogFront_of_one hr hs hg hx ha hother,
      Part.releaseGrant_of_active hb hx ha, hfree, if_true]
  have hdone : ∀ k, k < 16 → (p.releasing g x).backlogFront k = none := fun k hk =>
    Part.backlogFront_releasing hx fun r' hr' hs' h hh hne y hy => by
      by_cases hkt : k = t
      · subst hkt
        cases hr.symm.trans hr'
        exact hother h hh hne y hy
      · exact Part.backlogFront_eq_none.mp (hfront k hk hkt) r' hr' hs' h hh y hy
  have hround := Part.foldl_backlogTurn_of_one (ts := List.range 16) (by simpa using ht) hturn
    (fun k hk => hfront k (by simpa using hk)) fun k hk => hdone k (by simpa using hk)
  rw [Part.releaseBacklog, Part.backlogRounds, hround, Part.backlogRounds_of_none hdone,
    Part.progressBatch_of_none (by exact hb)]

/-- Settles O20: the retires by the grant list, and the one grant of the backlog. -/
theorem retireAndItsBacklog : Obligations.RetireAndItsBacklog := by
  refine ⟨fun s tag t r ht hr hs => ⟨fun ha => ⟨fun hg => ?_, fun hg => ?_⟩, fun ha => ⟨fun hg => ?_,
    fun g x hg hx hxt hactive hb => ?_⟩⟩, fun s t g r x ht hr hs hg hx hactive hxt _ hother hfront hfree hb => ?_⟩
  · rw [exec_tenantRetire, ← Part.completeRetire_eq]
    exact State.serve_of_no_turn _ ha (by simp [Part.retire, Part.tenantRefusal_of_standing ht hr hs, hr, hg])
      (Part.commitTest_completeRetire hr)
  · rw [exec_tenantRetire]
    exact State.serve_of_kept _ _ ha (by simp [Part.retire, Part.tenantRefusal_of_standing ht hr hs, hr, hg])
  · rw [exec_tenantRetireForce, ← Part.completeRetire_eq]
    exact State.serve_of_no_turn _ ha (by simp [Part.forceRetire, Part.tenantRefusal_of_standing ht hr hs, hr, hg])
      (Part.commitTest_completeRetire hr)
  · have hset := fun k hk => Part.tenant_setTenant_ne s.part t { r with status := .retiring } k hk
    have hself := Part.tenant_setTenant_self { r with status := .retiring } hr
    rw [exec_tenantRetireForce, State.serve_of_no_turn _ ha (Part.forceRetire_of_one ht hr hs hg hx hactive hb)]
    · rfl
    split
    · exact Part.commitTest_of_retiring (t := t) hself rfl hset fun k hk =>
        Part.delivered_of_setGrant hx rfl (hxt ▸ Ne.symm hk) (hxt ▸ Ne.symm hk)
    · exact Part.commitTest_of_retiring (t := t) hself rfl hset fun k _ => Part.delivered_congr rfl k
  · have hbacklog := Part.releaseBacklog_of_one ht hr hs hg hx hactive hother hfront hfree hb
    have htest : s.part.commitTest (s.part.releasing g x) = s.part.releasing g x :=
      Part.commitTest_of_retiring (t := t) hr hs (fun _ _ => rfl) fun k hk =>
        Part.delivered_of_setGrant hx rfl (hxt ▸ Ne.symm hk) (hxt ▸ Ne.symm hk)
    show s.act Part.releaseBacklog = _
    rw [State.act_eq, hbacklog, htest]
    rfl

end Sys2Proof.Machine
end

section
/-! SUPPORT. The checks of the requests that name a grant, and of the placement requests at their take. -/

namespace Sys2Proof.Machine

/-! ### The grant's checks (R52, R94) and the tenant's (R22) -/

theorem Part.grantRefusal_of_range {p : Part} {g : Nat} (h : 96 ≤ g) : p.grantRefusal g = some .badField := by
  simp [Part.grantRefusal, h]

theorem Part.grantRefusal_of_free {p : Part} {g : Nat} (hg : g < 96) (h : p.grant g = none) :
    p.grantRefusal g = some .noGrant := by
  simp [Part.grantRefusal, Nat.not_le.mpr hg, h]

theorem Part.grantRefusal_of_used {p : Part} {g : Nat} {r : Grant} (hg : g < 96) (h : p.grant g = some r) :
    p.grantRefusal g = none := by
  simp [Part.grantRefusal, Nat.not_le.mpr hg, h]

theorem Part.placementRefusal_of_range {p : Part} {t : Nat} (h : 16 ≤ t) : p.placementRefusal t = some .badField := by
  simp [Part.placementRefusal, h]

theorem Part.placementRefusal_of_empty {p : Part} {t : Nat} (ht : t < 16) (h : p.tenant t = none) :
    p.placementRefusal t = some .noTenant := by
  simp [Part.placementRefusal, Nat.not_le.mpr ht, h]

theorem Part.placementRefusal_of_active {p : Part} {t : Nat} {r : TenantRecord} (ht : t < 16) (h : p.tenant t = some r)
    (hs : r.status = .active) : p.placementRefusal t = none := by
  simp [Part.placementRefusal, Nat.not_le.mpr ht, h, hs]

theorem Part.placementRefusal_of_held {p : Part} {t : Nat} {r : TenantRecord} (ht : t < 16) (h : p.tenant t = some r)
    (hs : r.status = .held) : p.placementRefusal t = some .held := by
  simp [Part.placementRefusal, Nat.not_le.mpr ht, h, hs]

theorem Part.placementRefusal_of_retiring {p : Part} {t : Nat} {r : TenantRecord} (ht : t < 16)
    (h : p.tenant t = some r) (hs : r.status = .retiring) : p.placementRefusal t = some .gone := by
  simp [Part.placementRefusal, Nat.not_le.mpr ht, h, hs]

/-- What a tenant's status refuses of a placement. -/
theorem Part.placementRefusal_cases {p : Part} {t : Nat} {r : TenantRecord} (ht : t < 16) (h : p.tenant t = some r)
    {refused : Status → Prop} (hrefused : ∀ why, p.placementRefusal t = some why → refused why) :
    (r.status = .held → refused .held) ∧ (r.status = .retiring → refused .gone) :=
  ⟨fun hs => hrefused _ (Part.placementRefusal_of_held ht h hs),
    fun hs => hrefused _ (Part.placementRefusal_of_retiring ht h hs)⟩

/-- The checks of a request that changes a tenant, in their order. -/
theorem Part.tenantRefusal_cases {p : Part} {t : Nat} {refused : Status → Prop}
    (hrefused : ∀ why, p.tenantRefusal t = some why → refused why) :
    (16 ≤ t → refused .badField) ∧ (t < 16 → p.tenant t = none → refused .noTenant) ∧
      ∀ r, t < 16 → p.tenant t = some r → r.status = .retiring → refused .gone :=
  ⟨fun ht => hrefused _ (Part.tenantRefusal_of_range ht), fun ht h => hrefused _ (Part.tenantRefusal_of_empty ht h),
    fun _ ht h hs => hrefused _ (Part.tenantRefusal_of_retiring ht h hs)⟩

/-- The checks of a request that names a grant: the id, the record, its tenant, and then the request's own. -/
theorem Part.grantRefusal_cases {p : Part} {g : Nat} {refused : Status → Prop} {further : Grant → Prop}
    (hgrant : ∀ why, p.grantRefusal g = some why → refused why)
    (htenant : ∀ r why, p.grantRefusal g = none → p.grant g = some r → p.placementRefusal r.tenant = some why →
      refused why)
    (hfurther : ∀ r t, p.grantRefusal g = none → p.grant g = some r → p.placementRefusal r.tenant = none →
      p.tenant r.tenant = some t → further r) :
    (96 ≤ g → refused .badField) ∧ (g < 96 → p.grant g = none → refused .noGrant) ∧
      ∀ r t, g < 96 → p.grant g = some r → r.tenant < 16 → p.tenant r.tenant = some t →
        ((t.status = .held → refused .held) ∧ (t.status = .retiring → refused .gone)) ∧
          (t.status = .active → further r) := by
  refine ⟨fun hg => hgrant _ (Part.grantRefusal_of_range hg), fun hg h => hgrant _ (Part.grantRefusal_of_free hg h),
    fun r t hg hr ht h => ⟨?_, fun hs => ?_⟩⟩
  · exact Part.placementRefusal_cases ht h fun why => htenant r why (Part.grantRefusal_of_used hg hr) hr
  · exact hfurther r t (Part.grantRefusal_of_used hg hr) hr (Part.placementRefusal_of_active ht h hs) h

/-! ### Owners that refuse -/

theorem Part.amend_of_refused {p : Part} {q : AmendFields} {why : Status} (h : p.tenantRefusal q.tenant = some why) :
    Part.amend q p = (p, refuse why) := by
  simp only [Part.amend, h, Option.getD_some]

theorem Part.faultMask_of_refused {p : Part} {q : FaultMaskFields} {why : Status}
    (h : p.tenantRefusal q.tenant = some why) : Part.faultMask q p = (p, refuse why) := by
  simp only [Part.faultMask, h, Option.getD_some]

theorem Part.faultClear_of_refused {p : Part} {q : FaultClearFields} {why : Status}
    (h : p.tenantRefusal q.tenant = some why) : Part.faultClear q p = (p, refuse why) := by
  simp only [Part.faultClear, h, Option.getD_some]

theorem Part.retire_of_refused {p : Part} {t : Nat} {why : Status} (h : p.tenantRefusal t = some why) :
    Part.retire t p = (p, refuse why) := by
  simp only [Part.retire, h, Option.getD_some]

theorem Part.forceRetire_of_refused {p : Part} {t : Nat} {why : Status} (h : p.tenantRefusal t = some why) :
    Part.forceRetire t p = (p, refuse why) := by
  simp only [Part.forceRetire, h, Option.getD_some]

/-! ### GRANT_LEVEL (R94) -/

theorem Part.levelRefusal_of_grant {p : Part} {q : LevelFields} {why : Status}
    (h : p.grantRefusal q.grant = some why) : p.levelRefusal q = some why := by
  simp only [Part.levelRefusal, h, Option.getD_some]

/-- The checks of a grant in use: its tenant, and then its direction, its state and the level. -/
theorem Part.levelRefusal_of_used {p : Part} {q : LevelFields} {r : Grant} (hg : p.grantRefusal q.grant = none)
    (hr : p.grant q.grant = some r) : p.levelRefusal q = (p.placementRefusal r.tenant).or
      (if r.dir = .ret then some .wrongClass else if r.state ≠ .active then some .busy
        else if q.level < -96 ∨ 48 < q.level then some .badField else none) := by
  cases ht : p.placementRefusal r.tenant with
  | none => simp only [Part.levelRefusal, hg, hr, ht, Bool.not_eq_true', levelInRange_iff, beq_iff_eq, bne_iff_ne,
      Option.none_or]
  | some why => simp only [Part.levelRefusal, hg, hr, ht, Option.some_or]

theorem Part.changeLevel_of_refused {p : Part} {q : LevelFields} {why : Status} (h : p.levelRefusal q = some why) :
    Part.changeLevel q p = (p, refuse why) := by
  simp only [Part.changeLevel, h, Option.getD_some]

/-! ### The take of a placement item (R59, R60) -/

/-- The part when an item that was taken has been refused: it has left the queue, its reply in build. -/
def Part.refusing (p : Part) (i : QueueItem) (rest : List Work) (why : Status) : Part :=
  { p with alloc := { p.alloc with work := rest, reply := some ⟨i.tag, i.fields.kind, refuse why, i.detached⟩ } }

/-- An item that is taken and refused leaves the queue, its reply in build, and nothing else changes. -/
theorem State.act_of_refused {s : State} {f : Part → Part} {i : QueueItem} {rest : List Work} {why : Status}
    (hwork : s.part.alloc.work = .item i :: rest) (hf : f s.part = i.build (s.part.dropFront, refuse why)) :
    s.act f = .next { s with part := s.part.refusing i rest why } := by
  have hbuild : i.build (s.part.dropFront, refuse why) = s.part.refusing i rest why := by
    simp only [QueueItem.build, Part.dropFront, Part.refusing, hwork, List.tail_cons]
  have htest : s.part.commitTest (s.part.refusing i rest why) = s.part.refusing i rest why :=
    Part.commitTest_of_same rfl rfl
  rw [State.act_eq, hf, hbuild, htest]

/-- A GRANT_ASK that its decision refuses. -/
theorem State.askTake_of_refused {s : State} {tag : Byte} {q : AskFields} {detached : Bool} {rest : List Work}
    {why : Status} (hmay : s.part.mayTake = true) (hwork : s.part.alloc.work = .item ⟨tag, .ask q, detached⟩ :: rest)
    (h : s.part.dropFront.decideAsk q = (s.part.dropFront, refuse why)) :
    exec .grantAskTake s = .next { s with part := s.part.refusing ⟨tag, .ask q, detached⟩ rest why } :=
  State.act_of_refused hwork (by simp only [Part.takeAsk, hwork, hmay, if_true, h])

/-- A GRANT_MOVE that its decision refuses. -/
theorem State.moveTake_of_refused {s : State} {tag : Byte} {q : MoveFields} {detached : Bool} {rest : List Work}
    {why : Status} (hmay : s.part.mayTake = true) (hwork : s.part.alloc.work = .item ⟨tag, .move q, detached⟩ :: rest)
    (h : s.part.dropFront.decideMove q = (s.part.dropFront, refuse why)) :
    exec .grantMoveTake s = .next { s with part := s.part.refusing ⟨tag, .move q, detached⟩ rest why } :=
  State.act_of_refused hwork (by simp only [Part.takeMove, hwork, hmay, if_true, h])

/-- A GRANT_RESIZE that its decision refuses. -/
theorem State.resizeTake_of_refused {s : State} {tag : Byte} {q : ResizeFields} {detached : Bool} {rest : List Work}
    {why : Status} (hmay : s.part.mayTake = true) (hwork : s.part.alloc.work = .item ⟨tag, .resize q, detached⟩ :: rest)
    (h : s.part.dropFront.decideResize q = (s.part.dropFront, refuse why)) :
    exec .grantResizeTake s = .next { s with part := s.part.refusing ⟨tag, .resize q, detached⟩ rest why } :=
  State.act_of_refused hwork (by simp only [Part.takeResize, hwork, hmay, if_true, h])

/-! ### The fields of an ask (R42, R45) -/

/-- The fields that an ask of a tenant may not carry (R45). -/
def askBad (t : TenantRecord) (q : AskFields) : Prop :=
  (q.dir ≠ 0 ∧ q.dir ≠ 1) ∨ (q.dir = 0 ∧ t.dirs = .ret) ∨ (q.dir = 1 ∧ t.dirs = .forward) ∨
    (t.cls = .data ∧ ∀ w, q.width = some w → w < 2 ∨ 128 < w) ∨
    (t.cls = .data ∧ ∃ w f, q.width = some w ∧ q.floor = some f ∧ (f < 2 ∨ w < f)) ∨
    (t.cls = .voice ∧ ∃ w, q.width = some w ∧ w ≠ 1) ∨ (t.cls = .video ∧ ∃ w, q.width = some w ∧ w ≠ 4) ∨
    (¬t.cls = .data ∧ q.floor.isSome) ∨ (q.dir = 1 ∧ q.level.isSome) ∨
    ∃ l, q.level = some l ∧ (l < -96 ∨ 48 < l)

theorem allowsDirection_iff {dirs : Directions} {d : Direction} :
    allowsDirection dirs d = false ↔ (d = .forward ∧ dirs = .ret) ∨ (d = .ret ∧ dirs = .forward) := by
  cases dirs <;> cases d <;> decide

/-- The width and the floor width of an ask have not the shape of the class. -/
theorem askShapeOk_iff {cls : CarrierClass} {q : AskFields} : askShapeOk cls q = false ↔
    (cls = .data ∧ ∀ w, q.width = some w → w < 2 ∨ 128 < w) ∨
      (cls = .data ∧ ∃ w f, q.width = some w ∧ q.floor = some f ∧ (f < 2 ∨ w < f)) ∨
      (cls = .voice ∧ ∃ w, q.width = some w ∧ w ≠ 1) ∨ (cls = .video ∧ ∃ w, q.width = some w ∧ w ≠ 4) ∨
      (¬cls = .data ∧ q.floor.isSome) := by
  cases cls with
  | data =>
    cases hw : q.width with
    | none => simp [askShapeOk, hw]
    | some w =>
      cases hf : q.floor with
      | none =>
        simp only [askShapeOk, hw, hf]
        simp
        omega
      | some f =>
        simp only [askShapeOk, hw, hf]
        simp
        omega
  | video =>
    cases hw : q.width with
    | none => cases hf : q.floor <;> simp [askShapeOk, hw, hf]
    | some w => cases hf : q.floor <;> simp [askShapeOk, askWidth, hw, hf]
  | voice =>
    cases hw : q.width with
    | none => cases hf : q.floor <;> simp [askShapeOk, hw, hf]
    | some w => cases hf : q.floor <;> simp [askShapeOk, askWidth, hw, hf]

theorem all_levelInRange_iff {v : Option Int} :
    v.all levelInRange = false ↔ ∃ l, v = some l ∧ (l < -96 ∨ 48 < l) := by
  cases v with
  | none => simp
  | some l => simp [levelInRange_iff]

/-- The direction of an ask is that of its code where the ask passes its checks, and none where it fails one. -/
theorem askDirection_of_code {t : TenantRecord} {q : AskFields} {d : Direction} (h : directionOf q.dir = some d) :
    askDirection t q = none ↔ allowsDirection t.dirs d = false ∨ askShapeOk t.cls q = false ∨
      (d = .ret ∧ q.level.isSome) ∨ q.level.all levelInRange = false := by
  have hd : d ≠ .forward ↔ d = .ret := by cases d <;> decide
  rw [askDirection, h]
  simp only [Option.filter_eq_none_iff, Option.some.injEq, forall_eq', Bool.and_eq_true, Bool.or_eq_true, not_and_or,
    not_or, Bool.not_eq_true, beq_iff_eq, hd, Option.isNone_eq_false_iff, or_assoc]

theorem askDirection_eq_none {t : TenantRecord} {q : AskFields} : askDirection t q = none ↔ askBad t q := by
  have hcode : q.dir = 0 ∨ q.dir = 1 ∨ (q.dir ≠ 0 ∧ q.dir ≠ 1) := by tauto
  rcases hcode with h | h | ⟨h0, h1⟩
  · have hd : directionOf q.dir = some .forward := by simp [directionOf, h]
    rw [askDirection_of_code hd, allowsDirection_iff, askShapeOk_iff, all_levelInRange_iff, askBad]
    simp [h, or_assoc]
  · have hd : directionOf q.dir = some .ret := by simp [directionOf, h]
    rw [askDirection_of_code hd, allowsDirection_iff, askShapeOk_iff, all_levelInRange_iff, askBad]
    simp [h, or_assoc]
  · have hd : directionOf q.dir = none := by simp only [directionOf, beq_iff_eq, if_neg h0, if_neg h1]
    exact iff_of_true (by simp [askDirection, hd]) (.inl ⟨h0, h1⟩)

theorem Part.decideAsk_of_refused {p : Part} {q : AskFields} {why : Status}
    (h : p.placementRefusal q.tenant = some why) : p.decideAsk q = (p, refuse why) := by
  simp only [Part.decideAsk, h, Option.getD_some]

theorem Part.decideAsk_of_bad {p : Part} {q : AskFields} {t : TenantRecord} (h : p.placementRefusal q.tenant = none)
    (ht : p.tenant q.tenant = some t) (hbad : askBad t q) : p.decideAsk q = (p, refuse .badField) := by
  simp only [Part.decideAsk, h, ht, askDirection_eq_none.mpr hbad]

/-- With every record in use, or the tenant's list full, an ask gets no record (R42, R28). -/
theorem Part.decideAsk_of_full {p : Part} {q : AskFields} {t : TenantRecord} (h : p.placementRefusal q.tenant = none)
    (ht : p.tenant q.tenant = some t) (hok : ¬askBad t q)
    (hfull : p.lowestFree = none ∨ classLimit t.cls ≤ t.grants.length) : p.decideAsk q = (p, refuse .noRecord) := by
  obtain ⟨d, hd⟩ := Option.ne_none_iff_exists'.mp (mt askDirection_eq_none.mp hok)
  simp only [Part.decideAsk, h, ht, hd]
  cases hfree : p.lowestFree with
  | none => rfl
  | some g =>
    have hlimit := hfull.resolve_left (by simp [hfree])
    simp only [if_pos hlimit]

theorem Part.lowestFree_of_full {p : Part} (hlen : p.grants.length = 96) (h : ∀ g, g < 96 → p.grant g ≠ none) :
    p.lowestFree = none := by
  refine List.findIdx?_eq_none_iff.mpr fun x hx => ?_
  obtain ⟨g, hg, rfl⟩ := List.getElem_of_mem hx
  have := h g (hlen ▸ hg)
  simpa [Part.grant, List.getD_eq_getElem?_getD, hg, Option.ne_none_iff_isSome] using this

/-! ### The fields of a move (R78) and of a resize (R80) -/

theorem Part.changeRefusal_of_grant {p : Part} {g : Nat} {why : Status} (h : p.grantRefusal g = some why) :
    p.changeRefusal g = some why := by
  simp only [Part.changeRefusal, h, Option.getD_some]

/-- The checks of a grant in use: its tenant, and then its state. -/
theorem Part.changeRefusal_of_used {p : Part} {g : Nat} {r : Grant} (hg : p.grantRefusal g = none)
    (hr : p.grant g = some r) : p.changeRefusal g =
      (p.placementRefusal r.tenant).or (if r.state = .active then none else some .busy) := by
  cases ht : p.placementRefusal r.tenant with
  | none => simp only [Part.changeRefusal, hg, hr, ht, beq_iff_eq, Option.none_or]
  | some why => simp only [Part.changeRefusal, hg, hr, ht, Option.some_or]

theorem Part.decideMove_of_refused {p : Part} {q : MoveFields} {why : Status} (h : p.changeRefusal q.grant = some why) :
    p.decideMove q = (p, refuse why) := by
  simp only [Part.decideMove, h, Option.getD_some]

theorem Part.decideMove_of_target {p : Part} {q : MoveFields} {r : Grant} {t : TenantRecord} {c : Nat}
    (h : p.changeRefusal q.grant = none) (hr : p.grant q.grant = some r) (ht : p.tenant r.tenant = some t)
    (hc : q.target = some c) (hbad : p.targetOk r c = false) : p.decideMove q = (p, refuse .badField) := by
  simp only [Part.decideMove, h, hr, ht, hc, Option.all_some, hbad, Bool.not_false, if_true]

theorem Part.targetOk_of_not_candidate {p : Part} {r : Grant} {c : Nat}
    (h : isCandidate r.cls (p.band r.dir).1 (p.band r.dir).2 r.width c = false) : p.targetOk r c = false := by
  simp [Part.targetOk, h]

theorem Part.targetOk_of_overlap {p : Part} {r : Grant} {c n : Nat} (hn : n < 1024)
    (hc : windowCovers r.cls c r.width n = true) (hr : r.covers n = true) : p.targetOk r c = false := by
  have hall : ((List.range 1024).all fun n => !(windowCovers r.cls c r.width n && r.covers n)) = false := by
    refine List.all_eq_false.mpr ⟨n, by simpa using hn, by simp [hc, hr]⟩
  simp only [Part.targetOk, hall, Bool.and_false]

theorem Part.band_eq (p : Part) (d : Direction) :
    p.band d = (if d = .ret then 0 else p.split + 8, if d = .ret then p.split - 1 else 1023) := by
  cases d <;> rfl

theorem Part.decideResize_of_refused {p : Part} {q : ResizeFields} {why : Status}
    (h : p.changeRefusal q.grant = some why) : p.decideResize q = (p, refuse why) := by
  simp only [Part.decideResize, h, Option.getD_some]

theorem Part.decideResize_of_class {p : Part} {q : ResizeFields} {r : Grant} {t : TenantRecord}
    (h : p.changeRefusal q.grant = none) (hr : p.grant q.grant = some r) (ht : p.tenant r.tenant = some t)
    (hc : r.cls ≠ .data) : p.decideResize q = (p, refuse .wrongClass) := by
  simp only [Part.decideResize, h, hr, ht, bne_iff_ne, ne_eq, hc, not_false_eq_true, if_true]

theorem Part.decideResize_of_fields {p : Part} {q : ResizeFields} {r : Grant} {t : TenantRecord}
    (h : p.changeRefusal q.grant = none) (hr : p.grant q.grant = some r) (ht : p.tenant r.tenant = some t)
    (hc : r.cls = .data) (hbad : resizeFieldsOk r q = false) : p.decideResize q = (p, refuse .badField) := by
  simp only [Part.decideResize, h, hr, ht, hc, bne_self_eq_false, hbad, Bool.false_eq_true, Bool.not_false, if_false,
    if_true]

/-- The widths that a resize may not carry. -/
theorem resizeFieldsOk_of_bad {r : Grant} {q : ResizeFields}
    (h : q.width < 2 ∨ 128 < q.width ∨ (∃ f, q.floor = some f ∧ (f < 2 ∨ q.width < f)) ∨
      (q.floor = none ∧ ∃ f, r.floor = some f ∧ q.width < f)) : resizeFieldsOk r q = false := by
  rcases h with hw | hw | ⟨f, hf, hbad | hbad⟩ | ⟨hnone, f, hf, hbad⟩
  · simp [resizeFieldsOk, Nat.not_le.mpr hw]
  · simp [resizeFieldsOk, Nat.not_le.mpr hw]
  · simp [resizeFieldsOk, hf, Nat.not_le.mpr hbad]
  · simp [resizeFieldsOk, hf, Nat.not_le.mpr hbad]
  · simp [resizeFieldsOk, hnone, hf, Nat.not_le.mpr hbad]

end Sys2Proof.Machine
end

section
/-! The checks of the requests that name a tenant or a grant: O24. -/

namespace Sys2Proof.Machine

/-- A target that the class and the band of its grant do not allow (R65, R78). -/
theorem Part.targetOk_of_bad {p : Part} {r : Grant} {c : Nat} :
    let bottom := if r.dir = .ret then 0 else p.split + 8
    let top := if r.dir = .ret then p.split - 1 else 1023
    (r.cls = .data → c < bottom ∨ top + 1 < c + r.width → p.targetOk r c = false) ∧
      (r.cls = .video → c % 4 ≠ 0 ∨ c < bottom ∨ top < c + 3 → p.targetOk r c = false) ∧
      (r.cls = .voice → c < bottom + 1 ∨ top < c + 1 → p.targetOk r c = false) := by
  have candidate : ∀ lo hi, p.band r.dir = (lo, hi) → isCandidate r.cls lo hi r.width c = false →
      p.targetOk r c = false := fun lo hi hband h => Part.targetOk_of_not_candidate (by rwa [hband])
  refine ⟨fun hc hbad => ?_, fun hc hbad => ?_, fun hc hbad => ?_⟩
  · refine candidate _ _ (p.band_eq r.dir) ?_
    simp only [isCandidate, hc, Bool.and_eq_false_iff, decide_eq_false_iff_not, not_le]
    exact hbad
  · refine candidate _ _ (p.band_eq r.dir) ?_
    simp only [isCandidate, hc, Bool.and_eq_false_iff, decide_eq_false_iff_not, not_le, beq_eq_false_iff_ne, or_assoc]
    exact hbad
  · refine candidate _ _ (p.band_eq r.dir) ?_
    simp only [isCandidate, hc, Bool.and_eq_false_iff, decide_eq_false_iff_not, not_le]
    exact hbad

/-- The checks that a move and a resize share, in their order; then their own. -/
theorem Part.changeRefusal_cases {p : Part} {g : Nat} {refused : Status → Prop} {further : Grant → Prop}
    (hrefused : ∀ why, p.changeRefusal g = some why → refused why)
    (hfurther : ∀ r t, p.grant g = some r → p.tenant r.tenant = some t →
      (r.state ≠ .active → refused .busy) → (r.state = .active → p.changeRefusal g = none) → further r) :
    (96 ≤ g → refused .badField) ∧ (g < 96 → p.grant g = none → refused .noGrant) ∧
      ∀ r t, g < 96 → p.grant g = some r → r.tenant < 16 → p.tenant r.tenant = some t →
        ((t.status = .held → refused .held) ∧ (t.status = .retiring → refused .gone)) ∧
          (t.status = .active → further r) := by
  refine Part.grantRefusal_cases (fun why h => hrefused why (Part.changeRefusal_of_grant h))
    (fun r why hg hr ht => hrefused why ?_) fun r t hg hr ht htenant =>
      hfurther r t hr htenant (fun hs => hrefused _ ?_) fun hs => ?_
  · rw [Part.changeRefusal_of_used hg hr, ht, Option.some_or]
  · rw [Part.changeRefusal_of_used hg hr, ht, Option.none_or, if_neg hs]
  · rw [Part.changeRefusal_of_used hg hr, ht, Option.none_or, if_pos hs]

/-- Settles O24: each request's refusal goes through its own checks in their order. -/
theorem checksRefuseInOrder : Obligations.ChecksRefuseInOrder := by
  refine ⟨fun s tag => ⟨fun q => ?_, fun q => ?_, fun q => ?_, fun t => ?_, fun t => ?_⟩,
    fun s => ⟨fun tag q ha => ?_, fun tag detached rest hmay hshaped => ⟨fun q hitem => ?_, fun q hitem => ?_,
      fun q hitem => ?_⟩⟩⟩
  · exact Part.tenantRefusal_cases fun why h ha => State.serve_of_kept 0x11 _ ha (Part.amend_of_refused h)
  · exact Part.tenantRefusal_cases fun why h ha => State.serve_of_kept 0x14 _ ha (Part.faultMask_of_refused h)
  · exact Part.tenantRefusal_cases fun why h ha => State.serve_of_kept 0x15 _ ha (Part.faultClear_of_refused h)
  · exact Part.tenantRefusal_cases fun why h ha => State.serve_of_kept 0x12 _ ha (Part.retire_of_refused h)
  · exact Part.tenantRefusal_cases fun why h ha => State.serve_of_kept 0x12 _ ha (Part.forceRetire_of_refused h)
  · have refused := fun why h => State.serve_of_kept 0x30 (Part.changeLevel q) ha
      (Part.changeLevel_of_refused (why := why) h)
    refine Part.grantRefusal_cases (fun why h => refused why (Part.levelRefusal_of_grant h))
      (fun r why hg hr ht => refused why ?_) fun r t hg hr ht _ => ⟨fun hd => refused _ ?_, fun hd hs => refused _ ?_,
        fun hd hs hl => refused _ ?_⟩
    · rw [Part.levelRefusal_of_used hg hr, ht, Option.some_or]
    · simp [Part.levelRefusal_of_used hg hr, ht, hd]
    · simp [Part.levelRefusal_of_used hg hr, ht, hd, hs]
    · simp [Part.levelRefusal_of_used hg hr, ht, hd, hs, hl]
  · have refused := fun why h => State.askTake_of_refused (why := why) hmay hitem h
    have early := fun why h => refused why (Part.decideAsk_of_refused h)
    refine ⟨fun ht => early _ (Part.placementRefusal_of_range ht),
      fun ht h => early _ (Part.placementRefusal_of_empty ht h), fun t ht h =>
        ⟨Part.placementRefusal_cases ht h early, fun hs hbad => refused _ ?_, fun hs hok hfull => refused _ ?_⟩⟩
    · exact Part.decideAsk_of_bad (Part.placementRefusal_of_active ht h hs) h hbad
    · obtain ⟨-, -, -, hgrants, -⟩ := hshaped
      exact Part.decideAsk_of_full (Part.placementRefusal_of_active ht h hs) h hok
        (hfull.imp_left (Part.lowestFree_of_full hgrants))
  · have refused := fun why h => State.moveTake_of_refused (why := why) hmay hitem h
    refine Part.changeRefusal_cases (fun why h => refused why (Part.decideMove_of_refused h))
      fun r t hr ht hbusy hpass => ⟨hbusy, fun c hs hc => ?_⟩
    have target := fun hbad => refused _ (Part.decideMove_of_target (hpass hs) hr ht hc hbad)
    obtain ⟨hdata, hvideo, hvoice⟩ := Part.targetOk_of_bad (p := s.part) (r := r) (c := c)
    exact ⟨fun hcls hbad => target (hdata hcls hbad), fun hcls hbad => target (hvideo hcls hbad),
      fun hcls hbad => target (hvoice hcls hbad),
      fun n hn hcovers hheld => target (Part.targetOk_of_overlap hn hcovers hheld)⟩
  · have refused := fun why h => State.resizeTake_of_refused (why := why) hmay hitem h
    exact Part.changeRefusal_cases (fun why h => refused why (Part.decideResize_of_refused h))
      fun r t hr ht hbusy hpass => ⟨hbusy,
        fun hs hcls => refused _ (Part.decideResize_of_class (hpass hs) hr ht hcls),
        fun hs hcls hbad => refused _ (Part.decideResize_of_fields (hpass hs) hr ht hcls (resizeFieldsOk_of_bad hbad))⟩

end Sys2Proof.Machine
end

section
/-! GRANT_RELEASE: O21 and O22, with what letting go leaves of the map, and the turning of a job into a RELEASE. -/

namespace Sys2Proof.Machine

/-! ### Letting go (R7): what it touches, and what the grant holds after it -/

/-- Only the map, the Level Controller and the events differ between `p` and `q`. -/
def Part.MapOnly (p q : Part) : Prop := ∃ u l e, q = { p with slices := u, level := l, events := e }

namespace Part.MapOnly

variable {p q r : Part}

theorem refl (p : Part) : Part.MapOnly p p := ⟨_, _, _, rfl⟩

theorem trans (h : Part.MapOnly p q) (k : Part.MapOnly q r) : Part.MapOnly p r := by
  obtain ⟨_, _, _, rfl⟩ := h
  obtain ⟨_, _, _, rfl⟩ := k
  exact ⟨_, _, _, rfl⟩

theorem foldl {α : Type} {f : Part → α → Part} (hf : ∀ p a, Part.MapOnly p (f p a)) (l : List α) (p : Part) :
    Part.MapOnly p (l.foldl f p) := by
  induction l generalizing p with
  | nil => exact refl p
  | cons a l ih => exact (hf p a).trans (ih _)

theorem commitTest (p q : Part) : Part.MapOnly q (p.commitTest q) := by
  obtain ⟨u, h, -⟩ := p.commitTest_frame q
  exact ⟨_, _, _, h⟩

theorem tenants (h : Part.MapOnly p q) : q.tenants = p.tenants := by obtain ⟨_, _, _, rfl⟩ := h; rfl

theorem grants (h : Part.MapOnly p q) : q.grants = p.grants := by obtain ⟨_, _, _, rfl⟩ := h; rfl

theorem engine (h : Part.MapOnly p q) : q.engine = p.engine := by obtain ⟨_, _, _, rfl⟩ := h; rfl

theorem store (h : Part.MapOnly p q) : q.store = p.store := by obtain ⟨_, _, _, rfl⟩ := h; rfl

end Part.MapOnly

theorem Part.mapOnly_capTest (p : Part) : Part.MapOnly p p.capTest := by
  rcases p.capTest_eq with h | ⟨-, -, h⟩
  · rw [h]
    exact .refl p
  · rw [h]
    exact ⟨_, _, _, rfl⟩

theorem Part.slice_capTest (p : Part) (n : Nat) : p.capTest.slice n = p.slice n := by
  rcases p.capTest_eq with h | ⟨-, -, h⟩ <;> rw [h]
  rfl

theorem Part.slice_commitTest (p q : Part) (n : Nat) : (p.commitTest q).slice n = q.slice n := by
  obtain ⟨u, h, -⟩ := p.commitTest_frame q
  rw [h]
  rfl

/-- A grant holds a slice as the owner of its claim or carrier, or as one of its guard owners. -/
theorem SliceEntry.heldBy_iff {e : SliceEntry} {g : Nat} : e.heldBy g = true ↔
    e.use = .claimed g ∨ e.use = .granted g ∨ (∃ b, e.use = .guard g b) ∨ ∃ a, e.use = .guard a (some g) := by
  unfold SliceEntry.heldBy
  cases e.use <;> simp

theorem Part.lt_of_heldBy {p : Part} {n g : Nat} (h : (p.slice n).heldBy g = true) : n < p.slices.length := by
  by_contra hn
  simp [Part.slice, List.getD_eq_getElem?_getD, List.getElem?_eq_none (Nat.le_of_not_lt hn), SliceEntry.heldBy] at h

theorem SliceEntry.heldBy_released (e : SliceEntry) (g : Nat) : e.released.heldBy g = false := by
  unfold SliceEntry.released
  split <;> rfl

/-- A slice that parks or becomes FREE takes an entry that no grant holds. -/
theorem Part.parkOrFree_cases (p : Part) (n : Nat) (level : Int) :
    ∃ e, p.parkOrFree n level = p.setSlice n e ∧ ∀ g, e.heldBy g = false := by
  unfold Part.parkOrFree
  dsimp only
  split
  · exact ⟨_, rfl, fun _ => rfl⟩
  · exact ⟨_, rfl, fun _ => rfl⟩

/-- A slice is left where the grant does not hold it, and takes an entry that the grant does not hold where it does, but
for a GUARD that names the grant twice (which R3 excludes). -/
theorem Part.letGoSlice_cases (g : Nat) (level : Option Int) (p : Part) (n : Nat) :
    ((p.slice n).heldBy g = false ∧ Part.letGoSlice g level p n = p) ∨
      ∃ e, Part.letGoSlice g level p n = p.setSlice n e ∧
        ((p.slice n).use ≠ .guard g (some g) → e.heldBy g = false) := by
  by_cases hheld : (p.slice n).heldBy g = true
  · right
    rcases SliceEntry.heldBy_iff.mp hheld with h | h | ⟨b, h⟩ | ⟨a, h⟩
    · exact ⟨_, Part.letGoSlice_of_claimed h, fun _ => SliceEntry.heldBy_released _ g⟩
    · by_cases hstays : (p.slice n).impaired = true ∨ n < p.split
      · exact ⟨_, Part.letGoSlice_of_granted h hstays, fun _ => SliceEntry.heldBy_released _ g⟩
      · obtain ⟨hmark, hband⟩ := not_or.mp hstays
        obtain ⟨e, he, hfree⟩ := p.parkOrFree_cases n (level.getD 0)
        exact ⟨e, (Part.letGoSlice_of_forward h (by simpa using hmark) (Nat.not_lt.mp hband)).trans he,
          fun _ => hfree g⟩
    · cases b with
      | none => exact ⟨_, Part.letGoSlice_of_guard h, fun _ => SliceEntry.heldBy_released _ g⟩
      | some k =>
        refine ⟨_, Part.letGoSlice_of_first_guard h, fun htwice => ?_⟩
        have hk : k ≠ g := fun e => htwice (e ▸ h)
        simp [SliceEntry.heldBy, hk]
    · by_cases ha : a = g
      · exact ⟨_, Part.letGoSlice_of_first_guard (ha ▸ h), fun htwice => absurd (ha ▸ h) htwice⟩
      · exact ⟨_, Part.letGoSlice_of_second_guard ha h, fun _ => by simp [SliceEntry.heldBy, ha]⟩
  · have hfree : (p.slice n).heldBy g = false := by simpa using hheld
    exact .inl ⟨hfree, Part.letGoSlice_of_not_held hfree⟩

theorem Part.heldBy_letGoSlice {p : Part} {n g : Nat} (hn : n < p.slices.length) (level : Option Int)
    (htwice : (p.slice n).use ≠ .guard g (some g)) : ((Part.letGoSlice g level p n).slice n).heldBy g = false := by
  rcases Part.letGoSlice_cases g level p n with ⟨hfree, h⟩ | ⟨e, h, hfree⟩
  · rwa [h]
  · rw [h, Part.slice_setSlice_self _ _ _ hn]
    exact hfree htwice

theorem Part.mapOnly_letGoSlice (g : Nat) (level : Option Int) (p : Part) (n : Nat) :
    Part.MapOnly p (Part.letGoSlice g level p n) := by
  rcases Part.letGoSlice_cases g level p n with ⟨-, h⟩ | ⟨e, h, -⟩
  · rw [h]
    exact .refl p
  · rw [h]
    exact ⟨_, _, _, rfl⟩

/-- Slices let go one after another leave every other slice, and one that the grant does not hold. -/
theorem Part.slice_foldl_letGoSlice (g : Nat) (level : Option Int) {n : Nat} (ns : List Nat) (p : Part)
    (h : n ∉ ns ∨ (p.slice n).heldBy g = false) : (ns.foldl (Part.letGoSlice g level) p).slice n = p.slice n := by
  induction ns generalizing p with
  | nil => rfl
  | cons k ns ih =>
    have hstep : (Part.letGoSlice g level p k).slice n = p.slice n := by
      by_cases e : n = k
      · subst e
        rw [Part.letGoSlice_of_not_held (h.resolve_left (by simp))]
      · exact Part.slice_letGoSlice_ne g level p k e
    rw [List.foldl_cons, ih _ (by rw [hstep]; exact h.imp_left fun hn hk => hn (by simp [hk])), hstep]

/-- A slice among those let go is held no longer. -/
theorem Part.heldBy_foldl_letGoSlice {g n : Nat} (level : Option Int) {ns : List Nat} {p : Part} (hmem : n ∈ ns)
    (hn : n < p.slices.length) (htwice : (p.slice n).use ≠ .guard g (some g)) :
    ((ns.foldl (Part.letGoSlice g level) p).slice n).heldBy g = false := by
  induction ns generalizing p with
  | nil => cases hmem
  | cons k ns ih =>
    rw [List.foldl_cons]
    by_cases e : n = k
    · subst e
      have hgone := Part.heldBy_letGoSlice hn level htwice
      rwa [Part.slice_foldl_letGoSlice g level ns _ (.inr hgone)]
    · have hlen : (Part.letGoSlice g level p k).slices.length = p.slices.length := (p.kept_letGoSlice g level k).slices
      exact ih ((List.mem_cons.mp hmem).resolve_left e) (by rwa [hlen])
        (by rwa [Part.slice_letGoSlice_ne g level p k e])

/-- With no job ended, what a grant holds outside `keep` is let go slice by slice, after the test of the cap. -/
theorem Part.letGo_eq (p : Part) (g : Nat) (level : Option Int) (keep : Nat → Bool) : p.letGo g level none keep =
    ((List.range 1024).filter fun n => (p.capTest.slice n).heldBy g && !keep n).foldl (Part.letGoSlice g level)
      p.capTest := rfl

theorem Part.mapOnly_letGo (p : Part) (g : Nat) (level : Option Int) (keep : Nat → Bool) :
    Part.MapOnly p (p.letGo g level none keep) := by
  rw [Part.letGo_eq]
  exact p.mapOnly_capTest.trans (.foldl (Part.mapOnly_letGoSlice g level) _ _)

theorem Part.slice_letGo_of_kept {p : Part} {g n : Nat} (level : Option Int) {keep : Nat → Bool}
    (h : (p.slice n).heldBy g = false ∨ keep n = true) : (p.letGo g level none keep).slice n = p.slice n := by
  rw [Part.letGo_eq, Part.slice_foldl_letGoSlice, Part.slice_capTest]
  left
  rcases h with h | h <;> simp [Part.slice_capTest, h]

theorem Part.heldBy_letGo {p : Part} {g n : Nat} (hlen : p.slices.length = 1024) (level : Option Int)
    {keep : Nat → Bool} (hheld : (p.slice n).heldBy g = true) (hkeep : keep n = false)
    (htwice : (p.slice n).use ≠ .guard g (some g)) : ((p.letGo g level none keep).slice n).heldBy g = false := by
  have hn := Part.lt_of_heldBy hheld
  rw [Part.letGo_eq]
  refine Part.heldBy_foldl_letGoSlice level ?_ ?_ (by rwa [Part.slice_capTest])
  · rw [hlen] at hn
    simp [Part.slice_capTest, hn, hheld, hkeep]
  · rwa [p.kept_capTest.slices]

/-! ### A job turned into a RELEASE (R116) -/

/-- The RELEASE that a job becomes, with this destination and run. -/
def Job.turned (j : Job) (dest : Option Place) (run : Option Run) : Job :=
  { j with kind := .release, relocation := false, after := none, dest := dest, run := run }

/-- The part with the job `j` turned, and its grant `x` LEAVING. -/
def Part.turning (p : Part) (j : Job) (x : Grant) (dest : Option Place) (run : Option Run) : Part :=
  { p with
    grants := p.grants.set j.grant (some x.released)
    engine := { p.engine with jobs := p.engine.jobs.map fun k => if k.id = j.id then j.turned dest run else k } }

/-- The turn, written as the model makes it. -/
theorem Part.enterLeaving_mapJob {p : Part} {j : Job} {x : Grant} (hx : p.grant j.grant = some x)
    (dest : Option Place) (run : Option Run) :
    (p.mapJob j.id fun _ => j.turned dest run).enterLeaving j.grant = p.turning j x dest run := by
  have hx' : (p.mapJob j.id fun _ => j.turned dest run).grant j.grant = some x := hx
  have hjobs : (p.engine.jobs.map fun k => if k.id == j.id then j.turned dest run else k) =
      p.engine.jobs.map fun k => if k.id = j.id then j.turned dest run else k := by simp only [beq_iff_eq]
  rw [Part.enterLeaving, hx']
  simp only [Part.mapJob, hjobs]
  rfl

/-- The turned job is the only one of its id. -/
theorem Part.holdsJob_turned {p q : Part} {j : Job} (h : p.holdsJob j) (x : Grant) {dest : Option Place}
    {run : Option Run} (hq : q.engine = (p.turning j x dest run).engine) : q.holdsJob (j.turned dest run) := by
  rw [Part.holdsJob, hq]
  refine ⟨List.mem_map.mpr ⟨j, h.1, if_pos rfl⟩, fun k hk hid => ?_⟩
  obtain ⟨i, -, rfl⟩ := List.mem_map.mp hk
  by_cases e : i.id = j.id
  · exact if_pos e
  · rw [if_neg e] at hid
    exact absurd hid e

/-- A turned job that takes another run. -/
theorem Part.engine_withRun_turned {p q : Part} {j : Job} {x : Grant} {dest : Option Place} {run : Option Run}
    (hq : q.engine = (p.turning j x dest run).engine) (next : Run) :
    (q.withRun j.id next).engine = (p.turning j x dest (some next)).engine := by
  have hjobs : q.engine.jobs.map (fun k => if k.id = j.id then { k with run := some next } else k) =
      p.engine.jobs.map fun k => if k.id = j.id then j.turned dest (some next) else k := by
    rw [hq]
    refine (List.map_map ..).trans (List.map_congr_left fun k _ => ?_)
    by_cases e : k.id = j.id
    · simp [e, Job.turned]
    · simp [e]
  simp only [Part.withRun, hjobs]
  rw [hq]
  rfl

/-- HOLD begins for a job that has been turned (R116). -/
theorem Part.beginHold_turned {p q : Part} {j : Job} (h : p.holdsJob j) {x : Grant} {dest : Option Place} {run : Run}
    (hq : q.engine = (p.turning j x dest (some run)).engine) (hhold : run.timings.hold ≠ 0) :
    q.beginHold j.id = q.withRun j.id run.held :=
  Part.beginHold_of_run (j := j.turned dest (some run)) (Part.holdsJob_turned h x hq) rfl hhold

/-! ### A cycle cut short, by its state and phase (R116) -/

theorem Job.silent_iff {j : Job} : j.silent = true ↔ ∀ x, j.run = some x → x.phase = .setup := by
  unfold Job.silent
  cases j.run <;> simp

/-- A silent cycle that does not arrive: its destination is let go, and HOLD begins in full where SETUP ran. -/
theorem Part.cutShort_of_silent {p : Part} {j : Job} {x : Grant} (hx : p.grant j.grant = some x)
    (hs : x.state = .moving ∨ x.state = .resizing) (hj : j.silent = true) :
    let q := (p.turning j x none j.run).letGo j.grant x.level none x.covers
    p.cutShort j x false = if j.run.isSome then q.beginHold j.id else q := by
  have harr : (x.state == .arriving) = false := by rcases hs with h | h <;> rw [h] <;> rfl
  have hturn := Part.enterLeaving_mapJob hx none j.run
  rw [Job.turned] at hturn
  simp only [Part.cutShort, harr, Bool.false_and, Bool.false_eq_true, if_false, hturn]
  cases hrun : j.run with
  | none => rfl
  | some run => simp only [Job.silent_iff.mp hj run hrun, Option.isSome_some, if_true]

/-- What stands after a silent turn: beside what is let go and HOLD in place of SETUP, no more than the turn changes. -/
theorem Part.cutShort_of_silent_frame {p : Part} {j : Job} {x : Grant} (hx : p.grant j.grant = some x)
    (hs : x.state = .moving ∨ x.state = .resizing) (hj : j.silent = true) (hholds : p.holdsJob j)
    (hhold : ∀ run, j.run = some run → run.timings.hold ≠ 0) :
    let q := p.turning j x none (j.run.map Run.held)
    let u := p.cutShort j x false
    u.engine = q.engine ∧ u.grants = q.grants ∧ u.tenants = q.tenants ∧ u.store = q.store ∧
      u.slices = ((p.turning j x none j.run).letGo j.grant x.level none x.covers).slices := by
  have hmap := (p.turning j x none j.run).mapOnly_letGo j.grant x.level x.covers
  have hcut := Part.cutShort_of_silent hx hs hj
  dsimp only at hcut ⊢
  rw [hcut]
  generalize (p.turning j x none j.run).letGo j.grant x.level none x.covers = q at hmap
  cases hrun : j.run with
  | none =>
    rw [hrun] at hmap
    exact ⟨hmap.engine, hmap.grants, hmap.tenants, hmap.store, rfl⟩
  | some run =>
    rw [hrun] at hmap
    rw [Option.isSome_some, if_pos rfl, Part.beginHold_turned hholds hmap.engine (hhold run hrun)]
    exact ⟨Part.engine_withRun_turned hmap.engine run.held, hmap.grants, hmap.tenants, hmap.store, rfl⟩

/-- A cycle in STROBE or HOLD keeps its slices, and HOLD begins in full where STROBE ran. -/
theorem Part.cutShort_of_radiating {p : Part} {j : Job} {x : Grant} {run : Run} (hx : p.grant j.grant = some x)
    (hrun : j.run = some run) (hphase : run.phase ≠ .setup) :
    let q := p.turning j x (if x.state = .arriving then none else j.dest) j.run
    p.cutShort j x false = if run.phase = .strobe then q.beginHold j.id else q := by
  have hloud : j.silent = false := Bool.eq_false_iff.mpr fun h => hphase (Job.silent_iff.mp h run hrun)
  have hturn := Part.enterLeaving_mapJob hx (if x.state = .arriving then none else j.dest) j.run
  rw [Job.turned] at hturn
  simp only [Part.cutShort, hloud, Bool.and_false, Bool.false_eq_true, if_false, beq_iff_eq, hturn]
  simp only [hrun]
  cases hp : run.phase with
  | setup => exact absurd hp hphase
  | strobe => rw [if_pos rfl]
  | hold => simp only [reduceCtorEq, if_false]

/-- The turn of a job in STROBE or HOLD, in full. -/
theorem Part.cutShort_of_radiating_eq {p : Part} {j : Job} {x : Grant} {run : Run} (hx : p.grant j.grant = some x)
    (hrun : j.run = some run) (hphase : run.phase ≠ .setup) (hholds : p.holdsJob j)
    (hhold : run.phase ≠ .hold → run.timings.hold ≠ 0) :
    p.cutShort j x false = p.turning j x (if x.state = .arriving then none else j.dest)
      (some (if run.phase = .strobe then run.held else run)) := by
  have hcut := Part.cutShort_of_radiating hx hrun hphase
  dsimp only at hcut
  rw [hcut, hrun]
  by_cases hstrobe : run.phase = .strobe
  · rw [if_pos hstrobe, if_pos hstrobe, Part.beginHold_turned hholds rfl (hhold (by simp [hstrobe]))]
    have hengine := Part.engine_withRun_turned (p := p) (j := j) (x := x)
      (dest := if x.state = .arriving then none else j.dest) (run := some run) rfl run.held
    exact congrArg (fun e => { p.turning j x _ (some run) with engine := e }) hengine
  · rw [if_neg hstrobe, if_neg hstrobe]

/-- A job that leaves the list unfinished begins its tenant's turnaround where it had started (R115). -/
theorem Part.turnaroundIfStarted_eq {p : Part} {j : Job} {k : Nat} {t : TenantRecord} (hj : p.jobTenant j = some k)
    (ht : p.tenant k = some t) :
    let interval := (p.engine.timings t.cls).turnaround
    p.turnaroundIfStarted j = { p with engine := { p.engine with
      turnaround := if j.run = none then p.engine.turnaround else
        p.engine.turnaround.set k (if interval = 0 then none else some interval) } } := by
  dsimp only
  cases hrun : j.run with
  | none => simp only [Part.turnaroundIfStarted, hrun, if_true]
  | some run => simp [Part.turnaroundIfStarted, hrun, hj, Part.beginTurnaround, ht, Part.setTurnaround]

/-- A grant of a tenant that is not RETIRING is freed: its slices go, and its id leaves the list (R43). -/
theorem Part.freeGrant_of_standing {p : Part} {g : Nat} {x : Grant} {t : TenantRecord} (hx : p.grant g = some x)
    (ht : p.tenant x.tenant = some t) (hs : t.status ≠ .retiring) :
    p.freeGrant g none = ((p.setGrant g none).letGo g x.level none fun _ => false).setTenant x.tenant
      { t with grants := t.grants.filter fun k => k != g } := by
  have htenant : ((p.setGrant g none).letGo g x.level none fun _ => false).tenant x.tenant = some t :=
    (Part.tenant_congr (Part.mapOnly_letGo _ _ _ _).tenants _).trans ht
  have hstands : (t.status == TenantStatus.retiring) = false := beq_eq_false_iff_ne.mpr hs
  simp only [Part.freeGrant, hx, Part.unlist, htenant, hstands, Bool.false_and, Bool.false_eq_true, if_false]

/-- Outside a restore the end of a job is reported to no batch. -/
theorem Part.reportEnd_of_no_batch {p : Part} (h : p.store.batch = none) (j : Job) (done : Bool) :
    p.reportEnd j done = p := by
  unfold Part.reportEnd
  split
  · rfl
  · exact Part.mapBatch_of_none h _
  · split <;> exact Part.mapBatch_of_none h _

/-- The part without an ARRIVING grant's record and its job, the turnaround of its tenant `t` begun where the job had
started. -/
def Part.dropping (p : Part) (j : Job) (x : Grant) (t : TenantRecord) : Part :=
  let interval := (p.engine.timings t.cls).turnaround
  { p with
    grants := p.grants.set j.grant none
    engine := { p.engine with
      jobs := p.engine.jobs.filter fun k => k.id != j.id
      turnaround := if j.run = none then p.engine.turnaround else
        p.engine.turnaround.set x.tenant (if interval = 0 then none else some interval) } }

/-- A silent cycle that arrives is gone with its record, and its slices are let go. -/
theorem Part.cutShort_of_arriving {p : Part} {j : Job} {x : Grant} {t : TenantRecord} (hb : p.store.batch = none)
    (hx : p.grant j.grant = some x) (ht : p.tenant x.tenant = some t) (hs : t.status ≠ .retiring)
    (ha : x.state = .arriving) (hj : j.silent = true) :
    p.cutShort j x false = ((p.dropping j x t).letGo j.grant x.level none fun _ => false).setTenant x.tenant
      { t with grants := t.grants.filter fun k => k != j.grant } := by
  have hturnaround := Part.turnaroundIfStarted_eq (show p.jobTenant j = some x.tenant by simp [Part.jobTenant, hx]) ht
  have hfree := Part.freeGrant_of_standing (p := (p.turnaroundIfStarted j).dropJob j.id) (g := j.grant) (x := x)
    (t := t) (by rw [hturnaround]; exact hx) (by rw [hturnaround]; exact ht) hs
  have hbatch : (((p.turnaroundIfStarted j).dropJob j.id).freeGrant j.grant none).store.batch = none := by
    rw [hfree, Part.setTenant_store, (Part.mapOnly_letGo _ _ _ _).store, hturnaround]
    exact hb
  simp only [Part.cutShort, ha, hj, beq_self_eq_true, Bool.and_self, if_true, Part.removeArriving, Bool.false_eq_true,
    if_false, Part.reportEnd_of_no_batch hbatch]
  rw [hfree, hturnaround]
  rfl

/-- What stands after a silent cycle that arrives is cut short: the list of its tenant `t` has lost the grant. -/
theorem Part.cutShort_of_arriving_frame {p : Part} {j : Job} {x : Grant} {t : TenantRecord} (hb : p.store.batch = none)
    (hx : p.grant j.grant = some x) (ht : p.tenant x.tenant = some t) (hs : t.status ≠ .retiring)
    (ha : x.state = .arriving) (hj : j.silent = true) :
    let q := p.dropping j x t
    let u := p.cutShort j x false
    u.engine = q.engine ∧ u.grants = q.grants ∧
      u.tenant x.tenant = some { t with grants := t.grants.filter fun k => k != j.grant } ∧ u.store = q.store ∧
      u.slices = (q.letGo j.grant x.level none fun _ => false).slices := by
  have hgo := (p.dropping j x t).mapOnly_letGo j.grant x.level fun _ => false
  dsimp only
  rw [Part.cutShort_of_arriving hb hx ht hs ha hj]
  generalize (p.dropping j x t).letGo j.grant x.level none (fun _ => false) = q at hgo
  exact ⟨hgo.engine, hgo.grants, Part.tenant_setTenant_self _ ((Part.tenant_congr hgo.tenants _).trans ht), hgo.store,
    rfl⟩

/-! ### GRANT_RELEASE (R52) -/

theorem exec_grantRelease (tag : Byte) (g : Nat) (s : State) :
    exec (.grantRelease tag (some g)) s = s.serve (.grantRelease tag (some g)) tag 0x23 (Part.release g) := rfl

theorem Part.tenantRetiring_iff {p : Part} {x : Grant} :
    p.tenantRetiring x = true ↔ ∃ t, p.tenant x.tenant = some t ∧ t.status = .retiring := by
  simp [Part.tenantRetiring, Option.any_eq_true]

theorem Part.releaseRefusal_of_grant {p : Part} {g : Nat} {why : Status} (h : p.grantRefusal g = some why) :
    p.releaseRefusal g = some why := by
  simp only [Part.releaseRefusal, h, Option.getD_some]

/-- The checks of R52 on a grant in use: its tenant, its state, and the job queue. -/
theorem Part.releaseRefusal_of_used {p : Part} {g : Nat} {x : Grant} (hg : g < 96) (hx : p.grant g = some x) :
    p.releaseRefusal g = if p.tenantRetiring x then some .gone else if x.state = .leaving then some .already
      else if x.state = .active ∧ 24 ≤ p.engine.jobs.length then some .full else none := by
  simp [Part.releaseRefusal, Part.grantRefusal_of_used hg hx, hx, Part.hasJobEntry]

theorem Part.release_of_refused {p : Part} {g : Nat} {why : Status} (h : p.releaseRefusal g = some why) :
    Part.release g p = (p, refuse why) := by
  simp only [Part.release, h]

/-- A release that passes its checks outside a restore, answered with the state that the grant then has. -/
theorem State.release_of_accepted {s : State} {tag : Byte} {g : Nat} {q : Part} {code : Byte}
    (ha : s.awaits (.grantRelease tag (some g)) tag) (hok : s.part.releaseRefusal g = none)
    (hq : s.part.releaseGrant g false = q) (hb : q.store.batch = none)
    (hcode : byte (grantStateCode (q.grant g)) = code) :
    exec (.grantRelease tag (some g)) s =
      .next (s.answers (.grantRelease tag (some g)) tag 0x23 (doneWith [code]) (s.part.commitTest q)) := by
  have howner : Part.release g s.part = (q, doneWith [code]) := by
    simp only [Part.release, hok, hq, Part.progressBatch_of_none hb, hcode]
  rw [exec_grantRelease, State.serve_of_awaits _ _ ha, howner]

/-- A record that has entered LEAVING is answered so. -/
theorem Part.code_of_leaving {p q : Part} {g : Nat} {x : Grant} (hx : p.grant g = some x)
    (hq : q.grants = p.grants.set g (some x.released)) : byte (grantStateCode (q.grant g)) = 4 := by
  have hgrant : q.grant g = some x.released := (Part.grant_congr (p := p.setGrant g _) hq g).trans
    (Part.grant_setGrant_self _ hx)
  rw [hgrant]
  rfl

/-- A freed record is answered as free. -/
theorem Part.code_of_freed {p q : Part} {g : Nat} {x : Grant} (hx : p.grant g = some x)
    (hq : q.grants = p.grants.set g none) : byte (grantStateCode (q.grant g)) = 5 := by
  have hgrant : q.grant g = none := (Part.grant_congr (p := p.setGrant g none) hq g).trans
    (Part.grant_setGrant_self _ hx)
  rw [hgrant]
  rfl

/-- Settles O21: the checks of R52 in their order, and the release of an ACTIVE grant with an entry free. -/
theorem releaseOfActiveGrant : Obligations.ReleaseOfActiveGrant := by
  intro s tag g ha
  have refused := fun why h =>
    State.serve_of_kept 0x23 _ ha (Part.release_of_refused (p := s.part) (g := g) (why := why) h)
  refine ⟨fun hg => refused _ (Part.releaseRefusal_of_grant (Part.grantRefusal_of_range hg)),
    fun hg hfree => refused _ (Part.releaseRefusal_of_grant (Part.grantRefusal_of_free hg hfree)), fun x hg hx => ?_⟩
  have hchecks := Part.releaseRefusal_of_used hg hx
  rw [← Part.tenantRetiring_iff]
  refine ⟨fun hr => refused _ ?_, fun hr hs => refused _ ?_, fun hr hs hfull => refused _ ?_,
    fun hr hs hfree hb => ?_⟩
  · rw [hchecks, if_pos hr]
  · rw [hchecks, if_neg hr, if_pos hs]
  · simp [hchecks, hr, hs, hfull]
  · refine State.release_of_accepted (q := s.part.releasing g x) ha ?_ ?_ hb (Part.code_of_leaving hx rfl)
    · simp [hchecks, hr, hs, hfree]
    · rw [Part.releaseGrant_of_active hb hx hs, if_pos hfree]

/-- A release of a grant with a cycle in flight cuts the cycle short. -/
theorem Part.releaseGrant_of_cycle {p : Part} {g : Nat} {x : Grant} {j : Job} (hx : p.grant g = some x)
    (hs : x.state = .arriving ∨ x.state = .moving ∨ x.state = .resizing) (hj : p.jobOf g = some j) (phaseA : Bool) :
    p.releaseGrant g phaseA = p.cutShort j x phaseA := by
  rcases hs with hs | hs | hs <;> simp only [Part.releaseGrant, hx, hs, hj]

/-- A release that cuts a cycle short outside a restore, answered with the state that the grant then has. -/
theorem State.release_of_cycle {s : State} {tag : Byte} {g : Nat} {x : Grant} {t : TenantRecord} {j : Job}
    (ha : s.awaits (.grantRelease tag (some g)) tag) (hg : g < 96) (hx : s.part.grant g = some x)
    (ht : s.part.tenant x.tenant = some t) (hstands : t.status ≠ .retiring) (hj : s.part.jobOf g = some j) {q : Part}
    {code : Byte} (hs : x.state = .arriving ∨ x.state = .moving ∨ x.state = .resizing)
    (hq : s.part.cutShort j x false = q) (hb : q.store.batch = none)
    (hcode : byte (grantStateCode (q.grant g)) = code) :
    exec (.grantRelease tag (some g)) s =
      .next (s.answers (.grantRelease tag (some g)) tag 0x23 (doneWith [code]) (s.part.commitTest q)) := by
  have hretiring : s.part.tenantRetiring x = false := by simp [Part.tenantRetiring, ht, hstands]
  have hok : s.part.releaseRefusal g = none := by
    rw [Part.releaseRefusal_of_used hg hx, hretiring]
    rcases hs with h | h | h <;> simp [h]
  exact State.release_of_accepted ha hok ((Part.releaseGrant_of_cycle hx hs hj false).trans hq) hb hcode

/-- Settles O22: the cycle cut short by its state and phase, and what is let go read from the map. -/
theorem releaseCutsCyclesShort : Obligations.ReleaseCutsCyclesShort := by
  intro s tag g x t j ha hshaped hb hg hx _ ht hstands hj huniq hhold
  obtain ⟨-, -, hslices, -⟩ := hshaped
  obtain rfl : j.grant = g := by simpa using List.find?_some hj
  have hholds : s.part.holdsJob j := ⟨List.mem_of_find?_eq_some hj, huniq⟩
  have accepted := fun {q code} => State.release_of_cycle (q := q) (code := code) ha hg hx ht hstands hj
  have htest := Part.MapOnly.commitTest s.part (s.part.cutShort j x false)
  refine ⟨fun hstate hsilent => ?_, fun hstate hsilent => ?_, fun run hrun hphase hstate => ?_⟩
  · obtain ⟨hengine, hgrants, htenant, hstore, hslice⟩ := Part.cutShort_of_arriving_frame hb hx ht hstands hstate
      (Job.silent_iff.mpr hsilent)
    have hmap : ∀ n, (s.part.commitTest (s.part.cutShort j x false)).slice n =
        ((s.part.dropping j x t).letGo j.grant x.level none fun _ => false).slice n := fun n => by
      rw [Part.slice_commitTest, Part.slice_congr hslice]
    refine ⟨_, accepted (.inl hstate) rfl (by rw [hstore]; exact hb) (Part.code_of_freed hx hgrants),
      htest.grants.trans hgrants, htest.engine.trans hengine, (Part.tenant_congr htest.tenants _).trans htenant,
      fun n hheld htwice => ?_, fun n hother => ?_⟩
    · rw [hmap]
      exact Part.heldBy_letGo (p := s.part.dropping j x t) hslices x.level hheld rfl htwice
    · rw [hmap]
      exact Part.slice_letGo_of_kept x.level (.inl hother)
  · obtain ⟨hengine, hgrants, htenants, hstore, hslice⟩ := Part.cutShort_of_silent_frame hx hstate
      (Job.silent_iff.mpr hsilent) hholds fun run hrun => hhold run hrun (by simp [hsilent run hrun])
    have hmap : ∀ n, (s.part.commitTest (s.part.cutShort j x false)).slice n =
        ((s.part.turning j x none j.run).letGo j.grant x.level none x.covers).slice n := fun n => by
      rw [Part.slice_commitTest, Part.slice_congr hslice]
    refine ⟨_, accepted (.inr hstate) rfl (by rw [hstore]; exact hb) (Part.code_of_leaving hx hgrants),
      htest.grants.trans hgrants, htest.engine.trans hengine, htest.tenants.trans htenants,
      fun n hheld houtside htwice => ?_, fun n hkept => ?_⟩
    · rw [hmap]
      exact Part.heldBy_letGo (p := s.part.turning j x none j.run) hslices x.level hheld houtside htwice
    · rw [hmap]
      exact Part.slice_letGo_of_kept x.level hkept
  · exact accepted hstate (Part.cutShort_of_radiating_eq hx hrun hphase hholds (hhold run hrun)) hb
      (Part.code_of_leaving hx rfl)

end Sys2Proof.Machine
end

section
/-! The placement queue: the arrival of an item, the conditions of the take, the reply in build, and CANCEL (O13, O23). -/

namespace Sys2Proof.Machine

/-! ### Arrival (R58) -/

theorem Part.placementQueue_enqueue (p : Part) (i : QueueItem) :
    (p.enqueue i).placementQueue = p.placementQueue ++ [i] := by
  simp [Part.placementQueue]

theorem Part.attemptList_enqueue (p : Part) (i : QueueItem) : (p.enqueue i).attemptList = p.attemptList := by
  simp [Part.attemptList]

/-- A request whose command is the arrival of an item: refused FULL by eight waiting items, queued otherwise. -/
theorem State.arrival_outcomes {s : State} {cmd : Instr} {tag kind : Byte} {f : PlacementFields}
    (hexec : exec cmd s = s.arrive cmd tag kind (some f)) (ha : s.awaits cmd tag) :
    (8 ≤ s.part.placementQueue.length → exec cmd s = .next (s.answers cmd tag kind (refuse .full) s.part)) ∧
      (s.part.placementQueue.length < 8 → ∃ t, exec cmd s = .next t ∧ t.link = s.link.withdrawn cmd ∧
        t.pending = s.pending ∧ t.part = { s.part with alloc := { s.part.alloc with work := t.part.alloc.work } } ∧
        t.part.placementQueue = s.part.placementQueue ++ [⟨tag, f, false⟩] ∧ t.part.attemptList = s.part.attemptList) := by
  rw [hexec, (State.arrive_of_awaits kind ha).2 f]
  refine ⟨fun hfull => if_pos hfull, fun hroom => ⟨_, if_neg (Nat.not_le.mpr hroom), rfl, rfl, rfl, ?_, ?_⟩⟩
  · exact s.part.placementQueue_enqueue _
  · exact s.part.attemptList_enqueue _

/-! ### The conditions of the take (R59) -/

theorem Part.mayTake_eq_false {p : Part} : p.mayTake = false ↔
    p.alloc.work = [] ∨ p.alloc.reply.isSome ∨ p.alloc.restoreHold = true ∨ 23 ≤ p.engine.jobs.length := by
  have hroom : p.engine.jobs.length ≤ 22 ↔ ¬23 ≤ p.engine.jobs.length := by omega
  rw [← Bool.not_eq_true]
  simp only [Part.mayTake, Bool.and_eq_true, Bool.not_eq_true', List.isEmpty_iff, Option.isNone_iff_eq_none,
    decide_eq_true_eq, hroom, Option.isSome_iff_ne_none, ← Bool.not_eq_true]
  tauto

/-- Where the take may not happen, none of the four takes changes the part. -/
theorem Part.takes_of_not_mayTake {p : Part} (h : p.mayTake = false) :
    p.takeAsk = p ∧ p.takeMove = p ∧ p.takeResize = p ∧ p.takeAttempt = p := by
  refine ⟨?_, ?_, ?_, ?_⟩
  · unfold Part.takeAsk; split <;> simp [h]
  · unfold Part.takeMove; split <;> simp [h]
  · unfold Part.takeResize; split <;> simp [h]
  · unfold Part.takeAttempt; split <;> simp [h]

/-! ### The reply in build (R60, R164) -/

theorem State.deliverBuilt_of_reply {s : State} {b : BuiltReply} (h : s.part.alloc.reply = some b) :
    s.deliverBuilt = { s with
      link := s.link.produce b.detached b.tag b.kind b.reply
      part := { s.part with alloc := { s.part.alloc with reply := none } } } := by
  simp only [State.deliverBuilt, h]

/-- Settles O23: the three arrivals, the four takes, and the reply in build. -/
theorem placementsWaitTheirTurn : Obligations.PlacementsWaitTheirTurn := by
  refine ⟨fun s tag => ⟨fun q => State.arrival_outcomes rfl, fun q => State.arrival_outcomes rfl,
    fun q => State.arrival_outcomes rfl, fun hwait => ?_⟩, fun s b hb => ⟨fun hd => ?_, fun hd howed => ?_⟩⟩
  · obtain ⟨hask, hmove, hresize, hattempt⟩ := Part.takes_of_not_mayTake (Part.mayTake_eq_false.mpr hwait)
    exact ⟨State.act_of_fixed hask, State.act_of_fixed hmove, State.act_of_fixed hresize, State.act_of_fixed hattempt⟩
  · have hproduce := Link.produce_of_discarded s.link b.detached b.tag b.kind b.reply (.inl hd)
    exact congrArg Host.Outcome.next ((State.deliverBuilt_of_reply hb).trans (by rw [hproduce]))
  · have hproduce := Link.produce_of_owed s.link b.kind b.reply howed
    exact congrArg Host.Outcome.next ((State.deliverBuilt_of_reply hb).trans (by rw [hd, hproduce]))

/-! ### CANCEL (R61) -/

theorem exec_cancel_of_awaits {s : State} {tag named : Byte} (ha : s.awaits (.cancel tag (some named)) tag) :
    exec (.cancel tag (some named)) s =
      .next (s.withdraw (s.link.withdrawn (.cancel tag (some named))) false tag named) := by
  change execCancel tag (some named) s = _
  simp only [execCancel, Link.takeIn_of_awaits ha]

/-- The item of the tag is withdrawn, its CANCELLED reply ahead of the DONE. -/
theorem State.withdraw_of_item {s : State} {l : Link} {tag named : Byte} {i : QueueItem}
    (hi : s.part.alloc.work.find? (Work.carries named) = some (.item i)) (howed : named ∈ l.outstanding)
    (htag : tag ∈ l.outstanding) (hne : named ≠ tag) : s.withdraw l false tag named = { s with
      link := { l with
        outbound := l.outbound ++ [replyFrame named i.fields.kind (refuse .cancelled), replyFrame tag 0x25 (doneWith [])]
        outstanding := (l.outstanding.erase named).erase tag }
      part := { s.part with alloc := { s.part.alloc with
        work := s.part.alloc.work.filter fun w => !w.carries named } } } := by
  have hcarries : i.tag = named ∧ i.detached = false := by simpa [Work.carries] using List.find?_some hi
  have htag' : tag ∈ l.outstanding.erase named := (List.mem_erase_of_ne (Ne.symm hne)).mpr htag
  simp only [State.withdraw, hi, hcarries.2]
  rw [Link.produce_of_owed l _ _ howed, Link.produce_of_owed _ _ _ htag', List.append_assoc]
  rfl

/-- With no item of the tag to withdraw, the CANCEL is too late for an owed tag, and finds no other. -/
theorem State.withdraw_of_none {s : State} {l : Link} {tag named : Byte}
    (hnone : s.part.alloc.work.find? (Work.carries named) = none) (htag : tag ∈ l.outstanding) :
    s.withdraw l false tag named = { s with link := { l with
      outbound := l.outbound ++ [replyFrame tag 0x25 (refuse (if named ∈ l.outstanding then .tooLate else .notFound))]
      outstanding := l.outstanding.erase tag } } := by
  simp only [State.withdraw, hnone, List.contains_iff_mem]
  rw [Link.produce_of_owed l _ _ htag]

/-- Settles O13: the item withdrawn and its two replies, or the one refusal. -/
theorem cancelOutcomes : Obligations.CancelOutcomes := by
  intro s tag named ha
  rw [exec_cancel_of_awaits ha]
  refine ⟨fun i hi howed hne => ?_, fun hnone => ?_⟩
  · exact congrArg Host.Outcome.next (State.withdraw_of_item hi howed ha.1 hne)
  · exact congrArg Host.Outcome.next (State.withdraw_of_none hnone ha.1)

end Sys2Proof.Machine
end

section
/-! The scan of a band (4.2): its candidates and their order, the rover, the shape of a fit, and the three passes: O25. -/

namespace Sys2Proof.Machine

/-! ### Slices and windows (R3, R65, R67) -/

theorem SliceEntry.available_iff {e : SliceEntry} :
    e.available = true ↔ e.use = .free ∨ ∃ left fill, e.use = .parked left fill := by
  unfold SliceEntry.available
  cases e.use <;> simp

theorem SliceEntry.guardEligible_iff {e : SliceEntry} :
    e.guardEligible = true ↔ e.available = true ∨ ∃ a, e.use = .guard a none := by
  unfold SliceEntry.guardEligible SliceEntry.available
  split
  · next a hu => simp [hu]
  · next hu => exact (or_iff_left fun ⟨a, ha⟩ => hu a ha).symm

theorem windowCovers_iff {cls : CarrierClass} {c w n : Nat} : windowCovers cls c w n = true ↔
    (c ≤ n ∧ n < c + w) ∨ (cls = .voice ∧ (n + 1 = c ∨ n = c + w)) := by
  simp [windowCovers]

/-- The slice is none of the place that a grant holds now: its carrier, or its guards for VOICE. -/
def clearOf (origin : Option Grant) (n : Nat) : Prop := ∀ r, origin = some r →
  ¬(r.first ≤ n ∧ n < r.first + r.width) ∧ (r.cls = .voice → n + 1 ≠ r.first ∧ n ≠ r.first + r.width)

theorem inOrigin_eq_false {origin : Option Grant} {n : Nat} : inOrigin origin n = false ↔ clearOf origin n := by
  cases origin with
  | none => simp [inOrigin, clearOf]
  | some r =>
    rw [← Bool.not_eq_true]
    simp only [inOrigin, Option.any_some, Grant.covers, windowCovers_iff, clearOf, Option.some.injEq, forall_eq']
    tauto

theorem mem_guardSlices {cls : CarrierClass} {c n : Nat} (hc : cls = .voice → 1 ≤ c) :
    n ∈ guardSlices cls c ↔ cls = .voice ∧ (n + 1 = c ∨ n = c + 1) := by
  cases cls with
  | voice =>
    have hpos := hc rfl
    simp only [guardSlices, List.mem_cons, List.not_mem_nil, or_false, true_and]
    omega
  | video => simp [guardSlices]
  | data => simp [guardSlices]

/-! ### Candidates and their order (R65, R66) -/

theorem Part.candidates_eq (p : Part) (d : Direction) (cls : CarrierClass) (w : Nat) : p.candidates d cls w =
    (List.range' (p.band d).1 ((p.band d).2 + 1 - (p.band d).1)).filter
      (isCandidate cls (p.band d).1 (p.band d).2 w) := rfl

/-- A candidate lies in its band. -/
theorem le_of_isCandidate {cls : CarrierClass} {lo hi w c : Nat} (hw : 1 ≤ w) (h : isCandidate cls lo hi w c = true) :
    lo ≤ c ∧ c ≤ hi := by
  cases cls with
  | data =>
    simp only [isCandidate, Bool.and_eq_true, decide_eq_true_eq] at h
    omega
  | video =>
    simp only [isCandidate, Bool.and_eq_true, decide_eq_true_eq] at h
    omega
  | voice =>
    simp only [isCandidate, Bool.and_eq_true, decide_eq_true_eq] at h
    omega

theorem Part.mem_candidates {p : Part} {d : Direction} {cls : CarrierClass} {w c : Nat} (hw : 1 ≤ w) :
    c ∈ p.candidates d cls w ↔ isCandidate cls (p.band d).1 (p.band d).2 w c = true := by
  rw [Part.candidates_eq, List.mem_filter, List.mem_range'_1, and_iff_right_iff_imp]
  intro h
  have := le_of_isCandidate hw h
  omega

theorem mem_visitOrder {scan : ScanDirection} {cls : CarrierClass} {rover w c : Nat} {cs : List Nat} :
    c ∈ visitOrder scan cls rover w cs ↔ c ∈ cs := by
  cases scan with
  | up =>
    simp only [visitOrder, List.mem_append, List.mem_filter, decide_eq_true_eq, ← and_or_left, and_iff_left_iff_imp]
    omega
  | down =>
    simp only [visitOrder, List.mem_append, List.mem_reverse, List.mem_filter, decide_eq_true_eq, ← and_or_left,
      and_iff_left_iff_imp]
    omega

theorem Part.mem_scanOrder {p : Part} {t : TenantRecord} {d : Direction} {w c : Nat} (hw : 1 ≤ w) :
    c ∈ p.scanOrder t d w ↔ isCandidate t.cls (p.band d).1 (p.band d).2 w c = true :=
  mem_visitOrder.trans (Part.mem_candidates hw)

/-- The guards of a VOICE candidate have a slice below its carrier. -/
theorem Part.one_le_of_mem_scanOrder {p : Part} {t : TenantRecord} {d : Direction} {w c : Nat} (hw : 1 ≤ w)
    (h : c ∈ p.scanOrder t d w) (hv : t.cls = .voice) : 1 ≤ c := by
  have := (Part.mem_scanOrder hw).mp h
  simp only [hv, isCandidate, Bool.and_eq_true, decide_eq_true_eq] at this
  omega

theorem Part.candidates_sorted (p : Part) (d : Direction) (cls : CarrierClass) (w : Nat) :
    (p.candidates d cls w).Pairwise (· < ·) := by
  rw [Part.candidates_eq]
  exact List.Pairwise.filter _ List.pairwise_lt_range'

/-- Upward: from the start to the top, and then from the bottom up to the start. -/
theorem pairwise_visitOrder_up {cls : CarrierClass} {rover w : Nat} {cs : List Nat} (h : cs.Pairwise (· < ·)) :
    (visitOrder .up cls rover w cs).Pairwise fun a b : Nat =>
      if (startUp cls rover : Int) ≤ a then (b : Int) < startUp cls rover ∨ a < b
      else (b : Int) < startUp cls rover ∧ a < b := by
  refine List.pairwise_append.mpr ⟨?_, ?_, fun a ha b hb => ?_⟩
  · refine ((h.filter _).imp_of_mem fun {a b} ha hb hab => ?_)
    have := List.of_mem_filter ha
    simp only [decide_eq_true_eq] at this
    rw [if_pos (by omega)]
    exact .inr hab
  · refine ((h.filter _).imp_of_mem fun {a b} ha hb hab => ?_)
    have := List.of_mem_filter ha
    have := List.of_mem_filter hb
    simp only [decide_eq_true_eq] at *
    rw [if_neg (by omega)]
    omega
  · have := List.of_mem_filter ha
    have := List.of_mem_filter hb
    simp only [decide_eq_true_eq] at *
    rw [if_pos (by omega)]
    exact .inl (by omega)

/-- Downward: from the start to the bottom, and then from the top down to the start. -/
theorem pairwise_visitOrder_down {cls : CarrierClass} {rover w : Nat} {cs : List Nat} (h : cs.Pairwise (· < ·)) :
    (visitOrder .down cls rover w cs).Pairwise fun a b : Nat =>
      if (a : Int) ≤ startDown cls rover w then startDown cls rover w < (b : Int) ∨ b < a
      else startDown cls rover w < (b : Int) ∧ b < a := by
  refine List.pairwise_append.mpr ⟨List.pairwise_reverse.mpr ?_, List.pairwise_reverse.mpr ?_, fun a ha b hb => ?_⟩
  · refine ((h.filter _).imp_of_mem fun {b a} hb ha hab => ?_)
    have := List.of_mem_filter ha
    simp only [decide_eq_true_eq] at this
    rw [if_pos this]
    exact .inr hab
  · refine ((h.filter _).imp_of_mem fun {b a} hb ha hab => ?_)
    have := List.of_mem_filter ha
    have := List.of_mem_filter hb
    simp only [decide_eq_true_eq] at *
    rw [if_neg (by omega)]
    exact ⟨by omega, hab⟩
  · have := List.of_mem_filter (List.mem_reverse.mp ha)
    have := List.of_mem_filter (List.mem_reverse.mp hb)
    simp only [decide_eq_true_eq] at *
    rw [if_pos (by omega)]
    exact .inl (by omega)

/-- VIDEO rounds the start of an upward scan up to a multiple of 4. -/
theorem startUp_spec (cls : CarrierClass) (rover : Nat) :
    if cls = .video then (startUp cls rover : Int) % 4 = 0 ∧ (rover : Int) ≤ startUp cls rover ∧
        (startUp cls rover : Int) < rover + 4
      else (startUp cls rover : Int) = rover := by
  cases cls with
  | video =>
    rw [if_pos rfl, startUp]
    omega
  | data => rfl
  | voice => rfl

/-- VIDEO rounds the start of a downward scan down to a multiple of 4. -/
theorem startDown_spec (cls : CarrierClass) (rover w : Nat) :
    if cls = .video then startDown cls rover w % 4 = 0 ∧ startDown cls rover w ≤ (rover : Int) - 3 ∧
        (rover : Int) - 3 < startDown cls rover w + 4
      else startDown cls rover w = (rover : Int) - w + 1 := by
  cases cls with
  | video =>
    rw [if_pos rfl, startDown]
    omega
  | data => rfl
  | voice => rfl

/-! ### The passes over one position (R67, R68) -/

theorem Part.shapeOk_iff {p : Part} {cls : CarrierClass} {w c : Nat} {origin : Option Grant} (hc : cls = .voice → 1 ≤ c) :
    p.shapeOk cls w origin c = true ↔
      (∀ n, c ≤ n → n < c + w → (p.slice n).available = true ∧ clearOf origin n) ∧
        (cls = .voice → ∀ n, n + 1 = c ∨ n = c + 1 → (p.slice n).guardEligible = true ∧ clearOf origin n) := by
  simp only [Part.shapeOk, Bool.and_eq_true, List.all_eq_true, List.mem_range'_1, mem_guardSlices hc, Bool.not_eq_true',
    inOrigin_eq_false, and_imp]
  exact and_congr Iff.rfl ⟨fun h hv n hn => h n hv hn, fun h n hv hn => h hv n hn⟩

theorem Part.passOne_iff {p : Part} {t : TenantRecord} {w c : Nat} {origin : Option Grant} :
    p.passOne t w origin c = true ↔ p.shapeOk t.cls w origin c = true ∧ p.windowAcceptable t c w = true := by
  simp only [Part.passOne, Bool.and_eq_true]

/-- The conditions of R68: the DATA grant `v`, with its record `x` and its tenant `y`, may be shrunk for the window. -/
def Part.preemptible (p : Part) (t : TenantRecord) (w : Nat) (origin : Option Grant) (c v : Nat) (x : Grant)
    (y : TenantRecord) : Prop :=
  x.cls = .data ∧ x.state = .active ∧ y.status ≠ .retiring ∧
    x.first + x.floor.getD x.width ≤ windowBottom t.cls c ∧ windowBottom t.cls c ≤ x.first + x.width - 1 ∧
    (∀ n ∈ List.range' c w, if n ≤ x.first + x.width - 1
      then (p.slice n).use = .granted v ∧ (p.slice n).impaired = false
      else (p.slice n).available = true ∧ clearOf origin n) ∧
    (∀ n ∈ guardSlices t.cls c, if n ≤ x.first + x.width - 1
      then (p.slice n).use = .granted v ∧ (p.slice n).impaired = false
      else (p.slice n).guardEligible = true ∧ clearOf origin n) ∧
    p.windowAcceptable t c w = true ∧
    y.committed ≤ p.delivered x.tenant - x.capacity + capacityOf .data (windowBottom t.cls c - x.first) x.profile

theorem Part.passTwo_of_granted {p : Part} {t : TenantRecord} {w c v : Nat} {origin : Option Grant} {x : Grant}
    {y : TenantRecord} (hu : (p.slice (windowBottom t.cls c)).use = .granted v) (hx : p.grant v = some x)
    (hy : p.tenant x.tenant = some y) : p.passTwo t w origin c = some v ↔ p.preemptible t w origin c v x y := by
  have hif : ∀ (b : Prop) [Decidable b] (e f : Bool), (if b then e else f) = true ↔ if b then e = true else f = true :=
    fun b _ e f => by split <;> rfl
  simp only [Part.passTwo, hu, hx, hy, Option.ite_none_right_eq_some, Bool.and_eq_true, beq_iff_eq, bne_iff_ne,
    decide_eq_true_eq, List.all_eq_true, hif, Bool.not_eq_true', inOrigin_eq_false, and_true, and_assoc,
    Part.preemptible]

/-- The grant that pass 2 names holds the window's bottom, and every condition of R68 is met. -/
theorem Part.passTwo_eq_some {p : Part} {t : TenantRecord} {w c v : Nat} {origin : Option Grant} :
    p.passTwo t w origin c = some v ↔ (p.slice (windowBottom t.cls c)).use = .granted v ∧
      ∃ x y, p.grant v = some x ∧ p.tenant x.tenant = some y ∧ p.preemptible t w origin c v x y := by
  constructor
  · intro h
    have hfound : ∃ x y, (p.slice (windowBottom t.cls c)).use = .granted v ∧ p.grant v = some x ∧
        p.tenant x.tenant = some y := by
      unfold Part.passTwo at h
      dsimp only at h
      split at h
      · next v' hu =>
        split at h
        · cases h
        · next x hx =>
          split at h
          · cases h
          · next y hy =>
            obtain ⟨-, hv⟩ := Option.ite_none_right_eq_some.mp h
            cases hv
            exact ⟨x, y, hu, hx, hy⟩
      · cases h
    obtain ⟨x, y, hu, hx, hy⟩ := hfound
    exact ⟨hu, x, y, hx, hy, (Part.passTwo_of_granted hu hx hy).mp h⟩
  · rintro ⟨hu, x, y, hx, hy, h⟩
    exact (Part.passTwo_of_granted hu hx hy).mpr h

/-- The same with the window read slice by slice, as the statement has it: the bottom is one of its slices. -/
theorem Part.passTwo_iff {p : Part} {t : TenantRecord} {w c v : Nat} {origin : Option Grant} (hw : 1 ≤ w)
    (hv : t.cls = .voice → w = 1) (hc : t.cls = .voice → 1 ≤ c) :
    p.passTwo t w origin c = some v ↔ ∃ x y, p.grant v = some x ∧ p.tenant x.tenant = some y ∧ x.cls = .data ∧
      x.state = .active ∧ y.status ≠ .retiring ∧ x.first + x.floor.getD x.width ≤ windowBottom t.cls c ∧
      windowBottom t.cls c ≤ x.first + x.width - 1 ∧
      (∀ n, windowCovers t.cls c w n = true → n ≤ x.first + x.width - 1 →
        (p.slice n).use = .granted v ∧ (p.slice n).impaired = false) ∧
      (∀ n, c ≤ n → n < c + w → x.first + x.width - 1 + 1 ≤ n → (p.slice n).available = true ∧ clearOf origin n) ∧
      (t.cls = .voice → ∀ n, n + 1 = c ∨ n = c + 1 → x.first + x.width - 1 + 1 ≤ n →
        (p.slice n).guardEligible = true ∧ clearOf origin n) ∧
      p.windowAcceptable t c w = true ∧
      y.committed ≤ p.delivered x.tenant - x.capacity + capacityOf .data (windowBottom t.cls c - x.first) x.profile := by
  have hcovers : ∀ n, windowCovers t.cls c w n = true ↔ n ∈ List.range' c w ∨ n ∈ guardSlices t.cls c := fun n => by
    rw [windowCovers_iff, List.mem_range'_1, mem_guardSlices hc]
    exact or_congr Iff.rfl (and_congr_right fun h => by rw [hv h])
  have hbottom : windowCovers t.cls c w (windowBottom t.cls c) = true := by
    rw [windowCovers_iff]
    cases hcls : t.cls with
    | voice => exact .inr ⟨rfl, .inl (Nat.sub_add_cancel (hc hcls))⟩
    | video => exact .inl ⟨le_rfl, Nat.lt_add_of_pos_right hw⟩
    | data => exact .inl ⟨le_rfl, Nat.lt_add_of_pos_right hw⟩
  rw [Part.passTwo_eq_some]
  simp only [Part.preemptible, List.mem_range'_1, mem_guardSlices hc, hcovers, Nat.lt_iff_add_one_le.symm]
  constructor
  · rintro ⟨-, x, y, hx, hy, hdata, hactive, hstands, hfloor, htop, hcarrier, hguard, hacc, hcommit⟩
    refine ⟨x, y, hx, hy, hdata, hactive, hstands, hfloor, htop, ?_, ?_, ?_, hacc, hcommit⟩
    · rintro n (hn | hn) hle
      · simpa only [if_pos hle] using hcarrier n hn
      · simpa only [if_pos hle] using hguard n hn
    · intro n hcn hnw hlt
      simpa only [if_neg (Nat.not_le.mpr hlt)] using hcarrier n ⟨hcn, hnw⟩
    · intro hvoice n hn hlt
      simpa only [if_neg (Nat.not_le.mpr hlt)] using hguard n ⟨hvoice, hn⟩
  · rintro ⟨x, y, hx, hy, hdata, hactive, hstands, hfloor, htop, hheld, hcarrier, hguard, hacc, hcommit⟩
    have hb := (hcovers _).mp hbottom
    simp only [List.mem_range'_1, mem_guardSlices hc] at hb
    refine ⟨(hheld _ hb htop).1, x, y, hx, hy, hdata, hactive, hstands, hfloor, htop, ?_, ?_, hacc, hcommit⟩
    · intro n hn
      split
      · next hle => exact hheld n (.inl hn) hle
      · next hgt => exact hcarrier n hn.1 hn.2 (Nat.not_le.mp hgt)
    · intro n hn
      split
      · next hle => exact hheld n (.inr hn) hle
      · next hgt => exact hguard hn.1 n hn.2 (Nat.not_le.mp hgt)

/-! ### The longest run and pass 3 (R71) -/

/-- A run of `k` consecutive available slices lies in lo..top−1. -/
def Part.hasRun (p : Part) (lo top k : Nat) : Prop :=
  ∃ a, lo ≤ a ∧ a + k ≤ top ∧ ∀ n, a ≤ n → n < a + k → (p.slice n).available = true

theorem Part.hasRun_of_le {p : Part} {lo top k m : Nat} (h : p.hasRun lo top k) (hm : m ≤ k) : p.hasRun lo top m := by
  obtain ⟨a, hlo, htop, hopen⟩ := h
  exact ⟨a, hlo, by omega, fun n hn hlt => hopen n hn (by omega)⟩

/-- The longest run is a run: `r` available slices stand right below the slices still to be read. -/
theorem Part.hasRun_longestRun (p : Part) {lo : Nat} (k a r : Nat) (hr : lo + r ≤ a)
    (hopen : ∀ n, n < a → a ≤ n + r → (p.slice n).available = true) :
    p.hasRun lo (a + k) (p.longestRun (List.range' a k) r) := by
  induction k generalizing a r with
  | zero => exact ⟨lo, le_rfl, by simp [Part.longestRun]; omega, fun n _ hn => by simp [Part.longestRun] at hn; omega⟩
  | succ k ih =>
    rw [List.range'_succ, Part.longestRun]
    by_cases ha : (p.slice a).available = true
    · rw [if_pos ha]
      have hhere : ∀ n, n < a + 1 → a + 1 ≤ n + (r + 1) → (p.slice n).available = true := fun n hn hle => by
        by_cases hna : n = a
        · rwa [hna]
        · exact hopen n (by omega) (by omega)
      rcases le_total (r + 1) (p.longestRun (List.range' (a + 1) k) (r + 1)) with hle | hle
      · rw [max_eq_right hle]
        have := ih (a + 1) (r + 1) (by omega) hhere
        rwa [Nat.add_right_comm] at this
      · rw [max_eq_left hle]
        exact ⟨a - r, by omega, by omega, fun n hn hlt => hhere n (by omega) (by omega)⟩
    · rw [if_neg ha, max_eq_right (Nat.zero_le _)]
      have := ih (a + 1) 0 (by omega) fun n hn hle => by omega
      rwa [Nat.add_right_comm] at this

/-- No run is longer: one that ends among the slices still to be read, and began with the `r` below them or later. -/
theorem Part.le_longestRun (p : Part) {b m : Nat} (k a r : Nat) (hb : a ≤ b + r) (hlt : a < b + m) (htop : b + m ≤ a + k)
    (hopen : ∀ n, b ≤ n → n < b + m → (p.slice n).available = true) : m ≤ p.longestRun (List.range' a k) r := by
  induction k generalizing a r with
  | zero => omega
  | succ k ih =>
    rw [List.range'_succ, Part.longestRun]
    by_cases hba : b ≤ a
    · rw [if_pos (hopen a hba hlt)]
      by_cases hend : b + m = a + 1
      · exact le_max_of_le_left (by omega)
      · exact le_max_of_le_right (ih _ _ (by omega) (by omega) (by omega))
    · by_cases hm : m = 0
      · omega
      · exact le_max_of_le_right (ih _ _ (by omega) (by omega) (by omega))

theorem Part.hasRun_iff (p : Part) {lo top k : Nat} (h : lo ≤ top) :
    p.hasRun lo top k ↔ k ≤ p.longestRun (List.range' lo (top - lo)) 0 := by
  constructor
  · rintro ⟨a, hlo, htop, hopen⟩
    rcases Nat.eq_zero_or_pos k with rfl | hk
    · exact Nat.zero_le _
    · exact p.le_longestRun (top - lo) lo 0 (by omega) (by omega) (by omega) hopen
  · intro hle
    have := p.hasRun_longestRun (top - lo) lo 0 le_rfl fun n _ _ => by omega
    rw [Nat.add_sub_cancel' h] at this
    exact Part.hasRun_of_le this hle

/-- Pass 3: the width is the longest run up to the width asked for, and the window the first of that width that is open. -/
theorem Part.passThree_eq_some {p : Part} {t : TenantRecord} {d : Direction} {w floor c v : Nat}
    (hband : (p.band d).1 ≤ (p.band d).2 + 1) (hfloor : floor ≤ w) : p.passThree t d w floor = some (c, v) ↔
      floor ≤ v ∧ v ≤ w ∧ p.hasRun (p.band d).1 ((p.band d).2 + 1) v ∧
        (v < w → ¬p.hasRun (p.band d).1 ((p.band d).2 + 1) (v + 1)) ∧
        (p.scanOrder t d v).find? (fun c => (List.range' c v).all fun n => (p.slice n).available) = some c := by
  have hrun : ∀ k, p.hasRun (p.band d).1 ((p.band d).2 + 1) k ↔
      k ≤ p.longestRun (List.range' (p.band d).1 ((p.band d).2 + 1 - (p.band d).1)) 0 := fun k => p.hasRun_iff hband
  simp only [hrun]
  simp only [Part.passThree]
  generalize p.longestRun (List.range' (p.band d).1 ((p.band d).2 + 1 - (p.band d).1)) 0 = longest
  by_cases hlong : longest < floor
  · rw [if_pos hlong]
    simp only [reduceCtorEq, false_iff]
    omega
  · rw [if_neg hlong]
    simp only [Option.map_eq_some_iff, Prod.mk.injEq]
    constructor
    · rintro ⟨c', hfind, rfl, rfl⟩
      exact ⟨by omega, by omega, by omega, by omega, hfind⟩
    · rintro ⟨hv, hvw, hle, hmax, hfind⟩
      have : min w longest = v := by omega
      exact ⟨c, by rwa [this], rfl, this⟩

/-- The window that pass 3 takes is open, and its width lies between the floor width and the width asked for. -/
theorem Part.open_of_passThree {p : Part} {t : TenantRecord} {d : Direction} {w floor c v : Nat} (hfloor : floor ≤ w)
    (h : p.passThree t d w floor = some (c, v)) :
    floor ≤ v ∧ v ≤ w ∧ ∀ n, c ≤ n → n < c + v → (p.slice n).available = true := by
  simp only [Part.passThree, Option.ite_none_left_eq_some, Option.map_eq_some_iff, Prod.mk.injEq] at h
  obtain ⟨hlong, c', hfind, rfl, rfl⟩ := h
  have hopen := List.find?_some hfind
  simp only [List.all_eq_true, List.mem_range'_1] at hopen
  exact ⟨by omega, by omega, fun n hlo hhi => hopen n ⟨hlo, hhi⟩⟩

/-! ### The rover (R69) -/

theorem Part.roverPast_eq (p : Part) (scan : ScanDirection) (d : Direction) (c : Place) : p.roverPast scan d c =
    if scan = .up then (if c.first + c.width ≤ (p.band d).2 then c.first + c.width else (p.band d).1)
      else if (p.band d).1 < c.first then c.first - 1 else (p.band d).2 := by
  cases scan with
  | up =>
    simp only [Part.roverPast, if_true]
    split_ifs <;> omega
  | down =>
    simp only [Part.roverPast, reduceCtorEq, if_false]
    split_ifs <;> omega

/-! ### The scan in the terms of the statement -/

theorem isCandidate_iff {cls : CarrierClass} {lo hi w c : Nat} : isCandidate cls lo hi w c = true ↔ match cls with
    | .data => lo ≤ c ∧ c + w ≤ hi + 1
    | .video => c % 4 = 0 ∧ lo ≤ c ∧ c + 3 ≤ hi
    | .voice => lo + 1 ≤ c ∧ c + 1 ≤ hi := by
  cases cls <;> simp [isCandidate, and_assoc]

/-- The two orders of R66, each with its start. -/
theorem Part.scanOrder_order (p : Part) (t : TenantRecord) (d : Direction) (w : Nat) : ∃ start : Int,
    (t.scan = .up →
      (if t.cls = .video then start % 4 = 0 ∧ t.rover d ≤ start ∧ start < t.rover d + 4 else start = t.rover d) ∧
      (p.scanOrder t d w).Pairwise fun (a b : Nat) => if start ≤ a then b < start ∨ a < b else b < start ∧ a < b) ∧
    (t.scan = .down →
      (if t.cls = .video then start % 4 = 0 ∧ start ≤ (t.rover d : Int) - 3 ∧ (t.rover d : Int) - 3 < start + 4
        else start = (t.rover d : Int) - w + 1) ∧
      (p.scanOrder t d w).Pairwise fun (a b : Nat) => if a ≤ start then start < b ∨ b < a else start < b ∧ b < a) := by
  unfold Part.scanOrder
  cases hscan : t.scan with
  | up =>
    exact ⟨startUp t.cls (t.rover d), fun _ => ⟨startUp_spec t.cls (t.rover d),
      pairwise_visitOrder_up (p.candidates_sorted d t.cls w)⟩, nofun⟩
  | down =>
    exact ⟨startDown t.cls (t.rover d) w, nofun, fun _ => ⟨startDown_spec t.cls (t.rover d) w,
      pairwise_visitOrder_down (p.candidates_sorted d t.cls w)⟩⟩

/-- The first of a list that a test passes, and those before it that fail. -/
theorem find?_eq_some_iff_before {α : Type} {l : List α} {f : α → Bool} {a : α} : l.find? f = some a ↔
    f a = true ∧ ∃ before rest, l = before ++ a :: rest ∧ ∀ b ∈ before, ¬f b = true := by
  simp only [List.find?_eq_some_iff_append, Bool.not_eq_true, Bool.not_eq_true']

/-- Settles O25: candidates and order, the rover, one position, and pass 3. -/
theorem scanFollowsItsRules : Obligations.ScanFollowsItsRules := by
  intro p t d w hlow hhigh hw hvoice lo hi rover order open_ shared
  have hlo : (p.band d).1 = lo := congrArg Prod.fst (p.band_eq d)
  have hhi : (p.band d).2 = hi := congrArg Prod.snd (p.band_eq d)
  have hband : lo ≤ hi + 1 := by
    dsimp only [lo, hi]
    split <;> omega
  have hrover : t.rover d = rover := by cases d <;> rfl
  have hopen : ∀ n, open_ n ↔ (p.slice n).available = true := fun n => SliceEntry.available_iff.symm
  have hshared : ∀ n, shared n ↔ (p.slice n).guardEligible = true := fun n => by
    rw [SliceEntry.guardEligible_iff, ← hopen]
  refine ⟨fun c => ?_, ?_, fun c v _ _ _ => ?_, fun origin c hc => ?_, fun floor c v hfloor hle => ?_⟩
  · have hmem := (Part.mem_scanOrder (p := p) (t := t) (d := d) (c := c) hw).trans isCandidate_iff
    rw [hlo, hhi] at hmem
    exact hmem
  · rw [← hrover]
    exact p.scanOrder_order t d w
  · rw [Part.roverPast_eq, hlo, hhi]
  · intro clear carriers guards
    have hbottom : windowBottom t.cls c = if t.cls = .voice then c - 1 else c := by
      cases t.cls <;> rfl
    have hshape : p.shapeOk t.cls w origin c = true ↔ carriers 0 ∧ guards 0 := by
      simp only [Part.shapeOk_iff hc, carriers, guards, hopen, hshared, Nat.zero_le, forall_const]
      rfl
    refine ⟨hshape, ?_, fun v => ?_⟩
    · rw [Part.passOne_iff, hshape, and_assoc]
    · simp only [Part.passTwo_iff hw hvoice hc, hbottom, carriers, guards, hopen, hshared]
      rfl
  · intro run clear
    have hrun : ∀ k, run k ↔ p.hasRun lo (hi + 1) k := fun k => by simp only [run, Part.hasRun, hopen]
    have hclear : ∀ b, clear b ↔ ((List.range' b v).all fun n => (p.slice n).available) = true := fun b => by
      simp only [clear, hopen, List.all_eq_true, List.mem_range'_1, and_imp]
    rw [Part.passThree_eq_some (by rwa [hlo, hhi]) hle, hlo, hhi, find?_eq_some_iff_before]
    simp only [hrun, hclear]

end Sys2Proof.Machine
end

section
/-! SUPPORT. What an accepted placement makes of the part (R5, R69, R76): the claim of its window slice by slice, and
`Part.placing`, the part with the record, the job, the claim, the tenant's record and the Allocator's state in place. The
three takes come down to it, with both flags set where the PROFILE remedy was taken. -/

namespace Sys2Proof.Machine

/-! ### The composite and the test of the cap -/

theorem Part.fillsWeight_congr {p q : Part} (h : q.offset = p.offset) (n : Nat) (es : List SliceEntry) :
    q.fillsWeight n es = p.fillsWeight n es := by
  induction es generalizing n with
  | nil => rfl
  | cons e es ih => simp only [Part.fillsWeight, ih, h]

/-- The composite is read from the map, the grants and the jobs, and from the tilt. -/
theorem Part.composite_congr {p q : Part} (hoffset : q.offset = p.offset) (hslices : q.slices = p.slices)
    (hgrants : q.grants = p.grants) (hjobs : q.engine.jobs = p.engine.jobs) : q.composite = p.composite := by
  have hcarrier : q.carriersWeight = p.carriersWeight := by
    have hone : q.carrierWeight = p.carrierWeight := by
      funext l c
      simp only [Part.carrierWeight, hoffset]
    funext l cs
    rw [Part.carriersWeight, Part.carriersWeight, hone]
  have hcontribution : q.contribution = p.contribution := by
    funext g
    simp only [Part.contribution, Part.grant_congr hgrants, Part.jobOf_congr hjobs, hcarrier]
  rw [Part.composite, Part.composite, hcontribution, Part.fillsWeight_congr hoffset, hslices]

@[simp] theorem Part.composite_dropFront (p : Part) : p.dropFront.composite = p.composite :=
  Part.composite_congr rfl rfl rfl rfl

/-- The test of the cap reads neither the tenants nor the Allocator's state. -/
theorem Part.capTest_withTenants (p : Part) (ts : List Tenant) (a : Allocator) :
    ({ p with tenants := ts, alloc := a } : Part).capTest = { p.capTest with tenants := ts, alloc := a } := by
  have hc : ({ p with tenants := ts, alloc := a } : Part).composite = p.composite :=
    Part.composite_congr rfl rfl rfl rfl
  unfold Part.capTest
  rw [hc]
  dsimp only
  split <;> rfl

/-- The test of the cap leaves all but OVER_CAP and the PLANT events. -/
theorem Part.capTest_frame (p : Part) :
    ∃ l e, p.capTest = { p with level := l, events := e } ∧ e.raised = p.events.raised := by
  rcases p.capTest_eq with h | ⟨-, -, h⟩
  · exact ⟨_, _, h, rfl⟩
  · exact ⟨_, _, h, rfl⟩

/-! ### The claim of a window (R5) -/

/-- A carrier slice of a claim: an available slice is CLAIMED, any other left. -/
def SliceEntry.claimedBy (g : Nat) (e : SliceEntry) : SliceEntry :=
  if e.available then ⟨.claimed g, false, false⟩ else e

/-- A guard slice of a claim. -/
def SliceEntry.guardedBy (g : Nat) (e : SliceEntry) : SliceEntry :=
  match e.use with
  | .guard a none => if a == g then e else { e with use := .guard a (some g) }
  | .free | .parked _ _ => ⟨.guard g none, false, false⟩
  | _ => e

/-- What the claim of a window makes of the entry of slice `n`. -/
def claimEntry (g : Nat) (cls : CarrierClass) (c : Place) (n : Nat) (e : SliceEntry) : SliceEntry :=
  let carried := if n ∈ List.range' c.first c.width then e.claimedBy g else e
  if n ∈ guardSlices cls c.first then carried.guardedBy g else carried

theorem SliceEntry.guardedBy_of_available {e : SliceEntry} (h : e.available = true) (g : Nat) :
    e.guardedBy g = ⟨.guard g none, false, false⟩ := by
  rcases SliceEntry.available_iff.mp h with hu | ⟨left, fill, hu⟩ <;> simp only [SliceEntry.guardedBy, hu]

theorem SliceEntry.guardedBy_of_guard {e : SliceEntry} {a g : Nat} (h : e.use = .guard a none) (ha : a ≠ g) :
    e.guardedBy g = { e with use := .guard a (some g) } := by
  simp only [SliceEntry.guardedBy, h, beq_iff_eq, if_neg ha]

theorem claimEntry_of_carrier {g : Nat} {cls : CarrierClass} {c : Place} {n : Nat} {e : SliceEntry} (hlo : c.first ≤ n)
    (hhi : n < c.first + c.width) (h : e.available = true) : claimEntry g cls c n e = ⟨.claimed g, false, false⟩ := by
  simp only [claimEntry, List.mem_range'_1, hlo, hhi, and_self, if_true, SliceEntry.claimedBy, h,
    SliceEntry.guardedBy, ite_self]

theorem claimEntry_of_guard {g : Nat} {c : Place} {n : Nat} (e : SliceEntry) (hw : c.width = 1)
    (hn : n + 1 = c.first ∨ n = c.first + 1) : claimEntry g .voice c n e = e.guardedBy g := by
  have hout : ¬(c.first ≤ n ∧ n < c.first + c.width) := by omega
  have hguard : n = c.first - 1 ∨ n = c.first + 1 := by omega
  simp only [claimEntry, List.mem_range'_1, hout, if_false, guardSlices, List.mem_cons, List.not_mem_nil, or_false,
    hguard, if_true]

theorem claimEntry_of_outside {g : Nat} {cls : CarrierClass} {c : Place} {n : Nat} (e : SliceEntry)
    (hv : cls = .voice → 1 ≤ c.first ∧ c.width = 1) (h : windowCovers cls c.first c.width n = false) :
    claimEntry g cls c n e = e := by
  rw [← Bool.not_eq_true, windowCovers_iff, not_or] at h
  have hguard : n ∉ guardSlices cls c.first := by
    rw [mem_guardSlices fun hcls => (hv hcls).1]
    rintro ⟨hcls, hn⟩
    exact h.2 ⟨hcls, by rwa [(hv hcls).2]⟩
  simp only [claimEntry, List.mem_range'_1, h.1, if_false, hguard]

/-- A slice that is held, and no guard that could be shared, is left by a claim. -/
theorem claimEntry_of_granted {g v : Nat} {cls : CarrierClass} {c : Place} {n : Nat} {e : SliceEntry}
    (h : e.use = .granted v) : claimEntry g cls c n e = e := by
  have hclaimed : e.claimedBy g = e := by simp [SliceEntry.claimedBy, SliceEntry.available, h]
  have hguarded : e.guardedBy g = e := by simp only [SliceEntry.guardedBy, h]
  simp only [claimEntry, hclaimed, ite_self, hguarded]

/-- The map after the claim of a window. -/
def claimSlices (g : Nat) (cls : CarrierClass) (c : Place) (l : List SliceEntry) : List SliceEntry :=
  l.mapIdx (claimEntry g cls c)

theorem Part.setSlice_slice (p : Part) (n : Nat) : p.setSlice n (p.slice n) = p := by
  have hset : p.slices.set n (p.slice n) = p.slices := by
    refine List.ext_getElem? fun i => ?_
    rw [List.getElem?_set]
    by_cases h : n = i
    · subst h
      by_cases hn : n < p.slices.length
      · rw [if_pos rfl, if_pos hn, Part.getElem?_slices hn]
      · rw [if_pos rfl, if_neg hn, List.getElem?_eq_none (Nat.not_lt.mp hn)]
    · rw [if_neg h]
  rw [Part.setSlice, hset]

theorem Part.claimCarrier_eq (g : Nat) (p : Part) (n : Nat) :
    Part.claimCarrier g p n = p.setSlice n ((p.slice n).claimedBy g) := by
  unfold Part.claimCarrier SliceEntry.claimedBy
  split
  · rfl
  · exact (p.setSlice_slice n).symm

theorem Part.claimGuard_eq (g : Nat) (p : Part) (n : Nat) :
    Part.claimGuard g p n = p.setSlice n ((p.slice n).guardedBy g) := by
  cases hu : (p.slice n).use with
  | guard a b =>
    cases b with
    | none =>
      by_cases ha : a = g
      · simp [Part.claimGuard, SliceEntry.guardedBy, hu, ha, Part.setSlice_slice]
      · simp [Part.claimGuard, SliceEntry.guardedBy, hu, ha]
    | some b => simp [Part.claimGuard, SliceEntry.guardedBy, hu, Part.setSlice_slice]
  | free => simp only [Part.claimGuard, SliceEntry.guardedBy, hu]
  | parked left fill => simp only [Part.claimGuard, SliceEntry.guardedBy, hu]
  | claimed o => simp only [Part.claimGuard, SliceEntry.guardedBy, hu, Part.setSlice_slice]
  | granted o => simp only [Part.claimGuard, SliceEntry.guardedBy, hu, Part.setSlice_slice]
  | reserved => simp only [Part.claimGuard, SliceEntry.guardedBy, hu, Part.setSlice_slice]
  | quarantined => simp only [Part.claimGuard, SliceEntry.guardedBy, hu, Part.setSlice_slice]
  | crossover => simp only [Part.claimGuard, SliceEntry.guardedBy, hu, Part.setSlice_slice]

/-- A slice outside the grid reads as one that no claim changes. -/
theorem claimEntry_crossover (g : Nat) (cls : CarrierClass) (c : Place) (n : Nat) :
    claimEntry g cls c n ⟨.crossover, false, false⟩ = ⟨.crossover, false, false⟩ := by
  simp [claimEntry, SliceEntry.claimedBy, SliceEntry.available, SliceEntry.guardedBy]

theorem Part.slice_outside {p : Part} {n : Nat} (h : ¬n < p.slices.length) : p.slice n = ⟨.crossover, false, false⟩ := by
  rw [Part.slice, List.getD_eq_getElem?_getD, List.getElem?_eq_none (Nat.not_lt.mp h), Option.getD_none]

/-- The slices that the two steps of a claim leave. -/
theorem Part.slice_claims (p : Part) (g : Nat) (cls : CarrierClass) (c : Place) (n : Nat) :
    ((p.mapSlices (SliceEntry.claimedBy g) (List.range' c.first c.width)).mapSlices (SliceEntry.guardedBy g)
      (guardSlices cls c.first)).slice n = claimEntry g cls c n (p.slice n) := by
  have hnodup : (guardSlices cls c.first).Nodup := by
    cases cls with
    | voice => simp [guardSlices]
    | video => exact .nil
    | data => exact .nil
  have hlen := (p.mapSlices_frame (SliceEntry.claimedBy g) (List.range' c.first c.width)).2
  rw [Part.slice_mapSlices _ _ hnodup, Part.slice_mapSlices _ _ List.nodup_range', hlen]
  by_cases hn : n < p.slices.length
  · simp only [hn, and_true, claimEntry]
  · simp only [hn, and_false, if_false, Part.slice_outside hn, claimEntry_crossover]

/-- The claim of a window is one change of the map, and then the test of the cap. -/
theorem Part.claimWindow_eq (p : Part) (g : Nat) (cls : CarrierClass) (c : Place) :
    p.claimWindow g cls c = ({ p with slices := claimSlices g cls c p.slices } : Part).capTest := by
  have hcarrier : Part.claimCarrier g = fun q n => q.setSlice n ((q.slice n).claimedBy g) :=
    funext₂ (Part.claimCarrier_eq g)
  have hguard : Part.claimGuard g = fun q n => q.setSlice n ((q.slice n).guardedBy g) :=
    funext₂ (Part.claimGuard_eq g)
  obtain ⟨hframe, hlen⟩ := p.mapSlices_frame (SliceEntry.claimedBy g) (List.range' c.first c.width)
  obtain ⟨hframe', hlen'⟩ := (p.mapSlices (SliceEntry.claimedBy g) (List.range' c.first c.width)).mapSlices_frame
    (SliceEntry.guardedBy g) (guardSlices cls c.first)
  have hslices : ((p.mapSlices (SliceEntry.claimedBy g) (List.range' c.first c.width)).mapSlices
      (SliceEntry.guardedBy g) (guardSlices cls c.first)).slices = claimSlices g cls c p.slices := by
    refine List.ext_getElem? fun n => ?_
    rw [claimSlices, List.getElem?_mapIdx]
    by_cases hn : n < p.slices.length
    · rw [Part.getElem?_slices (by rwa [hlen', hlen]), Part.slice_claims, Part.getElem?_slices hn, Option.map_some]
    · rw [List.getElem?_eq_none (by omega), List.getElem?_eq_none (by omega), Option.map_none]
  rw [Part.claimWindow, hcarrier, hguard]
  change ((p.mapSlices _ _).mapSlices _ _).capTest = _
  rw [hframe', hslices, hframe]

/-- The map after a claim, as the statements have it. -/
theorem Part.slice_of_claimSlices {p u : Part} {g : Nat} {cls : CarrierClass} {c : Place}
    (h : u.slices = claimSlices g cls c p.slices) (n : Nat) : u.slice n = claimEntry g cls c n (p.slice n) := by
  rw [Part.slice, h, claimSlices, List.getD_eq_getElem?_getD, List.getElem?_mapIdx]
  by_cases hn : n < p.slices.length
  · rw [Part.getElem?_slices hn]
    rfl
  · rw [List.getElem?_eq_none (Nat.not_lt.mp hn), Part.slice_outside hn, claimEntry_crossover]
    rfl

/-- A window that is open in the grid stands claimed. -/
theorem Part.claimedSince_of_claimSlices {p u : Part} {g : Nat} {cls : CarrierClass} {c : Place}
    (h : u.slices = claimSlices g cls c p.slices) (hv : cls = .voice → 1 ≤ c.first ∧ c.width = 1)
    (hopen : ∀ n, c.first ≤ n → n < c.first + c.width → (p.slice n).available = true) : p.claimedSince u g cls c := by
  refine ⟨fun n hlo hhi => ?_, fun hcls n hn => ?_, fun n hout => ?_⟩
  · rw [Part.slice_of_claimSlices h, claimEntry_of_carrier hlo hhi (hopen n hlo hhi)]
  · subst hcls
    rw [Part.slice_of_claimSlices h, claimEntry_of_guard _ (hv rfl).2 hn]
    exact ⟨fun ha => SliceEntry.guardedBy_of_available ha g, fun a ha hne => SliceEntry.guardedBy_of_guard ha hne⟩
  · rw [Part.slice_of_claimSlices h, claimEntry_of_outside _ hv hout]

/-! ### The part with a placement in it -/

/-- The part with a placement in it: the record `r` of grant `g`, its job, the claim of its window, the record of its
tenant and the Allocator's state; the cap has been tested. -/
def Part.placing (p : Part) (g : Nat) (r : Grant) (c : Place) (j : Job) (k : Nat) (t : TenantRecord) (a : Allocator) :
    Part :=
  ({ p with
    tenants := (p.setTenant k t).tenants
    slices := claimSlices g r.cls c p.slices
    grants := p.grants.set g (some r)
    alloc := a
    engine := p.engine.withJob j } : Part).capTest

/-- The same, with both flags of the grant set where the PROFILE remedy was taken (R72). -/
def Part.placingFlagged (p : Part) (g : Nat) (r : Grant) (c : Place) (j : Job) (k : Nat) (t : TenantRecord)
    (a : Allocator) (flagged : Bool) : Part :=
  if flagged then (p.placing g r c j k t a).setFlags g else p.placing g r c j k t a

section Placing

variable (p : Part) (g : Nat) (r : Grant) (c : Place) (j : Job) (k : Nat) (t : TenantRecord) (a : Allocator)

/-- A placement leaves everything but what it names, OVER_CAP and the PLANT events. -/
theorem Part.placing_frame : ∃ l e, p.placing g r c j k t a = { p with
    tenants := (p.setTenant k t).tenants
    slices := claimSlices g r.cls c p.slices
    grants := p.grants.set g (some r)
    alloc := a
    engine := p.engine.withJob j
    level := l
    events := e } ∧ e.raised = p.events.raised := Part.capTest_frame _

@[simp] theorem Part.placing_tenants : (p.placing g r c j k t a).tenants = (p.setTenant k t).tenants := by
  obtain ⟨_, _, h, -⟩ := p.placing_frame g r c j k t a
  rw [h]

@[simp] theorem Part.placing_slices : (p.placing g r c j k t a).slices = claimSlices g r.cls c p.slices := by
  obtain ⟨_, _, h, -⟩ := p.placing_frame g r c j k t a
  rw [h]

@[simp] theorem Part.placing_grants : (p.placing g r c j k t a).grants = p.grants.set g (some r) := by
  obtain ⟨_, _, h, -⟩ := p.placing_frame g r c j k t a
  rw [h]

@[simp] theorem Part.placing_split : (p.placing g r c j k t a).split = p.split := by
  obtain ⟨_, _, h, -⟩ := p.placing_frame g r c j k t a
  rw [h]

@[simp] theorem Part.placing_alloc : (p.placing g r c j k t a).alloc = a := by
  obtain ⟨_, _, h, -⟩ := p.placing_frame g r c j k t a
  rw [h]

@[simp] theorem Part.placing_engine : (p.placing g r c j k t a).engine = p.engine.withJob j := by
  obtain ⟨_, _, h, -⟩ := p.placing_frame g r c j k t a
  rw [h]

@[simp] theorem Part.placing_raised : (p.placing g r c j k t a).events.raised = p.events.raised := by
  obtain ⟨_, _, h, he⟩ := p.placing_frame g r c j k t a
  rw [h, he]

/-- The placement, with its tenants and its map left unread. -/
theorem Part.placing_eq : p.placing g r c j k t a = ({ p with
    tenants := (p.placing g r c j k t a).tenants
    slices := (p.placing g r c j k t a).slices
    grants := p.grants.set g (some r)
    alloc := a
    engine := p.engine.withJob j } : Part).capTest := by
  rw [Part.placing_tenants, Part.placing_slices]
  rfl

theorem Part.grant_placing (h : Nat) :
    (p.placing g r c j k t a).grant h = if h = g ∧ g < p.grants.length then some r else p.grant h := by
  rw [← Part.grant_setGrant]
  exact Part.grant_congr (p.placing_grants g r c j k t a) h

theorem Part.tenant_placing {t₀ : TenantRecord} (ht : p.tenant k = some t₀) :
    (p.placing g r c j k t a).tenant k = some t :=
  (Part.tenant_congr (p.placing_tenants g r c j k t a) k).trans (Part.tenant_setTenant_self t ht)

/-- A new record of the tenant, and a new state of the Allocator, go into the placement. -/
theorem Part.placing_withTenants (t' : TenantRecord) (a' : Allocator) :
    ({ p.placing g r c j k t a with
      tenants := ((p.placing g r c j k t a).setTenant k t').tenants, alloc := a' } : Part) =
      p.placing g r c j k t' a' := by
  have htenants : ((p.placing g r c j k t a).setTenant k t').tenants = (p.setTenant k t').tenants := by
    rw [Part.setTenant_tenants, Part.placing_tenants, Part.setTenant_tenants, Part.setTenant_tenants,
      List.modify_modify_eq]
    rfl
  rw [htenants, Part.placing, ← Part.capTest_withTenants]
  rfl

theorem Part.placing_setTenant (t' : TenantRecord) :
    (p.placing g r c j k t a).setTenant k t' = p.placing g r c j k t' a := by
  refine (p.placing_withTenants g r c j k t a t' (p.placing g r c j k t a).alloc).trans ?_
  rw [Part.placing_alloc]

end Placing

/-! ### Both flags of a grant (R51, R72) -/

theorem Part.upkept_setFlags (p : Part) (g : Nat) : Part.Upkept p (p.setFlags g) := by
  unfold Part.setFlags
  split
  · exact .refl p
  · split
    · exact .setGrant p g _
    · exact ((Part.Upkept.setGrant p g _).trans (.raise _ _ _)).trans (.markAttempt _ g)

theorem Part.tenants_setFlags (p : Part) (g : Nat) : (p.setFlags g).tenants = p.tenants := by
  rw [(p.upkept_setFlags g).frame]

theorem Part.grants_setFlags {p : Part} {g : Nat} {r : Grant} (h : p.grant g = some r) :
    (p.setFlags g).grants = p.grants.set g (some { r with impaired := true, relocationPending := true }) := by
  cases hi : r.impaired with
  | true =>
    simp only [Part.setFlags, h, hi, if_true, Part.setGrant_grants]
  | false =>
    rw [Part.setFlags_of_clear h hi]
    unfold Part.markAttempt
    split <;> rfl

theorem Part.reply_setFlags (p : Part) (g : Nat) : (p.setFlags g).alloc.reply = p.alloc.reply :=
  (p.kept_setFlags g).reply

/-- Where the flags turn set, IMPAIRED is raised and the grant is in the attempt list (R51, R63). -/
theorem Part.setFlags_of_turn {p : Part} {g : Nat} {r : Grant} (h : p.grant g = some r) (hi : r.impaired = false)
    (ht : r.tenant < p.events.raised.length) :
    (p.setFlags g).events.raised.getD r.tenant 0 &&& 8 = 8 ∧ .attempt g ∈ (p.setFlags g).alloc.work := by
  rw [Part.setFlags_of_clear h hi]
  constructor
  · refine (Part.Upkept.markAttempt _ g).raised _ _ ?_
    rw [Part.raised_raise _ _ _ (by simpa using ht), if_pos rfl]
    exact bitVec_or_and _ _
  · unfold Part.markAttempt
    split
    · next hmem => simpa using hmem
    · simp

/-- The flags are set beside a new record of a tenant and a new reply in build. -/
theorem Part.setFlags_withTenants (p : Part) (g : Nat) (ts : List Tenant) (b : Option BuiltReply) :
    ({ p with tenants := ts, alloc := { p.alloc with reply := b } } : Part).setFlags g =
      { p.setFlags g with tenants := ts, alloc := { (p.setFlags g).alloc with reply := b } } := by
  have hgrant : ({ p with tenants := ts, alloc := { p.alloc with reply := b } } : Part).grant g = p.grant g := rfl
  have hmark : ∀ q : Part, ({ q with tenants := ts, alloc := { q.alloc with reply := b } } : Part).markAttempt g =
      { q.markAttempt g with tenants := ts, alloc := { (q.markAttempt g).alloc with reply := b } } := fun q => by
    unfold Part.markAttempt
    dsimp only
    split <;> rfl
  cases hr : p.grant g with
  | none => simp only [Part.setFlags, hgrant, hr]
  | some r =>
    cases hi : r.impaired with
    | true => simp only [Part.setFlags, hgrant, hr, hi, if_true, Part.setGrant]
    | false =>
      rw [Part.setFlags_of_clear (hgrant.trans hr) hi, Part.setFlags_of_clear hr hi]
      exact hmark ((p.setGrant g (some { r with impaired := true, relocationPending := true })).raise r.tenant .impaired)

section PlacingFlagged

variable {p u : Part} {g : Nat} {r : Grant} {c : Place} {j : Job} {k : Nat} {t : TenantRecord} {a : Allocator}
  {flagged : Bool}

/-- The fields of the part that a placement leaves, with the flags set or not. -/
theorem Part.placingFlagged_fields (h : u = p.placingFlagged g r c j k t a flagged) (hg : g < p.grants.length) :
    u.grant g = some { r with
      impaired := r.impaired || flagged, relocationPending := r.relocationPending || flagged } ∧
    (∀ i, i ≠ g → u.grant i = p.grant i) ∧ u.engine = p.engine.withJob j ∧
    u.slices = claimSlices g r.cls c p.slices ∧ u.tenants = (p.setTenant k t).tenants ∧ u.alloc.reply = a.reply := by
  have hself : (p.placing g r c j k t a).grant g = some r := by
    rw [Part.grant_placing, if_pos ⟨rfl, hg⟩]
  have hother : ∀ i, i ≠ g → (p.placing g r c j k t a).grant i = p.grant i := fun i hi => by
    rw [Part.grant_placing, if_neg fun h => hi h.1]
  subst h
  cases flagged with
  | false =>
    simp only [Part.placingFlagged, Bool.false_eq_true, if_false, Bool.or_false, Part.placing_engine,
      Part.placing_slices, Part.placing_tenants, Part.placing_alloc, hself, and_self, and_true, true_and]
    exact hother
  | true =>
    have hkept := Part.upkept_setFlags (p.placing g r c j k t a) g
    have hgrants := Part.grants_setFlags hself
    have hgrant : ∀ i, ((p.placing g r c j k t a).setFlags g).grant i =
        ((p.placing g r c j k t a).setGrant g (some { r with impaired := true, relocationPending := true })).grant i :=
      Part.grant_congr hgrants
    simp only [Part.placingFlagged, if_true, Bool.or_true]
    refine ⟨?_, fun i hi => ?_, ?_, ?_, ?_, ?_⟩
    · rw [hgrant, Part.grant_setGrant_self _ hself]
    · rw [hgrant, Part.grant_setGrant_ne _ _ _ _ hi, hother i hi]
    · rw [hkept.frame]
      exact p.placing_engine g r c j k t a
    · rw [hkept.frame]
      exact p.placing_slices g r c j k t a
    · rw [hkept.frame]
      exact p.placing_tenants g r c j k t a
    · rw [Part.reply_setFlags, Part.placing_alloc]

theorem Part.placingFlagged_work (h : u = p.placingFlagged g r c j k t a flagged) (hf : flagged = false) :
    u.alloc.work = a.work := by
  rw [h, hf, Part.placingFlagged, if_neg Bool.false_ne_true, Part.placing_alloc]

/-- Where the flags turn set, IMPAIRED is raised and the grant is in the attempt list. -/
theorem Part.placingFlagged_turn (h : u = p.placingFlagged g r c j k t a flagged) (hg : g < p.grants.length)
    (ht : r.tenant < p.events.raised.length) (hf : flagged = true) (hi : r.impaired = false) :
    u.events.raised.getD r.tenant 0 &&& 8 = 8 ∧ .attempt g ∈ u.alloc.work := by
  have hself : (p.placing g r c j k t a).grant g = some r := by
    rw [Part.grant_placing, if_pos ⟨rfl, hg⟩]
  rw [h, hf, Part.placingFlagged, if_pos rfl]
  exact Part.setFlags_of_turn hself hi (by rwa [Part.placing_raised])

end PlacingFlagged

end Sys2Proof.Machine
end

section
/-! SUPPORT. The three takes and the relocation attempt as acts (R59, R60): how a judgement refuses the item or places it,
with the reply in build, in terms of `Part.placing`. -/

namespace Sys2Proof.Machine

/-! ### What a placement delivers (R36, R37) -/

/-- A record that counts for each tenant as the one it replaces leaves what every tenant is delivered. -/
theorem Part.delivered_of_set {p q : Part} {g : Nat} {x : Option Grant} (hq : q.grants = p.grants.set g x)
    (hx : ∀ k, Grant.capacityIn k [.active, .moving, .resizing] x =
      Grant.capacityIn k [.active, .moving, .resizing] (p.grant g)) (k : Nat) : q.delivered k = p.delivered k := by
  have hmap : q.grants.map (Grant.capacityIn k [.active, .moving, .resizing]) =
      p.grants.map (Grant.capacityIn k [.active, .moving, .resizing]) := by
    refine List.ext_getElem? fun i => ?_
    rw [hq, List.getElem?_map, List.getElem?_map, List.getElem?_set]
    by_cases hi : g = i
    · subst hi
      by_cases hg : g < p.grants.length
      · have hget : p.grant g = p.grants[g] := by
          simp [Part.grant, List.getD_eq_getElem?_getD, hg]
        rw [if_pos rfl, if_pos hg, List.getElem?_eq_getElem hg, Option.map_some, Option.map_some, hx, hget]
      · rw [if_pos rfl, if_neg hg, List.getElem?_eq_none (Nat.not_lt.mp hg)]
    · rw [if_neg hi]
  rw [Part.delivered, Part.delivered, hmap]

theorem Part.delivered_setFlags (p : Part) (g k : Nat) : (p.setFlags g).delivered k = p.delivered k := by
  cases h : p.grant g with
  | none => simp only [Part.setFlags, h]
  | some r =>
    refine Part.delivered_of_set (Part.grants_setFlags h) (fun k => ?_) k
    rw [h]
    rfl

/-- Both a grant in service and one in its cycle count for its tenant. -/
theorem Grant.capacityIn_of_service {x y : Grant} (hx : x.state ∈ [.active, .moving, .resizing])
    (hy : y.state ∈ [.active, .moving, .resizing]) (ht : x.tenant = y.tenant) (hc : x.capacity = y.capacity) (k : Nat) :
    Grant.capacityIn k [.active, .moving, .resizing] (some x) =
      Grant.capacityIn k [.active, .moving, .resizing] (some y) := by
  simp only [Grant.capacityIn, List.contains_iff_mem.mpr hx, List.contains_iff_mem.mpr hy, ht, hc]

/-- An ARRIVING grant counts as a free record does. -/
theorem Grant.capacityIn_of_arriving {x : Grant} (hx : x.state = .arriving) (k : Nat) :
    Grant.capacityIn k [.active, .moving, .resizing] (some x) =
      Grant.capacityIn k [.active, .moving, .resizing] none := by
  simp [Grant.capacityIn, hx]

/-- An act that gives one tenant a record of the same commitment, and leaves what all are delivered, raises no
UNDER_COMMIT. -/
theorem Part.commitTest_of_delivered {p q : Part} {k : Nat} {t t' : TenantRecord} (ht : p.tenant k = some t)
    (hq : q.tenants = (p.setTenant k t').tenants) (hc : t'.committed = t.committed)
    (hd : ∀ i, q.delivered i = p.delivered i) : p.commitTest q = q := by
  refine Part.commitTest_of_no_turn p q fun i _ => Part.no_turn_of_kept (hd i).ge fun r r' hr hr' => ?_
  rw [Part.tenant_congr hq] at hr'
  by_cases hi : i = k
  · subst hi
    rw [Part.tenant_setTenant_self t' ht] at hr'
    cases hr'
    cases ht.symm.trans hr
    exact hc.le
  · rw [Part.tenant_setTenant_ne _ _ _ _ hi, hr] at hr'
    cases hr'
    exact le_rfl

/-- The same record again changes nothing. -/
theorem Part.setTenant_self {p : Part} {k : Nat} {t : TenantRecord} (h : p.tenant k = some t) : p.setTenant k t = p := by
  suffices htenants : (p.setTenant k t).tenants = p.tenants by
    exact congrArg (fun ts => ({ p with tenants := ts } : Part)) htenants
  refine List.ext_getElem? fun i => ?_
  rw [Part.setTenant_tenants, List.getElem?_modify]
  by_cases hi : k = i
  · subst hi
    have hlt := Part.lt_of_tenant h
    have hget : p.tenants[k].record = some t := by
      simpa [Part.tenant, List.getD_eq_getElem?_getD, hlt] using h
    rw [List.getElem?_eq_getElem hlt]
    simp [← hget]
  · simp [hi]

theorem Part.getElem?_setTenant_ne (p : Part) {k i : Nat} (t : TenantRecord) (h : i ≠ k) :
    (p.setTenant k t).tenants[i]? = p.tenants[i]? := by
  simp [Ne.symm h]

/-! ### The window of a placement, and the whole of one -/

/-- The window that a placement takes: open, and with room for the guards of a VOICE carrier. -/
structure Part.OpenWindow (p : Part) (cls : CarrierClass) (c : Place) : Prop where
  guards : cls = .voice → 1 ≤ c.first ∧ c.width = 1
  carriers : ∀ n, c.first ≤ n → n < c.first + c.width → (p.slice n).available = true

/-- A narrower DATA window is open too. -/
theorem Part.OpenWindow.narrow {p : Part} {cls : CarrierClass} {c w v : Nat} (h : p.OpenWindow cls ⟨c, w⟩) (hv : v ≤ w)
    (hcls : cls = .data) : p.OpenWindow cls ⟨c, v⟩ where
  guards hvoice := by
    rw [hcls] at hvoice
    cases hvoice
  carriers n hlo hhi := h.carriers n hlo (Nat.lt_of_lt_of_le hhi (Nat.add_le_add_left hv c))

theorem Part.openWindow_of_shapeOk {p : Part} {c w : Nat} {origin : Option Grant} {cls : CarrierClass}
    (hw : cls = .voice → w = 1) (hc : cls = .voice → 1 ≤ c) (h : p.shapeOk cls w origin c = true) :
    p.OpenWindow cls ⟨c, w⟩ where
  guards hcls := ⟨hc hcls, hw hcls⟩
  carriers n hlo hhi := (((Part.shapeOk_iff hc).mp h).1 n hlo hhi).1

/-- The whole of a placement whose flags stay clear: everything but what it names stands, up to the test of the cap. -/
theorem Part.placing_whole {p : Part} (g : Nat) {r : Grant} {c : Place} (j : Job) {k : Nat} {t₀ : TenantRecord}
    (t : TenantRecord) (a : Allocator) (ht : p.tenant k = some t₀) (hwindow : p.OpenWindow r.cls c) :
    let u := p.placing g r c j k t a
    u = ({ p with
      tenants := u.tenants, slices := u.slices, grants := p.grants.set g (some r), alloc := a
      engine := p.engine.withJob j } : Part).capTest ∧
    p.claimedSince u g r.cls c ∧ u.tenant k = some t ∧ ∀ i, i ≠ k → u.tenants[i]? = p.tenants[i]? := by
  refine ⟨p.placing_eq g r c j k t a, ?_, p.tenant_placing g r c j k t a ht, fun i hi => ?_⟩
  · exact Part.claimedSince_of_claimSlices (p.placing_slices g r c j k t a) hwindow.guards hwindow.carriers
  · rw [Part.placing_tenants]
    exact p.getElem?_setTenant_ne t hi

/-- A placement that leaves the record of its tenant. -/
theorem Part.placing_sameTenant {p : Part} (g : Nat) (r : Grant) (c : Place) (j : Job) {k : Nat} {t : TenantRecord}
    (a : Allocator) (ht : p.tenant k = some t) : p.placing g r c j k t a = ({ p with
      slices := (p.placing g r c j k t a).slices
      grants := p.grants.set g (some r)
      alloc := a
      engine := p.engine.withJob j } : Part).capTest := by
  rw [Part.placing_slices, Part.placing, Part.setTenant_self ht]

/-! ### What precedes a placement (R76) -/

/-- `q` is `p` as a placement for the grant `g` finds it: without the item taken, and with the preempted grant shrunk. -/
structure Part.Preparing (p q : Part) (g : Nat) : Prop where
  tenants : q.tenants = p.tenants
  split : q.split = p.split
  slices : q.slices = p.slices
  grants : q.grants.length = p.grants.length
  grant : q.grant g = p.grant g
  delivered : ∀ k, q.delivered k = p.delivered k
  raised : q.events.raised.length = p.events.raised.length

theorem Part.preparing_dropFront (p : Part) (g : Nat) : Part.Preparing p p.dropFront g :=
  ⟨rfl, rfl, rfl, rfl, rfl, fun _ => rfl, rfl⟩

theorem Part.Preparing.tenant {p q : Part} {g : Nat} (h : Part.Preparing p q g) (k : Nat) : q.tenant k = p.tenant k :=
  Part.tenant_congr h.tenants k

/-- The part with the DATA grant `v`, of record `x`, shrunk for a placement: RESIZING with its job, PREEMPTED raised. -/
def Part.shrunk (p : Part) (v : Nat) (x : Grant) (width : Nat) : Part :=
  ({ p with
    grants := p.grants.set v (some { x with state := .resizing })
    engine := p.engine.withJob (p.newJob v .resize (some ⟨x.first, width⟩)) } : Part).raise x.tenant .preempted

theorem Part.preemptFor_some {p : Part} {v : Nat} {x : Grant} (h : p.grant v = some x) (cls : CarrierClass) (c : Nat) :
    p.preemptFor cls c (some v) = (p.shrunk v x (windowBottom cls c - x.first),
      some (p.newJob v .resize (some ⟨x.first, windowBottom cls c - x.first⟩)).id,
      some (v, windowBottom cls c - x.first)) := by
  simp only [Part.preemptFor, Part.preempt, h, Option.map_some, Option.getD_some]
  rfl

theorem Part.preparing_shrunk {p : Part} {v g : Nat} {x : Grant} (h : p.grant v = some x) (hs : x.state = .active)
    (hg : g ≠ v) (width : Nat) : Part.Preparing p (p.dropFront.shrunk v x width) g where
  tenants := rfl
  split := rfl
  slices := rfl
  grants := List.length_set
  grant := p.grant_setGrant_ne v _ g hg
  delivered := Part.delivered_of_set rfl fun k => by
    rw [h]
    exact Grant.capacityIn_of_service (x := { x with state := .resizing }) (y := x) (by simp) (by simp [hs]) rfl rfl k
  raised := List.length_modify ..

/-! ### Accepted placements (R76, R78, R79, R81) -/

/-- The item taken is no part of a placement. -/
theorem Part.placingFlagged_dropFront (p : Part) (g : Nat) (r : Grant) (c : Place) (j : Job) (k : Nat)
    (t : TenantRecord) (a : Allocator) (flagged : Bool) :
    p.dropFront.placingFlagged g r c j k t a flagged = p.placingFlagged g r c j k t a flagged := rfl

/-- The tenant's record with the rover of one band moved (R69). -/
def TenantRecord.roved (t : TenantRecord) (d : Direction) (v : Nat) : TenantRecord :=
  { t with
    returnRover := if d = .ret then v else t.returnRover
    forwardRover := if d = .forward then v else t.forwardRover }

theorem Part.moveRover_eq {p : Part} {k : Nat} {t : TenantRecord} (h : p.tenant k = some t) (d : Direction) (c : Place) :
    p.moveRover k d c = p.setTenant k (t.roved d (p.roverPast t.scan d c)) := by
  cases d <;> simp only [Part.moveRover, h] <;> rfl

/-- The job that a placement queues, waiting where it preempts. -/
def Part.placedJob (p : Part) (g : Nat) (kind : JobKind) (c : Place) (after : Option Nat) (relocation : Bool) : Job :=
  { p.newJob g kind (some c) with after := after, relocation := relocation }

/-- A new record of the tenant, the grant's record, its job and the claim of its window make the placement. -/
theorem Part.claimWindow_placing (p : Part) (k : Nat) (t : TenantRecord) (g : Nat) (r : Grant) (kind : JobKind) (c : Place)
    (after : Option Nat) (relocation : Bool) :
    ((((p.setTenant k t).setGrant g (some r)).queueJob g kind (some c) after relocation).1.claimWindow g r.cls c) =
      p.placing g r c (p.placedJob g kind c after relocation) k t p.alloc := by
  rw [Part.claimWindow_eq]
  rfl

theorem Part.placing_moveRover {p : Part} {g : Nat} {r : Grant} {c : Place} {j : Job} {k : Nat} {t t₀ : TenantRecord}
    {a : Allocator} (ht : p.tenant k = some t₀) (d : Direction) :
    (p.placing g r c j k t a).moveRover k d c = p.placing g r c j k (t.roved d (p.roverPast t.scan d c)) a := by
  have hrover : (p.placing g r c j k t a).roverPast t.scan d c = p.roverPast t.scan d c := by
    rw [Part.roverPast_eq, Part.roverPast_eq, Part.band_eq, Part.band_eq, Part.placing_split]
  rw [Part.moveRover_eq (p.tenant_placing g r c j k t a ht), Part.placing_setTenant, hrover]

section Accept

variable {p q : Part} {g k : Nat} {t : TenantRecord} {r : Grant} {x : Trial} {after : Option Nat}
  {preempted : Option (Nat × Nat)}

/-- The record that an accepted ask gives its grant (R42, R76). -/
def arrivingGrant (k : Nat) (t : TenantRecord) (d : Direction) (floor : Option Nat) (x : Trial) : Grant :=
  ⟨k, t.cls, d, x.place.first, x.place.width, floor, x.level, x.profile, capacityOf t.cls x.place.width x.profile,
    .arriving, false, false⟩

theorem Part.acceptAsk_eq {d : Direction} {floor : Option Nat}
    (hpre : p.preemptFor t.cls x.place.first x.preempt = (q, after, preempted)) (ht : q.tenant k = some t) :
    Part.acceptAsk k t d floor g x p =
      (q.placingFlagged g (arrivingGrant k t d floor x) x.place (q.placedJob g .activate x.place after false) k
        ({ t with grants := t.grants ++ [g] }.roved d (q.roverPast t.scan d x.place)) q.alloc x.remedied,
      ⟨g, x.place, x.level, x.profile, capacityOf t.cls x.place.width x.profile, x.faults,
        after.toList ++ [(q.placedJob g .activate x.place after false).id], preempted⟩) := by
  have henlist : ∀ r, (q.setGrant g (some r)).enlist k g =
      (q.setTenant k { t with grants := t.grants ++ [g] }).setGrant g (some r) := fun r => by
    have hgrant : (q.setGrant g (some r)).tenant k = some t := ht
    simp only [Part.enlist, hgrant]
    rfl
  have hplaced := (congrArg (Part.moveRover · k d x.place) (q.claimWindow_placing k { t with grants := t.grants ++ [g] } g
    (arrivingGrant k t d floor x) .activate x.place after false)).trans (Part.placing_moveRover ht d)
  simp only [Part.acceptAsk, hpre, henlist]
  rw [Part.placingFlagged, ← hplaced]
  rfl

/-- The record of a grant that a move or a relocation sets off (R78, R79). -/
def movingGrant (r : Grant) (x : Trial) : Grant := { r with state := .moving, level := x.level }

theorem Part.acceptMove_eq {relocation : Bool}
    (hpre : p.preemptFor r.cls x.place.first x.preempt = (q, after, preempted)) (ht : q.tenant r.tenant = some t) :
    Part.acceptMove g r relocation x p =
      (q.placingFlagged g (movingGrant r x) x.place (q.placedJob g .move x.place after relocation) r.tenant
        (t.roved r.dir (q.roverPast t.scan r.dir x.place)) q.alloc x.remedied,
      ⟨g, x.place, x.level, x.profile, capacityOf r.cls x.place.width x.profile, x.faults,
        after.toList ++ [(q.placedJob g .move x.place after relocation).id], preempted⟩) := by
  have hplaced := (congrArg (Part.moveRover · r.tenant r.dir x.place) (q.claimWindow_placing r.tenant t g
    (movingGrant r x) .move x.place after relocation)).trans (Part.placing_moveRover ht r.dir)
  rw [Part.setTenant_self ht] at hplaced
  simp only [Part.acceptMove, hpre]
  rw [Part.placingFlagged, ← hplaced]
  rfl

/-- The record of a grant that grows (R81). -/
def growingGrant (r : Grant) (floor : Option Nat) (x : Trial) : Grant :=
  { r with floor := floor, state := .resizing, level := x.level }

theorem Part.acceptGrow_eq {f : ResizeFields} (ht : p.tenant r.tenant = some t) :
    Part.acceptGrow g r f x p =
      (p.placingFlagged g (growingGrant r (resizeFloor r f) x) x.place (p.placedJob g .resize x.place none false) r.tenant t
        p.alloc x.remedied,
      ⟨g, x.place, x.level, x.profile, capacityOf r.cls x.place.width x.profile, x.faults,
        [(p.placedJob g .resize x.place none false).id], none⟩) := by
  have hplaced := p.claimWindow_placing r.tenant t g (growingGrant r (resizeFloor r f) x) .resize x.place none false
  rw [Part.setTenant_self ht] at hplaced
  rw [Part.placingFlagged, ← hplaced]
  rfl

end Accept

/-! ### A decision ends in an act (R33, R60, R70) -/

/-- A placement whose record counts as the one that it replaces raises no UNDER_COMMIT. -/
theorem Part.commitTest_placingFlagged {p q : Part} {g : Nat} {r : Grant} {c : Place} {j : Job} {k : Nat}
    {t u : TenantRecord} {a : Allocator} {flagged : Bool} (hq : Part.Preparing p q g) (ht : p.tenant k = some t)
    (hu : u.committed = t.committed)
    (hr : ∀ i, Grant.capacityIn i [.active, .moving, .resizing] (some r) =
      Grant.capacityIn i [.active, .moving, .resizing] (p.grant g)) :
    p.commitTest (q.placingFlagged g r c j k u a flagged) = q.placingFlagged g r c j k u a flagged := by
  have htenants : (q.placing g r c j k u a).tenants = (p.setTenant k u).tenants := by
    rw [Part.placing_tenants, Part.setTenant_tenants, hq.tenants, Part.setTenant_tenants]
  have hdelivered : ∀ n, (q.placing g r c j k u a).delivered n = p.delivered n := fun n => by
    rw [← hq.delivered n]
    exact Part.delivered_of_set (q.placing_grants g r c j k u a) (fun i => (hr i).trans (by rw [hq.grant])) n
  refine Part.commitTest_of_delivered ht ?_ hu fun n => ?_
  · cases flagged with
    | false => exact htenants
    | true => exact (Part.tenants_setFlags _ g).trans htenants
  · cases flagged with
    | false => exact hdelivered n
    | true => exact (Part.delivered_setFlags _ g n).trans (hdelivered n)

/-- The Allocator's state once an item has been taken and its reply is in build (R60). -/
def Allocator.building (a : Allocator) (i : QueueItem) (rest : List Work) (reply : Reply) : Allocator :=
  { a with work := rest, reply := some ⟨i.tag, i.fields.kind, reply, i.detached⟩ }

/-- The tenant's record with the sticky flags of some faults set (R33). -/
def TenantRecord.faulted (t : TenantRecord) (faults : FaultSet) : TenantRecord := { t with sticky := t.sticky ||| faults }

theorem TenantRecord.faulted_zero (t : TenantRecord) : t.faulted 0 = t := by
  simp [TenantRecord.faulted]

theorem Part.setSticky_eq {p : Part} {k : Nat} {t : TenantRecord} (h : p.tenant k = some t) (faults : FaultSet) :
    p.setSticky k faults = p.setTenant k (t.faulted faults) := by
  simp only [Part.setSticky, h]
  rfl

/-- The part when a fault has refused an item. -/
def Part.faulting (p : Part) (k : Nat) (t : TenantRecord) (faults : FaultSet) (a : Allocator) : Part :=
  { p.setTenant k (t.faulted faults) with alloc := a }

/-- An item that a fault refuses: its sticky flags are set, its reply is in build. -/
theorem State.act_of_fault {s : State} {f : Part → Part} {i : QueueItem} {rest : List Work} {k : Nat} {t : TenantRecord}
    {why : Status} {faults : FaultSet} {accept : Trial → Part → Part × Placed} (hwork : s.part.alloc.work = .item i :: rest)
    (ht : s.part.tenant k = some t) (hf : f s.part = i.build (s.part.dropFront.conclude k (.error (why, faults)) accept)) :
    s.act f = .next { s with
      part := s.part.faulting k t faults (s.part.alloc.building i rest (refuseFault why faults)) } := by
  have hbuild : f s.part = s.part.faulting k t faults (s.part.alloc.building i rest (refuseFault why faults)) := by
    have hdrop : s.part.dropFront.tenant k = some t := ht
    rw [hf, Part.conclude, Part.setSticky_eq hdrop]
    simp only [QueueItem.build, Part.setTenant_alloc, Part.dropFront_alloc, hwork, List.tail_cons]
    rfl
  have htest : s.part.commitTest (s.part.faulting k t faults (s.part.alloc.building i rest (refuseFault why faults))) =
      s.part.faulting k t faults (s.part.alloc.building i rest (refuseFault why faults)) :=
    Part.commitTest_of_delivered (t' := t.faulted faults) ht rfl rfl fun n => Part.delivered_congr rfl n
  rw [State.act_eq, hbuild, htest]

/-- The reply in build, and the tenant's sticky flags, go into the placement. -/
theorem QueueItem.build_placingFlagged (i : QueueItem) {p : Part} {g : Nat} {r : Grant} {c : Place} {j : Job} {k : Nat}
    {t t₀ : TenantRecord} {a : Allocator} (ht : p.tenant k = some t₀) (flagged : Bool) (faults : FaultSet) (reply : Reply) :
    i.build ((p.placingFlagged g r c j k t a flagged).setSticky k faults, reply) =
      p.placingFlagged g r c j k (t.faulted faults) (a.building i a.work reply) flagged := by
  have hplaced := p.tenant_placing g r c j k t a ht
  have hbuild : ∀ q : Part, q.tenants = (p.placing g r c j k t a).tenants → i.build (q.setSticky k faults, reply) =
      { q with
        tenants := ((p.placing g r c j k t a).setTenant k (t.faulted faults)).tenants
        alloc := { q.alloc with reply := some ⟨i.tag, i.fields.kind, reply, i.detached⟩ } } := fun q hq => by
    rw [Part.setSticky_eq ((Part.tenant_congr hq k).trans hplaced), Part.setTenant_tenants, ← hq]
    rfl
  have hwith := p.placing_withTenants g r c j k t a (t.faulted faults)
    { (p.placing g r c j k t a).alloc with reply := some ⟨i.tag, i.fields.kind, reply, i.detached⟩ }
  have halloc : ({ (p.placing g r c j k t a).alloc with reply := some ⟨i.tag, i.fields.kind, reply, i.detached⟩ } :
      Allocator) = a.building i a.work reply := by
    rw [p.placing_alloc g r c j k t a]
    rfl
  rw [halloc] at hwith
  cases flagged with
  | false => exact (hbuild _ rfl).trans (by rw [halloc, hwith, Part.placingFlagged, if_neg Bool.false_ne_true])
  | true =>
    have hset := Part.setFlags_withTenants (p.placing g r c j k t a) g
      ((p.placing g r c j k t a).setTenant k (t.faulted faults)).tenants
      (some ⟨i.tag, i.fields.kind, reply, i.detached⟩)
    rw [halloc, hwith] at hset
    refine (hbuild ((p.placing g r c j k t a).setFlags g) ?_).trans hset.symm
    exact Part.tenants_setFlags _ g

/-- An item that is accepted: the placement stands with its sticky flags, and its reply is in build. -/
theorem State.act_of_placed {s : State} {f : Part → Part} {i : QueueItem} {rest : List Work} {k g : Nat}
    {t t' : TenantRecord} {x : Trial} {accept : Trial → Part → Part × Placed} {q : Part} {r : Grant} {j : Job}
    {placed : Placed} (hwork : s.part.alloc.work = .item i :: rest) (ht : s.part.tenant k = some t)
    (hf : f s.part = i.build (s.part.dropFront.conclude k (.ok x) accept))
    (hq : Part.Preparing s.part q g) (halloc : q.alloc = s.part.dropFront.alloc)
    (haccept : accept x s.part.dropFront = (q.placingFlagged g r x.place j k t' q.alloc x.remedied, placed))
    (hc : t'.committed = t.committed)
    (hr : ∀ i, Grant.capacityIn i [.active, .moving, .resizing] (some r) =
      Grant.capacityIn i [.active, .moving, .resizing] (s.part.grant g)) :
    s.act f = .next { s with
      part := q.placingFlagged g r x.place j k (t'.faulted x.faults)
        (s.part.alloc.building i rest ⟨.accepted, false, placed.payload⟩) x.remedied } := by
  have hqt : q.tenant k = some t := (hq.tenant k).trans ht
  have hqalloc : q.alloc = { s.part.alloc with work := rest } := by
    rw [halloc, Part.dropFront_alloc, hwork, List.tail_cons]
  have hbuild : f s.part = q.placingFlagged g r x.place j k (t'.faulted x.faults)
      (s.part.alloc.building i rest ⟨.accepted, false, placed.payload⟩) x.remedied := by
    rw [hf, Part.conclude, haccept]
    refine (QueueItem.build_placingFlagged i hqt x.remedied x.faults _).trans ?_
    rw [hqalloc]
    rfl
  rw [State.act_eq, hbuild, Part.commitTest_placingFlagged (u := t'.faulted x.faults) hq ht hc hr]

end Sys2Proof.Machine
end

section
/-! SUPPORT. The fault judgements (4.3): where the scan ends, and what each of FIT, PROFILE, CAPACITY and POWER answers
without its fault, refused, and with its remedy (R70 to R74). -/

namespace Sys2Proof.Machine

/-! ### Where the scan ends (R67, R68) -/

section Scan

variable {p : Part} {t : TenantRecord} {w : Nat} {origin : Option Grant} {order : List Nat}

/-- Pass 2 over the positions in their order: the first that names a grant to preempt, with that grant. -/
def Part.preempting (p : Part) (t : TenantRecord) (w : Nat) (origin : Option Grant) (order : List Nat) :
    Option (Nat × Nat) :=
  order.findSome? fun c => (p.passTwo t w origin c).map fun v => (c, v)

theorem Part.scan_of_passOne {c : Nat} (h : order.find? (p.passOne t w origin) = some c) :
    p.scan t w origin order = .fit c none := by
  simp only [Part.scan, h]

theorem Part.scan_of_passTwo {c v : Nat} (h : order.find? (p.passOne t w origin) = none) (hcls : t.cls ≠ .data)
    (htwo : p.preempting t w origin order = some (c, v)) : p.scan t w origin order = .fit c (some v) := by
  rw [Part.preempting] at htwo
  simp only [Part.scan, h, beq_iff_eq, hcls, if_false, htwo]

/-- With neither pass met the scan ends at the first shape fit, if there is one. -/
theorem Part.scan_of_no_pass {found : Found} (h : order.find? (p.passOne t w origin) = none)
    (htwo : t.cls ≠ .data → p.preempting t w origin order = none)
    (hshape : found = ((order.find? (p.shapeOk t.cls w origin)).map Found.shape).getD .nothing) :
    p.scan t w origin order = found := by
  have hnone : (if t.cls == .data then none else p.preempting t w origin order) = none := by
    simpa only [beq_iff_eq, ite_eq_left_iff] using htwo
  rw [Part.preempting] at hnone
  rw [hshape]
  simp only [Part.scan, h, hnone]
  cases order.find? (p.shapeOk t.cls w origin) <;> rfl

theorem Part.preempting_eq_none (h : ∀ c ∈ order, p.passTwo t w origin c = none) :
    p.preempting t w origin order = none := by
  refine List.findSome?_eq_none_iff.mpr fun c hc => ?_
  rw [h c hc, Option.map_none]

/-- The position of pass 2 lies in the order and names its grant. -/
theorem Part.passTwo_of_preempting {c v : Nat} (h : p.preempting t w origin order = some (c, v)) :
    c ∈ order ∧ p.passTwo t w origin c = some v := by
  obtain ⟨c', hc', hsome⟩ := List.exists_of_findSome?_eq_some h
  obtain ⟨v', hv', heq⟩ := Option.map_eq_some_iff.mp hsome
  cases heq
  exact ⟨hc', hv'⟩

/-- No window is a shape fit: neither does one pass pass 1. -/
theorem find?_passOne_of_no_shape (h : ∀ c ∈ order, p.shapeOk t.cls w origin c = false) :
    order.find? (p.passOne t w origin) = none ∧ order.find? (p.shapeOk t.cls w origin) = none := by
  refine ⟨List.find?_eq_none.mpr fun c hc => ?_, List.find?_eq_none.mpr fun c hc => ?_⟩
  · simp [Part.passOne, h c hc]
  · simp [h c hc]

/-- No window is a shape fit, and none preempts. -/
theorem Part.scan_of_no_shape (h : ∀ c ∈ order, p.shapeOk t.cls w origin c = false)
    (htwo : t.cls ≠ .data → ∀ c ∈ order, p.passTwo t w origin c = none) : p.scan t w origin order = .nothing := by
  obtain ⟨hpass, hshape⟩ := find?_passOne_of_no_shape h
  exact Part.scan_of_no_pass hpass (fun hcls => Part.preempting_eq_none (htwo hcls)) (by rw [hshape]; rfl)

/-- The first shape fit, with no window that passes. -/
theorem Part.scan_of_shape {c : Nat} (hpass : order.find? (p.passOne t w origin) = none)
    (htwo : t.cls ≠ .data → ∀ c ∈ order, p.passTwo t w origin c = none)
    (hshape : order.find? (p.shapeOk t.cls w origin) = some c) : p.scan t w origin order = .shape c :=
  Part.scan_of_no_pass hpass (fun hcls => Part.preempting_eq_none (htwo hcls)) (by rw [hshape]; rfl)

/-- A shape fit that is not the first window of pass 1 has a profile that is not acceptable. -/
theorem Part.windowAcceptable_of_shape {c : Nat} (hpass : order.find? (p.passOne t w origin) = none)
    (hshape : order.find? (p.shapeOk t.cls w origin) = some c) : p.windowAcceptable t c w = false := by
  have hnot := List.find?_eq_none.mp hpass c (List.mem_of_find?_eq_some hshape)
  rw [Part.passOne_iff, not_and] at hnot
  simpa using hnot (List.find?_some hshape)

end Scan

/-! ### One judgement (R70)

The statements meet the faults one at a time, so each fault is here the first that occurs. -/

theorem judge_of_no_fault (f : FaultClass) (mask : FaultSet) {occurs : Bool} (h : occurs = false) (remedy : Option Trial)
    (x : Trial) : judge f mask occurs remedy x = .ok x := by
  simp only [judge, h, Bool.not_false, if_true]

theorem judge_refused {f : FaultClass} {mask : FaultSet} {occurs : Bool} {remedy : Option Trial} {x : Trial}
    (h : occurs = true) (h₀ : x.faults = 0) (hr : mask &&& f.bit = 0 ∨ remedy = none) :
    judge f mask occurs remedy x = .error (f.status, f.bit) := by
  have hnone : (if f.maskedBy mask then remedy else none) = none := by
    rcases hr with hm | hr
    · simp [FaultClass.maskedBy, hm]
    · simp [hr]
  simp only [judge, h, Bool.not_true, Bool.false_eq_true, if_false, hnone, h₀]
  rw [BitVec.ofNat_eq_ofNat, BitVec.zero_or]

theorem judge_remedied {f : FaultClass} {mask : FaultSet} {occurs : Bool} {r x : Trial} (h : occurs = true)
    (h₀ : x.faults = 0) (hm : mask &&& f.bit ≠ 0) :
    judge f mask occurs (some r) x = .ok { r with faults := f.bit } := by
  have hmasked : f.maskedBy mask = true := by simpa [FaultClass.maskedBy] using hm
  simp only [judge, h, Bool.not_true, Bool.false_eq_true, if_false, hmasked, if_true, h₀]
  rw [BitVec.ofNat_eq_ofNat, BitVec.zero_or]

/-- A judgement that refuses ends the decision. -/
theorem Judged.bind_of_error {j : Judged} {f : Trial → Judged} {e : Status × FaultSet} (h : j = .error e) :
    j >>= f = .error e := by
  rw [h]
  rfl

/-- A judgement that lets its trial through hands it to the next. -/
theorem Judged.bind_of_ok {j : Judged} {f : Trial → Judged} {x : Trial} (h : j = .ok x) : j >>= f = f x := by
  rw [h]
  rfl

/-! ### FIT and PROFILE (R71, R72) -/

theorem Part.judgeFit_refused {p : Part} {t : TenantRecord} {w : Nat} {level : Option Int} {three : Option (Nat × Nat)}
    (h : t.mask &&& 1 = 0 ∨ three = none) : p.judgeFit t w level .nothing three = .error (.fit, 1) := by
  simp only [Part.judgeFit]
  exact judge_refused rfl rfl (h.imp_right fun h => by rw [h]; rfl)

theorem Part.judgeFit_remedied {p : Part} {t : TenantRecord} {w c v : Nat} {level : Option Int} (h : t.mask &&& 1 ≠ 0) :
    p.judgeFit t w level .nothing (some (c, v)) = .ok { p.trialAt t ⟨c, v⟩ level none with faults := 1 } := by
  simp only [Part.judgeFit]
  exact judge_remedied rfl rfl h

section Profile

variable {t : TenantRecord} {x : Trial}

theorem judgeProfile_of_acceptable (h : x.acceptable = true) : judgeProfile t x = .ok x :=
  judge_of_no_fault _ _ (by rw [h]; rfl) _ _

theorem judgeProfile_refused (h : x.acceptable = false) (h₀ : x.faults = 0) (hm : t.mask &&& 2 = 0) :
    judgeProfile t x = .error (.profile, 2) :=
  judge_refused (by rw [h]; rfl) h₀ (.inl hm)

theorem judgeProfile_remedied (h : x.acceptable = false) (h₀ : x.faults = 0) (hm : t.mask &&& 2 ≠ 0) : judgeProfile t x =
    .ok { x with
      profile := if t.cls = .video then t.maxProfile else 1, remedied := true, faults := 2 } := by
  refine (judge_remedied (by rw [h]; rfl) h₀ hm).trans ?_
  simp only [beq_iff_eq]
  rfl

/-- A DATA or a VOICE carrier's profile is acceptable where one is selected. -/
theorem Part.windowAcceptable_iff {p : Part} {c w : Nat} (h : t.cls ≠ .video) :
    p.windowAcceptable t c w = true ↔ p.windowProfile t c w ≠ 0 := by
  simp only [Part.windowAcceptable, Part.windowProfile]
  cases hcls : t.cls with
  | video => exact absurd hcls h
  | data => simp [profileAcceptable, runningProfile]
  | voice => simp [profileAcceptable, runningProfile]

end Profile

/-! ### CAPACITY (R73) -/

/-- The first that a test passes, in a list sorted by `R`. -/
theorem find?_eq_some_of_pairwise {α : Type} {R : α → α → Prop} {l : List α} {f : α → Bool} {a : α} (hl : l.Pairwise R)
    (ha : a ∈ l) (hf : f a = true) (hbefore : ∀ b ∈ l, R b a → f b = false) : l.find? f = some a := by
  induction l with
  | nil => exact absurd ha List.not_mem_nil
  | cons b l ih =>
    obtain ⟨hb, hl⟩ := List.pairwise_cons.mp hl
    rcases List.mem_cons.mp ha with rfl | hmem
    · rw [List.find?_cons_of_pos hf]
    · rw [List.find?_cons_of_neg (by simp [hbefore b (by simp) (hb a hmem)])]
      exact ih hl hmem fun c hc => hbefore c (List.mem_cons_of_mem b hc)

section Capacity

variable {p : Part} {t : TenantRecord} {counted least : Nat} {x : Trial}

theorem Part.judgeCapacity_of_room (h : counted + capacityOf t.cls x.place.width x.profile ≤ t.ceiling) :
    p.judgeCapacity t counted least x = .ok x :=
  judge_of_no_fault _ _ (decide_eq_false (Nat.not_lt.mpr h)) _ _

theorem mem_narrowerWidths {least most w : Nat} (h : 1 ≤ most) :
    w ∈ (List.range' least (most - 1 + 1 - least)).reverse ↔ least ≤ w ∧ w < most := by
  rw [List.mem_reverse, List.mem_range'_1]
  omega

theorem Part.judgeCapacity_refused (h : t.ceiling < counted + capacityOf t.cls x.place.width x.profile)
    (h₀ : x.faults = 0) (hr : t.mask &&& 4 = 0 ∨ t.cls = .data ∧ 1 ≤ x.place.width ∧ ∀ w, least ≤ w → w < x.place.width →
      t.ceiling < counted + capacityOf t.cls w (p.trialProfile t x w)) :
    p.judgeCapacity t counted least x = .error (.capacity, 4) := by
  refine judge_refused (decide_eq_true h) h₀ (hr.imp_right fun ⟨hcls, hpos, hnone⟩ => ?_)
  rw [if_pos (by simp [hcls]), Part.narrowed, Option.map_eq_none_iff, List.find?_eq_none]
  intro w hw
  obtain ⟨hlo, hhi⟩ := (mem_narrowerWidths hpos).mp hw
  simpa using hnone w hlo hhi

/-- VOICE and VIDEO are placed above the ceiling. -/
theorem Part.judgeCapacity_above (h : t.ceiling < counted + capacityOf t.cls x.place.width x.profile)
    (h₀ : x.faults = 0) (hm : t.mask &&& 4 ≠ 0) (hcls : t.cls ≠ .data) :
    p.judgeCapacity t counted least x = .ok { x with faults := 4 } := by
  rw [Part.judgeCapacity, if_neg (by simpa using hcls)]
  exact judge_remedied (decide_eq_true h) h₀ hm

/-- DATA is narrowed to the largest width under the ceiling. -/
theorem Part.judgeCapacity_narrowed {v : Nat} (h : t.ceiling < counted + capacityOf t.cls x.place.width x.profile)
    (h₀ : x.faults = 0) (hm : t.mask &&& 4 ≠ 0) (hcls : t.cls = .data) (hlo : least ≤ v) (hhi : v < x.place.width)
    (hroom : counted + capacityOf t.cls v (p.trialProfile t x v) ≤ t.ceiling)
    (hwider : ∀ w, v < w → w < x.place.width → t.ceiling < counted + capacityOf t.cls w (p.trialProfile t x w)) :
    p.judgeCapacity t counted least x = .ok { x with
      place := ⟨x.place.first, v⟩, profile := p.trialProfile t x v, faults := 4 } := by
  have hpos : 1 ≤ x.place.width := by omega
  have hfind : (List.range' least (x.place.width - 1 + 1 - least)).reverse.find? (fun w =>
      decide (counted + capacityOf t.cls w (p.trialProfile t x w) ≤ t.ceiling)) = some v := by
    refine find?_eq_some_of_pairwise (R := fun a b => b < a) (List.pairwise_reverse.mpr List.pairwise_lt_range')
      ((mem_narrowerWidths hpos).mpr ⟨hlo, hhi⟩) (decide_eq_true hroom) fun w hw hvw => ?_
    exact decide_eq_false (Nat.not_le.mpr (hwider w hvw ((mem_narrowerWidths hpos).mp hw).2))
  rw [Part.judgeCapacity, if_pos (by simp [hcls]), Part.narrowed, hfind, Option.map_some]
  exact judge_remedied (decide_eq_true h) h₀ hm

end Capacity

/-! ### POWER (R74, R92, R99) -/

theorem lowerLevels_eq (l : Int) : lowerLevels l = (List.range (l + 96).toNat).map fun i : Nat => l - 1 - i := by
  simp [lowerLevels, ← List.map_eq_flatMap, Function.comp_def]

theorem mem_lowerLevels {l v : Int} : v ∈ lowerLevels l ↔ -96 ≤ v ∧ v < l := by
  simp only [lowerLevels_eq, List.mem_map, List.mem_range]
  constructor
  · rintro ⟨i, hi, rfl⟩
    omega
  · rintro ⟨hlo, hhi⟩
    exact ⟨(l - 1 - v).toNat, by omega, by omega⟩

theorem lowerLevels_sorted (l : Int) : (lowerLevels l).Pairwise fun a b => b < a := by
  rw [lowerLevels_eq]
  refine List.pairwise_map.mpr (List.pairwise_lt_range.imp fun {a b} hab => ?_)
  omega

theorem Part.fits_of_overCap {p : Part} (h : p.level.overCap = true) (total : Nat) : p.fits total = false := by
  simp [Part.fits, h]

section Power

/-! `total v` is the composite with the carrier at the level `v` in place of what it weighs now. -/

variable {p : Part} {t : TenantRecord} {present : Nat} {carriers : Trial → List Place} {x : Trial} {l : Int}
  {total : Int → Nat}

theorem Part.judgePower_eq (htotal : ∀ v, p.composite - present + p.carriersWeight v (carriers x) = total v)
    (hl : x.level = some l) : p.judgePower t present carriers x = judge .power t.mask (!p.fits (total l))
      (((lowerLevels l).find? fun v => p.fits (total v)).map fun v => { x with level := some v }) x := by
  simp only [Part.judgePower, hl, htotal]

theorem Part.judgePower_of_fits (htotal : ∀ v, p.composite - present + p.carriersWeight v (carriers x) = total v)
    (h : ∀ l, x.level = some l → p.fits (total l) = true) : p.judgePower t present carriers x = .ok x := by
  cases hl : x.level with
  | none => simp only [Part.judgePower, hl]
  | some l =>
    rw [Part.judgePower_eq htotal hl]
    exact judge_of_no_fault _ _ (by rw [h l hl]; rfl) _ _

theorem Part.judgePower_refused (htotal : ∀ v, p.composite - present + p.carriersWeight v (carriers x) = total v)
    (hl : x.level = some l) (h : p.fits (total l) = false) (h₀ : x.faults = 0)
    (hr : t.mask &&& 8 = 0 ∨ p.level.overCap = true ∨ ∀ v, -96 ≤ v → v < l → p.fits (total v) = false) :
    p.judgePower t present carriers x = .error (.power, 8) := by
  rw [Part.judgePower_eq htotal hl]
  refine judge_refused (by rw [h]; rfl) h₀ (hr.imp_right fun hr => ?_)
  have hnone : ∀ v, -96 ≤ v → v < l → p.fits (total v) = false :=
    hr.elim (fun hover v _ _ => Part.fits_of_overCap hover _) id
  rw [Option.map_eq_none_iff, List.find?_eq_none]
  intro v hv
  obtain ⟨hlo, hhi⟩ := mem_lowerLevels.mp hv
  simp [hnone v hlo hhi]

/-- The remedy takes the highest level that fits. -/
theorem Part.judgePower_remedied {v : Int}
    (htotal : ∀ v, p.composite - present + p.carriersWeight v (carriers x) = total v) (hl : x.level = some l)
    (h : p.fits (total l) = false) (h₀ : x.faults = 0) (hm : t.mask &&& 8 ≠ 0) (hlo : -96 ≤ v) (hhi : v < l)
    (hfit : p.fits (total v) = true) (hhigher : ∀ u, v < u → u < l → p.fits (total u) = false) :
    p.judgePower t present carriers x = .ok { x with level := some v, faults := 8 } := by
  have hfind : (lowerLevels l).find? (fun v => p.fits (total v)) = some v :=
    find?_eq_some_of_pairwise (lowerLevels_sorted l) (mem_lowerLevels.mpr ⟨hlo, hhi⟩) hfit fun u hu hvu =>
      hhigher u hvu (mem_lowerLevels.mp hu).2
  rw [Part.judgePower_eq htotal hl, hfind, Option.map_some]
  exact judge_remedied (by rw [h]; rfl) h₀ hm

end Power

theorem Part.carriersWeight_one (p : Part) (v : Int) (c : Place) : p.carriersWeight v [c] = p.carrierWeight v c := by
  simp [Part.carriersWeight]

theorem Part.carriersWeight_two (p : Part) (v : Int) (a b : Place) :
    p.carriersWeight v [a, b] = p.carrierWeight v a + p.carrierWeight v b := by
  simp [Part.carriersWeight]

/-! ### The judgements look past the item taken -/

theorem Part.longestRun_congr {p q : Part} (h : q.slices = p.slices) (ns : List Nat) (r : Nat) :
    q.longestRun ns r = p.longestRun ns r := by
  induction ns generalizing r with
  | nil => rfl
  | cons n ns ih => simp only [Part.longestRun, Part.slice_congr h, ih]

theorem Part.passThree_dropFront (p : Part) (t : TenantRecord) (d : Direction) (w floor : Nat) :
    p.dropFront.passThree t d w floor = p.passThree t d w floor := by
  have hrun : p.dropFront.longestRun = p.longestRun := funext₂ (Part.longestRun_congr rfl)
  simp only [Part.passThree, hrun]
  rfl

theorem Part.judgePower_dropFront (p : Part) (t : TenantRecord) (present : Nat) (carriers : Trial → List Place) (x : Trial) :
    p.dropFront.judgePower t present carriers x = p.judgePower t present carriers x := by
  cases hl : x.level with
  | none => simp only [Part.judgePower, hl]
  | some l =>
    rw [Part.judgePower_eq (fun _ => rfl) hl, Part.judgePower_eq (fun _ => rfl) hl, Part.composite_dropFront]
    rfl

theorem Part.judgeAsk_dropFront (p : Part) (k : Nat) (t : TenantRecord) (d : Direction) (q : AskFields) :
    p.dropFront.judgeAsk k t d q = p.judgeAsk k t d q := by
  simp only [Part.judgeAsk, Part.passThree_dropFront, Part.judgePower_dropFront]
  rfl

theorem Part.judgeMove_dropFront (p : Part) (g : Nat) (r : Grant) (t : TenantRecord) (target : Option Nat) :
    p.dropFront.judgeMove g r t target = p.judgeMove g r t target := by
  simp only [Part.judgeMove, Part.judgePower_dropFront]
  rfl

theorem Part.judgeGrow_dropFront (p : Part) (g : Nat) (r : Grant) (t : TenantRecord) (q : ResizeFields) :
    p.dropFront.judgeGrow g r t q = p.judgeGrow g r t q := by
  simp only [Part.judgeGrow, Part.judgePower_dropFront]
  rfl

end Sys2Proof.Machine
end

section
/-! GRANT_ASK (4.4): O26 and O27. -/

namespace Sys2Proof.Machine

/-! ### The take of an ask that passes its checks (R45, R75) -/

/-- The front item is a GRANT_ASK of the tenant's record `t`, in the direction `d`; it may be taken, it passes its checks,
and the grant `g` is free for it. -/
structure State.TakesAsk (s : State) (tag : Byte) (detached : Bool) (q : AskFields) (rest : List Work) (t : TenantRecord)
    (d : Direction) (g : Nat) : Prop where
  shaped : s.part.shaped
  work : s.part.alloc.work = .item ⟨tag, .ask q, detached⟩ :: rest
  may : s.part.mayTake = true
  lt : q.tenant < 16
  tenant : s.part.tenant q.tenant = some t
  active : t.status = .active
  direction : askDirection t q = some d
  free : s.part.lowestFree = some g
  room : t.grants.length < classLimit t.cls

/-- The record that the ask takes is free, and in the pool. -/
theorem Part.grant_of_lowestFree {p : Part} {g : Nat} (h : p.lowestFree = some g) :
    g < p.grants.length ∧ p.grant g = none := by
  obtain ⟨hlt, hnone, -⟩ := List.findIdx?_eq_some_iff_getElem.mp h
  exact ⟨hlt, by simpa [Part.grant, List.getD_eq_getElem?_getD, hlt] using hnone⟩

/-- The width of an ask that passes its checks: at least 1, and at least the floor width for DATA. -/
theorem askWidth_of_direction {t : TenantRecord} {q : AskFields} {d : Direction} (h : askDirection t q = some d) :
    1 ≤ askWidth t.cls q ∧ (t.cls = .voice → askWidth t.cls q = 1) ∧
      (askFloor t.cls q).getD (askWidth t.cls q) ≤ askWidth t.cls q := by
  obtain ⟨-, hok⟩ := Option.filter_eq_some_iff.mp h
  simp only [Bool.and_eq_true] at hok
  obtain ⟨⟨⟨-, hshape⟩, -⟩, -⟩ := hok
  cases hcls : t.cls with
  | voice => simp [askWidth, askFloor]
  | video => simp [askWidth, askFloor]
  | data =>
    simp only [hcls, askShapeOk, Bool.and_eq_true, decide_eq_true_eq, Option.all_eq_true] at hshape
    obtain ⟨⟨htwo, -⟩, hfloor⟩ := hshape
    refine ⟨by simp only [askWidth]; omega, nofun, ?_⟩
    cases hf : q.floor with
    | none => simp [askFloor, hf]
    | some f => simpa [askFloor, askWidth, hf] using (hfloor f hf).2

section TakesAsk

variable {s : State} {tag : Byte} {detached : Bool} {q : AskFields} {rest : List Work} {t : TenantRecord} {d : Direction}
  {g : Nat}

theorem State.TakesAsk.takeAsk_eq (h : s.TakesAsk tag detached q rest t d g) :
    s.part.takeAsk = QueueItem.build ⟨tag, .ask q, detached⟩ (s.part.dropFront.conclude q.tenant
      (s.part.judgeAsk q.tenant t d q) (Part.acceptAsk q.tenant t d (askFloor t.cls q) g)) := by
  have hrefusal : s.part.dropFront.placementRefusal q.tenant = none :=
    Part.placementRefusal_of_active h.lt h.tenant h.active
  have htenant : s.part.dropFront.tenant q.tenant = some t := h.tenant
  have hfree : s.part.dropFront.lowestFree = some g := h.free
  have hdecide : s.part.dropFront.decideAsk q = s.part.dropFront.conclude q.tenant
      (s.part.judgeAsk q.tenant t d q) (Part.acceptAsk q.tenant t d (askFloor t.cls q) g) := by
    simp only [Part.decideAsk, hrefusal, htenant, h.direction, hfree, if_neg (Nat.not_le.mpr h.room),
      Part.judgeAsk_dropFront]
  simp only [Part.takeAsk, h.work, h.may, if_true, hdecide]

/-- A fault that is not remedied refuses the ask. -/
theorem State.TakesAsk.refused (h : s.TakesAsk tag detached q rest t d g) {why : Status} {faults : FaultSet}
    (hj : s.part.judgeAsk q.tenant t d q = .error (why, faults)) : exec .grantAskTake s = .next { s with
      part := s.part.faulting q.tenant t faults
        (s.part.alloc.building ⟨tag, .ask q, detached⟩ rest (refuseFault why faults)) } :=
  State.act_of_fault h.work h.tenant (by rw [h.takeAsk_eq, hj])

/-- The tenant's record once an ask has been placed: the list, the rover and the sticky flags. -/
def Part.askedTenant (p : Part) (t : TenantRecord) (d : Direction) (g : Nat) (x : Trial) : TenantRecord :=
  ({ t with grants := t.grants ++ [g] }.roved d (p.roverPast t.scan d x.place)).faulted x.faults

/-- An ask that the judgements let through is placed, behind the shrink of the grant that it preempts. -/
theorem State.TakesAsk.placed (h : s.TakesAsk tag detached q rest t d g) {x : Trial} {u : Part} {after : Option Nat}
    {preempted : Option (Nat × Nat)} (hj : s.part.judgeAsk q.tenant t d q = .ok x)
    (hpre : s.part.dropFront.preemptFor t.cls x.place.first x.preempt = (u, after, preempted))
    (hu : Part.Preparing s.part u g) (halloc : u.alloc = s.part.dropFront.alloc) :
    exec .grantAskTake s = .next { s with
      part := u.placingFlagged g (arrivingGrant q.tenant t d (askFloor t.cls q) x) x.place
        (u.placedJob g .activate x.place after false) q.tenant (s.part.askedTenant t d g x)
        (s.part.alloc.building ⟨tag, .ask q, detached⟩ rest ⟨.accepted, false,
          (Placed.mk g x.place x.level x.profile (capacityOf t.cls x.place.width x.profile) x.faults
            (after.toList ++ [(u.placedJob g .activate x.place after false).id]) preempted).payload⟩) x.remedied } := by
  have hrover : u.roverPast t.scan d x.place = s.part.roverPast t.scan d x.place := by
    rw [Part.roverPast_eq, Part.roverPast_eq, Part.band_eq, Part.band_eq, hu.split]
  have haccept := Part.acceptAsk_eq (g := g) (d := d) (floor := askFloor t.cls q) hpre ((hu.tenant _).trans h.tenant)
  have htake : s.part.takeAsk = QueueItem.build ⟨tag, .ask q, detached⟩ (s.part.dropFront.conclude q.tenant (.ok x)
      (Part.acceptAsk q.tenant t d (askFloor t.cls q) g)) := by rw [h.takeAsk_eq, hj]
  rw [hrover] at haccept
  refine State.act_of_placed h.work h.tenant htake hu halloc haccept rfl fun i => ?_
  rw [(Part.grant_of_lowestFree h.free).2]
  exact Grant.capacityIn_of_arriving rfl i

/-- The same where nothing is preempted. -/
theorem State.TakesAsk.placed_alone (h : s.TakesAsk tag detached q rest t d g) {x : Trial}
    (hj : s.part.judgeAsk q.tenant t d q = .ok x) (hx : x.preempt = none) :
    exec .grantAskTake s = .next { s with
      part := s.part.placingFlagged g (arrivingGrant q.tenant t d (askFloor t.cls q) x) x.place
        (s.part.newJob g .activate (some x.place)) q.tenant (s.part.askedTenant t d g x)
        (s.part.alloc.building ⟨tag, .ask q, detached⟩ rest ⟨.accepted, false,
          (Placed.mk g x.place x.level x.profile (capacityOf t.cls x.place.width x.profile) x.faults
            [(s.part.newJob g .activate (some x.place)).id] none).payload⟩) x.remedied } := by
  have hpre : s.part.dropFront.preemptFor t.cls x.place.first x.preempt = (s.part.dropFront, none, none) := by
    rw [hx]
    rfl
  refine (h.placed hj hpre (s.part.preparing_dropFront g) rfl).trans ?_
  rw [Part.placingFlagged_dropFront]
  rfl

end TakesAsk

/-! ### The judgements of an ask, stage by stage (R75) -/

section JudgeAsk

variable {p : Part} {k : Nat} {t : TenantRecord} {d : Direction} {q : AskFields} {found : Found} {x y z : Trial}
  {e : Status × FaultSet}

/-- Where the scan of an ask ends. -/
def Part.askScan (p : Part) (t : TenantRecord) (d : Direction) (q : AskFields) : Found :=
  p.scan t (askWidth t.cls q) none (p.scanOrder t d (askWidth t.cls q))

/-- The FIT judgement of an ask. -/
def Part.askFit (p : Part) (t : TenantRecord) (d : Direction) (q : AskFields) : Judged :=
  p.judgeFit t (askWidth t.cls q) (askLevel t d q) (p.askScan t d q)
    (if t.cls == .data then p.passThree t d (askWidth t.cls q) ((askFloor t.cls q).getD (askWidth t.cls q)) else none)

/-- The CAPACITY judgement of an ask. -/
def Part.askCapacity (p : Part) (k : Nat) (t : TenantRecord) (q : AskFields) (x : Trial) : Judged :=
  p.judgeCapacity t (p.delivered k + p.arrivingCapacity k) ((askFloor t.cls q).getD (askWidth t.cls q)) x

theorem Part.judgeAsk_of_fit_error (h : p.askFit t d q = .error e) : p.judgeAsk k t d q = .error e :=
  Judged.bind_of_error h

theorem Part.judgeAsk_of_profile_error (hfit : p.askFit t d q = .ok x) (h : judgeProfile t x = .error e) :
    p.judgeAsk k t d q = .error e :=
  (Judged.bind_of_ok hfit).trans (Judged.bind_of_error h)

theorem Part.judgeAsk_of_capacity_error (hfit : p.askFit t d q = .ok x) (hprofile : judgeProfile t x = .ok y)
    (h : p.askCapacity k t q y = .error e) : p.judgeAsk k t d q = .error e :=
  (Judged.bind_of_ok hfit).trans ((Judged.bind_of_ok hprofile).trans (Judged.bind_of_error h))

theorem Part.judgeAsk_of_capacity (hfit : p.askFit t d q = .ok x) (hprofile : judgeProfile t x = .ok y)
    (hcapacity : p.askCapacity k t q y = .ok z) :
    p.judgeAsk k t d q = p.judgePower t 0 (fun x => [x.place]) z :=
  (Judged.bind_of_ok hfit).trans ((Judged.bind_of_ok hprofile).trans (Judged.bind_of_ok hcapacity))

end JudgeAsk

/-- The composite with the carrier of an ask at a level `v`: it weighs nothing before. -/
theorem Part.composite_placed (p : Part) (x : Trial) (v : Int) :
    p.composite - 0 + p.carriersWeight v [x.place] = p.composite + p.carrierWeight v x.place := by
  rw [Nat.sub_zero, Part.carriersWeight_one]

/-! ### The window of an ask -/

section Window

variable {p : Part} {t : TenantRecord} {d : Direction} {q : AskFields} {c : Nat} {preempt : Option Nat}

theorem Part.askFit_of_fit (h : p.askScan t d q = .fit c preempt) :
    p.askFit t d q = .ok (p.trialAt t ⟨c, askWidth t.cls q⟩ (askLevel t d q) preempt) := by
  rw [Part.askFit, h]
  rfl

theorem Part.askFit_of_shape (h : p.askScan t d q = .shape c) :
    p.askFit t d q = .ok (p.trialAt t ⟨c, askWidth t.cls q⟩ (askLevel t d q) none) := by
  rw [Part.askFit, h]
  rfl

/-- A position of an ask's scan that is a shape fit has an open window. -/
theorem Part.openWindow_of_ask {origin : Option Grant} (hd : askDirection t q = some d)
    (hc : c ∈ p.scanOrder t d (askWidth t.cls q)) (h : p.shapeOk t.cls (askWidth t.cls q) origin c = true) :
    p.OpenWindow t.cls ⟨c, askWidth t.cls q⟩ :=
  Part.openWindow_of_shapeOk (askWidth_of_direction hd).2.1
    (Part.one_le_of_mem_scanOrder (askWidth_of_direction hd).1 hc) h

end Window

/-- Settles O26: the first position of pass 1 meets no fault, and the ask is placed there. -/
theorem askWithoutFaultIsPlaced : Obligations.AskWithoutFaultIsPlaced := by
  intro s tag detached q rest t d c g hshaped hwork hmay hlt ht hactive hd hfree hroom w prof cap level hfind hceiling
    hfits job rover
  have htakes : s.TakesAsk tag detached q rest t d g := ⟨hshaped, hwork, hmay, hlt, ht, hactive, hd, hfree, hroom⟩
  obtain ⟨hshape, hacceptable⟩ := Part.passOne_iff.mp (List.find?_some hfind)
  have hwindow := Part.openWindow_of_ask hd (List.mem_of_find?_eq_some hfind) hshape
  have hjudge : s.part.judgeAsk q.tenant t d q = .ok (s.part.trialAt t ⟨c, w⟩ level none) := by
    refine (Part.judgeAsk_of_capacity (Part.askFit_of_fit (Part.scan_of_passOne hfind))
      (judgeProfile_of_acceptable hacceptable) (Part.judgeCapacity_of_room hceiling)).trans ?_
    exact Part.judgePower_of_fits (s.part.composite_placed _) hfits
  have hplaced := htakes.placed_alone hjudge rfl
  have htenant : s.part.askedTenant t d g (s.part.trialAt t ⟨c, w⟩ level none) =
      { t with grants := t.grants ++ [g] }.roved d rover := TenantRecord.faulted_zero _
  rw [htenant] at hplaced
  exact ⟨_, hplaced, Part.placing_whole g _ _ _ ht hwindow⟩

/-! ### The faults of an ask, one at a time (R70 to R74) -/

/-- What a placed ask leaves, field by field, the flags set where the PROFILE remedy was taken. -/
theorem State.TakesAsk.placed_fields {s : State} {tag : Byte} {detached : Bool} {q : AskFields} {rest : List Work}
    {t : TenantRecord} {d : Direction} {g : Nat} (h : s.TakesAsk tag detached q rest t d g) {x : Trial}
    (hj : s.part.judgeAsk q.tenant t d q = .ok x) (hx : x.preempt = none) (hwindow : s.part.OpenWindow t.cls x.place) :
    let p := s.part
    let cap := capacityOf t.cls x.place.width x.profile
    let job := p.newJob g .activate (some x.place)
    ∃ u, exec .grantAskTake s = .next { s with part := u } ∧
      u.grant g = some ⟨q.tenant, t.cls, d, x.place.first, x.place.width, askFloor t.cls q, x.level, x.profile, cap,
        .arriving, x.remedied, x.remedied⟩ ∧
      (∀ i, i ≠ g → u.grant i = p.grant i) ∧ u.engine = p.engine.withJob job ∧ p.claimedSince u g t.cls x.place ∧
      (u.tenant q.tenant).map (fun x => (x.sticky, x.grants)) = some (t.sticky ||| x.faults, t.grants ++ [g]) ∧
      u.alloc.reply = some ⟨tag, 0x20, ⟨.accepted, false,
        (Placed.mk g x.place x.level x.profile cap x.faults [job.id] none).payload⟩, detached⟩ ∧
      (x.remedied = false → u.alloc.work = rest) ∧
      (x.remedied = true → u.events.raised.getD q.tenant 0 &&& 8 = 8 ∧ .attempt g ∈ u.alloc.work) := by
  intro p cap job
  obtain ⟨-, -, -, -, -, -, hraised, -, -⟩ := h.shaped
  have hg := (Part.grant_of_lowestFree h.free).1
  obtain ⟨hself, hothers, hengine, hslices, htenants, hreply⟩ := Part.placingFlagged_fields (u := s.part.placingFlagged g
    (arrivingGrant q.tenant t d (askFloor t.cls q) x) x.place job q.tenant (s.part.askedTenant t d g x)
    (s.part.alloc.building ⟨tag, .ask q, detached⟩ rest ⟨.accepted, false,
      (Placed.mk g x.place x.level x.profile cap x.faults [job.id] none).payload⟩) x.remedied) rfl hg
  have htenant := (Part.tenant_congr htenants q.tenant).trans (Part.tenant_setTenant_self _ h.tenant)
  refine ⟨_, h.placed_alone hj hx, ?_, hothers, hengine, ?_, ?_, hreply, fun hf => ?_, fun hf => ?_⟩
  · simpa only [arrivingGrant, Bool.false_or] using hself
  · exact Part.claimedSince_of_claimSlices hslices hwindow.guards hwindow.carriers
  · rw [htenant]
    rfl
  · exact Part.placingFlagged_work rfl hf
  · refine Part.placingFlagged_turn rfl hg ?_ hf rfl
    rw [hraised]
    exact h.lt

section Faults

variable {p : Part} {k : Nat} {t : TenantRecord} {d : Direction} {q : AskFields} {c : Nat}

/-- With no fit and no remedy for it, an ask is refused FIT. -/
theorem Part.askFit_refused (hscan : p.askScan t d q = .nothing)
    (h : t.mask &&& 1 = 0 ∨ t.cls ≠ .data ∨
      p.passThree t d (askWidth t.cls q) ((askFloor t.cls q).getD (askWidth t.cls q)) = none) :
    p.askFit t d q = .error (.fit, 1) := by
  rw [Part.askFit, hscan]
  refine Part.judgeFit_refused (h.imp_right fun h => ?_)
  rcases h with hcls | hnone
  · rw [if_neg (by simpa using hcls)]
  · rw [hnone, ite_self]

/-- Pass 3 narrows a DATA ask to a width between its floor width and the width asked for, and its window is open. -/
theorem Part.askFit_narrowed {v : Nat} (hscan : p.askScan t d q = .nothing) (hd : askDirection t q = some d)
    (hm : t.mask &&& 1 ≠ 0) (hcls : t.cls = .data)
    (hthree : p.passThree t d (askWidth t.cls q) ((askFloor t.cls q).getD (askWidth t.cls q)) = some (c, v)) :
    p.askFit t d q = .ok { p.trialAt t ⟨c, v⟩ (askLevel t d q) none with faults := 1 } ∧ v ≤ askWidth t.cls q ∧
      (askFloor t.cls q).getD (askWidth t.cls q) ≤ v ∧ p.OpenWindow t.cls ⟨c, v⟩ := by
  obtain ⟨hfloor, hwidth, hopen⟩ := Part.open_of_passThree (askWidth_of_direction hd).2.2 hthree
  refine ⟨?_, hwidth, hfloor, ⟨fun hvoice => ?_, hopen⟩⟩
  · rw [Part.askFit, hscan, if_pos (by simp [hcls]), hthree]
    exact Part.judgeFit_remedied hm
  · rw [hcls] at hvoice
    cases hvoice

end Faults

/-- Settles O27: each fault by its judgement, the others having met none. -/
theorem placementFaultsRefuseOrRemedy : Obligations.PlacementFaultsRefuseOrRemedy := by
  intro s tag detached q rest t d g hshaped hwork hmay hlt ht hactive hd hfree hroom p w floor order level total fitsAt
    levelFits refused placed
  have htakes : s.TakesAsk tag detached q rest t d g := ⟨hshaped, hwork, hmay, hlt, ht, hactive, hd, hfree, hroom⟩
  obtain ⟨hw, -, -⟩ := askWidth_of_direction hd
  have hrefused : ∀ why faults, p.judgeAsk q.tenant t d q = .error (why, faults) → refused why faults :=
    fun why faults => htakes.refused
  have hplaced : ∀ x : Trial, x.preempt = none → p.OpenWindow t.cls x.place → p.judgeAsk q.tenant t d q = .ok x →
      placed x.place x.profile x.level x.faults x.remedied := fun x hx hwindow hj => htakes.placed_fields hj hx hwindow
  refine ⟨fun hshape htwo => ⟨fun hnone => ?_, fun c v hmask hcls hthree => ?_⟩, fun c hpass htwo hshape => ?_,
    fun c hpass => ?_⟩
  · exact hrefused _ _ (Part.judgeAsk_of_fit_error (Part.askFit_refused (Part.scan_of_no_shape hshape htwo) hnone))
  · obtain ⟨hfit, hle, hge, hopen⟩ := Part.askFit_narrowed (Part.scan_of_no_shape hshape htwo) hd hmask hcls hthree
    refine ⟨⟨hge, hle⟩, fun hprof hroom hfits => ?_⟩
    have hacceptable := (Part.windowAcceptable_iff (by simp [hcls])).mpr hprof
    exact hplaced _ rfl hopen ((Part.judgeAsk_of_capacity hfit (judgeProfile_of_acceptable hacceptable)
      (Part.judgeCapacity_of_room hroom)).trans (Part.judgePower_of_fits (s.part.composite_placed _) hfits))
  · have hfit := Part.askFit_of_shape (Part.scan_of_shape hpass htwo hshape)
    have hbad := Part.windowAcceptable_of_shape hpass hshape
    refine ⟨fun hmask => ?_, fun hmask => ?_⟩
    · exact hrefused _ _ (Part.judgeAsk_of_profile_error hfit (judgeProfile_refused hbad rfl hmask))
    · intro prof hroom hfits
      exact hplaced _ rfl (Part.openWindow_of_ask hd (List.mem_of_find?_eq_some hshape) (List.find?_some hshape))
        ((Part.judgeAsk_of_capacity hfit (judgeProfile_remedied hbad rfl hmask) (Part.judgeCapacity_of_room hroom)).trans
          (Part.judgePower_of_fits (s.part.composite_placed _) hfits))
  · intro prof
    obtain ⟨hshape, hacceptable⟩ := Part.passOne_iff.mp (List.find?_some hpass)
    have hwindow := Part.openWindow_of_ask hd (List.mem_of_find?_eq_some hpass) hshape
    have hfit := Part.askFit_of_fit (Part.scan_of_passOne hpass)
    have hprofile := judgeProfile_of_acceptable (t := t) (x := p.trialAt t ⟨c, w⟩ level none) hacceptable
    refine ⟨fun hover => ⟨fun hmask => ?_, fun hmask hcls hfits => ?_, fun hmask hcls => ⟨fun hnone => ?_,
      fun v hlo hhi hroom hwider hfits => ?_⟩⟩, fun hroom l hl hover => ⟨fun hnone => ?_,
      fun v hmask hlo hhi hfit' hhigher => ?_⟩⟩
    · exact hrefused _ _ (Part.judgeAsk_of_capacity_error hfit hprofile (Part.judgeCapacity_refused hover rfl (.inl hmask)))
    · exact hplaced _ rfl hwindow ((Part.judgeAsk_of_capacity hfit hprofile
        (Part.judgeCapacity_above hover rfl hmask hcls)).trans
          (Part.judgePower_of_fits (s.part.composite_placed _) hfits))
    · exact hrefused _ _ (Part.judgeAsk_of_capacity_error hfit hprofile
        (Part.judgeCapacity_refused hover rfl (.inr ⟨hcls, hw, hnone⟩)))
    · exact hplaced _ rfl (hwindow.narrow hhi.le hcls) ((Part.judgeAsk_of_capacity hfit hprofile
        (Part.judgeCapacity_narrowed hover rfl hmask hcls hlo hhi hroom hwider)).trans
          (Part.judgePower_of_fits (s.part.composite_placed _) hfits))
    · exact hrefused _ _ ((Part.judgeAsk_of_capacity hfit hprofile (Part.judgeCapacity_of_room hroom)).trans
        (Part.judgePower_refused (s.part.composite_placed _) hl hover rfl hnone))
    · exact hplaced _ rfl hwindow ((Part.judgeAsk_of_capacity hfit hprofile (Part.judgeCapacity_of_room hroom)).trans
        (Part.judgePower_remedied (s.part.composite_placed _) hl hover rfl hmask hlo hhi hfit' hhigher))

end Sys2Proof.Machine
end

section
/-! GRANT_MOVE and relocation (4.5): O30 and O33. -/

namespace Sys2Proof.Machine

/-! ### A grant that may be moved (R78, R79) -/

/-- The grant `g`, with its record `r` and its tenant's record `t`, may be moved by a GRANT_MOVE or by an attempt. -/
structure Part.Movable (p : Part) (g : Nat) (r : Grant) (t : TenantRecord) : Prop where
  shaped : p.shaped
  lt : g < 96
  grant : p.grant g = some r
  active : r.state = .active
  tenantLt : r.tenant < 16
  tenant : p.tenant r.tenant = some t
  cls : t.cls = r.cls
  voice : r.cls = .voice → r.width = 1

section Movable

variable {p q : Part} {g c : Nat} {r : Grant} {t : TenantRecord} {target : Option Nat}

/-- A position that a move tries has a slice below the carrier of a VOICE grant. -/
theorem Part.Movable.one_le (h : p.Movable g r t) (ht : ∀ x, target = some x → p.targetOk r x = true)
    (hc : c ∈ p.moveOrder t r target) (hvoice : r.cls = .voice) : 1 ≤ c := by
  cases htarget : target with
  | none =>
    rw [htarget] at hc
    exact Part.one_le_of_mem_scanOrder (h.voice hvoice).ge hc (h.cls.trans hvoice)
  | some x =>
    rw [htarget] at hc
    cases List.mem_singleton.mp hc
    have hok := ht _ htarget
    simp only [Part.targetOk, hvoice, isCandidate, Bool.and_eq_true, decide_eq_true_eq] at hok
    omega

theorem Part.Movable.openWindow (h : p.Movable g r t) (ht : ∀ x, target = some x → p.targetOk r x = true)
    (hc : c ∈ p.moveOrder t r target) (hshape : p.shapeOk t.cls r.width (some r) c = true) :
    p.OpenWindow r.cls ⟨c, r.width⟩ :=
  Part.openWindow_of_shapeOk h.voice (h.one_le ht hc) (h.cls ▸ hshape)

/-- The placement that a move or an attempt makes, behind the shrink of the grant that it preempts. -/
theorem Part.Movable.accept (h : p.Movable g r t) {relocation : Bool} {x : Trial} {after : Option Nat}
    {preempted : Option (Nat × Nat)}
    (hpre : p.dropFront.preemptFor r.cls x.place.first x.preempt = (q, after, preempted)) (hq : Part.Preparing p q g) :
    Part.acceptMove g r relocation x p.dropFront =
      (q.placingFlagged g (movingGrant r x) x.place (q.placedJob g .move x.place after relocation) r.tenant
        (t.roved r.dir (p.roverPast t.scan r.dir x.place)) q.alloc x.remedied,
      ⟨g, x.place, x.level, x.profile, capacityOf r.cls x.place.width x.profile, x.faults,
        after.toList ++ [(q.placedJob g .move x.place after relocation).id], preempted⟩) := by
  have hrover : q.roverPast t.scan r.dir x.place = p.roverPast t.scan r.dir x.place := by
    rw [Part.roverPast_eq, Part.roverPast_eq, Part.band_eq, Part.band_eq, hq.split]
  rw [Part.acceptMove_eq hpre ((hq.tenant _).trans h.tenant), hrover]

/-- A MOVING grant counts as the ACTIVE one did. -/
theorem Part.Movable.capacityIn (h : p.Movable g r t) (x : Trial) (k : Nat) :
    Grant.capacityIn k [.active, .moving, .resizing] (some (movingGrant r x)) =
      Grant.capacityIn k [.active, .moving, .resizing] (p.grant g) := by
  rw [h.grant]
  exact Grant.capacityIn_of_service (x := movingGrant r x) (y := r) (by simp [movingGrant]) (by simp [h.active]) rfl rfl k

end Movable

/-! ### The take of a move that passes its checks -/

/-- The front item is a GRANT_MOVE of a grant that may be moved; it may be taken, and it passes its checks. -/
structure State.TakesMove (s : State) (tag : Byte) (detached : Bool) (q : MoveFields) (rest : List Work) (r : Grant)
    (t : TenantRecord) : Prop extends s.part.Movable q.grant r t where
  work : s.part.alloc.work = .item ⟨tag, .move q, detached⟩ :: rest
  may : s.part.mayTake = true
  serving : t.status = .active
  target : ∀ x, q.target = some x → s.part.targetOk r x = true

section TakesMove

variable {s : State} {tag : Byte} {detached : Bool} {q : MoveFields} {rest : List Work} {r : Grant} {t : TenantRecord}

theorem State.TakesMove.takeMove_eq (h : s.TakesMove tag detached q rest r t) :
    s.part.takeMove = QueueItem.build ⟨tag, .move q, detached⟩ (s.part.dropFront.conclude r.tenant
      (s.part.judgeMove q.grant r t q.target) (Part.acceptMove q.grant r false)) := by
  have hgrant : s.part.dropFront.grant q.grant = some r := h.grant
  have htenant : s.part.dropFront.tenant r.tenant = some t := h.tenant
  have hrefusal : s.part.dropFront.changeRefusal q.grant = none := by
    rw [Part.changeRefusal_of_used (Part.grantRefusal_of_used h.lt hgrant) hgrant,
      Part.placementRefusal_of_active h.tenantLt htenant h.serving, if_pos h.active]
    rfl
  have htarget : q.target.all (s.part.dropFront.targetOk r) = true := (Option.all_eq_true _ _).mpr h.target
  have hdecide : s.part.dropFront.decideMove q = s.part.dropFront.conclude r.tenant
      (s.part.judgeMove q.grant r t q.target) (Part.acceptMove q.grant r false) := by
    simp only [Part.decideMove, hrefusal, hgrant, htenant, htarget, Bool.not_true, Bool.false_eq_true, if_false,
      Part.judgeMove_dropFront]
  simp only [Part.takeMove, h.work, h.may, if_true, hdecide]

/-- A fault that is not remedied refuses the move. -/
theorem State.TakesMove.refused (h : s.TakesMove tag detached q rest r t) {why : Status} {faults : FaultSet}
    (hj : s.part.judgeMove q.grant r t q.target = .error (why, faults)) : exec .grantMoveTake s = .next { s with
      part := s.part.faulting r.tenant t faults
        (s.part.alloc.building ⟨tag, .move q, detached⟩ rest (refuseFault why faults)) } :=
  State.act_of_fault h.work h.tenant (by rw [h.takeMove_eq, hj])

/-- The tenant's record once a grant of it has been set moving: the rover and the sticky flags. -/
def Part.movedTenant (p : Part) (t : TenantRecord) (r : Grant) (x : Trial) : TenantRecord :=
  (t.roved r.dir (p.roverPast t.scan r.dir x.place)).faulted x.faults

/-- A move that the judgements let through is placed, behind the shrink of the grant that it preempts. -/
theorem State.TakesMove.placed (h : s.TakesMove tag detached q rest r t) {x : Trial} {u : Part} {after : Option Nat}
    {preempted : Option (Nat × Nat)} (hj : s.part.judgeMove q.grant r t q.target = .ok x)
    (hpre : s.part.dropFront.preemptFor r.cls x.place.first x.preempt = (u, after, preempted))
    (hu : Part.Preparing s.part u q.grant) (halloc : u.alloc = s.part.dropFront.alloc) :
    exec .grantMoveTake s = .next { s with
      part := u.placingFlagged q.grant (movingGrant r x) x.place (u.placedJob q.grant .move x.place after false) r.tenant
        (s.part.movedTenant t r x) (s.part.alloc.building ⟨tag, .move q, detached⟩ rest ⟨.accepted, false,
          (Placed.mk q.grant x.place x.level x.profile (capacityOf r.cls x.place.width x.profile) x.faults
            (after.toList ++ [(u.placedJob q.grant .move x.place after false).id]) preempted).payload⟩) x.remedied } := by
  have htake : s.part.takeMove = QueueItem.build ⟨tag, .move q, detached⟩ (s.part.dropFront.conclude r.tenant (.ok x)
      (Part.acceptMove q.grant r false)) := by rw [h.takeMove_eq, hj]
  exact State.act_of_placed h.work h.tenant htake hu halloc (h.accept hpre hu) rfl (h.capacityIn x)

/-- The same where nothing is preempted. -/
theorem State.TakesMove.placed_alone (h : s.TakesMove tag detached q rest r t) {x : Trial}
    (hj : s.part.judgeMove q.grant r t q.target = .ok x) (hx : x.preempt = none) :
    exec .grantMoveTake s = .next { s with
      part := s.part.placingFlagged q.grant (movingGrant r x) x.place (s.part.newJob q.grant .move (some x.place)) r.tenant
        (s.part.movedTenant t r x) (s.part.alloc.building ⟨tag, .move q, detached⟩ rest ⟨.accepted, false,
          (Placed.mk q.grant x.place x.level x.profile (capacityOf r.cls x.place.width x.profile) x.faults
            [(s.part.newJob q.grant .move (some x.place)).id] none).payload⟩) x.remedied } := by
  have hpre : s.part.dropFront.preemptFor r.cls x.place.first x.preempt = (s.part.dropFront, none, none) := by
    rw [hx]
    rfl
  refine (h.placed hj hpre (s.part.preparing_dropFront q.grant) rfl).trans ?_
  rw [Part.placingFlagged_dropFront]
  rfl

end TakesMove

/-! ### The judgements of a move, stage by stage (R78) -/

section JudgeMove

variable {p : Part} {g c : Nat} {r : Grant} {t : TenantRecord} {target preempt : Option Nat} {x y : Trial}
  {e : Status × FaultSet}

/-- Where the scan of a move ends. -/
def Part.moveScan (p : Part) (r : Grant) (t : TenantRecord) (target : Option Nat) : Found :=
  p.scan t r.width (some r) (p.moveOrder t r target)

/-- The FIT judgement of a move. -/
def Part.moveFit (p : Part) (r : Grant) (t : TenantRecord) (target : Option Nat) : Judged :=
  p.judgeFit t r.width r.level (p.moveScan r t target) none

theorem Part.judgeMove_of_fit_error (h : p.moveFit r t target = .error e) : p.judgeMove g r t target = .error e :=
  Judged.bind_of_error h

theorem Part.judgeMove_of_profile_error (hfit : p.moveFit r t target = .ok x) (h : judgeProfile t x = .error e) :
    p.judgeMove g r t target = .error e :=
  (Judged.bind_of_ok hfit).trans (Judged.bind_of_error h)

theorem Part.judgeMove_of_profile (hfit : p.moveFit r t target = .ok x) (hprofile : judgeProfile t x = .ok y) :
    p.judgeMove g r t target = p.judgePower t (p.contribution g) (movedCarriers r) y :=
  (Judged.bind_of_ok hfit).trans (Judged.bind_of_ok hprofile)

theorem Part.moveFit_of_fit (h : p.moveScan r t target = .fit c preempt) :
    p.moveFit r t target = .ok (p.trialAt t ⟨c, r.width⟩ r.level preempt) := by
  rw [Part.moveFit, h]
  rfl

theorem Part.moveFit_of_shape (h : p.moveScan r t target = .shape c) :
    p.moveFit r t target = .ok (p.trialAt t ⟨c, r.width⟩ r.level none) := by
  rw [Part.moveFit, h]
  rfl

/-- A move has no remedy for FIT. -/
theorem Part.moveFit_refused (h : p.moveScan r t target = .nothing) : p.moveFit r t target = .error (.fit, 1) := by
  rw [Part.moveFit, h]
  exact Part.judgeFit_refused (.inr rfl)

/-- The composite with both carriers of a moved grant at a level `v`, in place of what it contributes (R74). -/
theorem Part.composite_moved (p : Part) (g : Nat) (r : Grant) (x : Trial) (v : Int) :
    p.composite - p.contribution g + p.carriersWeight v (movedCarriers r x) = p.composite - p.contribution g +
      (p.carrierWeight v ⟨r.first, r.width⟩ + p.carrierWeight v x.place) := by
  rw [movedCarriers, Part.carriersWeight_two]

end JudgeMove

/-- Settles O30: the first position of pass 1 meets no fault, and the grant is moved there. -/
theorem moveWithoutFaultIsPlaced : Obligations.MoveWithoutFaultIsPlaced := by
  intro s tag detached q rest r t c hshaped hwork hmay hlt hgrant hactive htlt ht hserving hcls hvoice htarget hfind hfits
    prof job rover
  have htakes : s.TakesMove tag detached q rest r t :=
    ⟨⟨hshaped, hlt, hgrant, hactive, htlt, ht, hcls, hvoice⟩, hwork, hmay, hserving, htarget⟩
  obtain ⟨hshape, hacceptable⟩ := Part.passOne_iff.mp (List.find?_some hfind)
  have hwindow := htakes.openWindow htarget (List.mem_of_find?_eq_some hfind) hshape
  have hjudge : s.part.judgeMove q.grant r t q.target = .ok (s.part.trialAt t ⟨c, r.width⟩ r.level none) :=
    (Part.judgeMove_of_profile (Part.moveFit_of_fit (Part.scan_of_passOne hfind))
      (judgeProfile_of_acceptable hacceptable)).trans
        (Part.judgePower_of_fits (s.part.composite_moved q.grant r _) hfits)
  have hplaced := htakes.placed_alone hjudge rfl
  have htenant : s.part.movedTenant t r (s.part.trialAt t ⟨c, r.width⟩ r.level none) = t.roved r.dir rover :=
    TenantRecord.faulted_zero _
  rw [htenant] at hplaced
  exact ⟨_, hplaced, Part.placing_whole q.grant job (t.roved r.dir rover) _ ht hwindow⟩

/-! ### A relocation attempt (R63, R79) -/

section Attempt

variable {s : State} {g : Nat} {rest : List Work} {r : Grant} {t : TenantRecord}

theorem Part.takeAttempt_eq {p : Part} (hwork : p.alloc.work = .attempt g :: rest) (hmay : p.mayTake = true) :
    p.takeAttempt = p.dropFront.attempt g := by
  simp only [Part.takeAttempt, hwork, hmay, if_true]

theorem Part.dropFront_eq {p : Part} {w : Work} (h : p.alloc.work = w :: rest) :
    p.dropFront = { p with alloc := { p.alloc with work := rest } } := by
  rw [Part.dropFront, h, List.tail_cons]

/-- An entry becomes an attempt where its grant is in use, ACTIVE and pending, and its tenant is not RETIRING. -/
theorem Part.attemptable_eq_some {p : Part} : p.attemptable g = some (r, t) ↔ p.grant g = some r ∧ r.state = .active ∧
    r.relocationPending = true ∧ p.tenant r.tenant = some t ∧ t.status ≠ .retiring := by
  unfold Part.attemptable
  cases hr : p.grant g with
  | none => simp
  | some r' =>
    dsimp only
    cases ht : p.tenant r'.tenant with
    | none =>
      simp only [reduceCtorEq, Option.some.injEq, false_iff]
      rintro ⟨rfl, -, -, htenant, -⟩
      cases ht.symm.trans htenant
    | some t' =>
      simp only [Option.ite_none_right_eq_some, Bool.and_eq_true, beq_iff_eq, bne_iff_ne, Option.some.injEq,
        Prod.mk.injEq]
      constructor
      · rintro ⟨⟨⟨hactive, hpending⟩, hstatus⟩, rfl, rfl⟩
        exact ⟨rfl, hactive, hpending, ht, hstatus⟩
      · rintro ⟨rfl, hactive, hpending, htenant, hstatus⟩
        cases ht.symm.trans htenant
        exact ⟨⟨⟨hactive, hpending⟩, hstatus⟩, rfl, rfl⟩

/-- The power check of an attempt (R79), for a grant with a level and for one without. -/
theorem Part.relocationFits_iff {p : Part} {x : Trial} : p.relocationFits g r x = true ↔ ∀ l, r.level = some l →
    p.fits (p.composite - p.contribution g +
      (p.carrierWeight l ⟨r.first, r.width⟩ + p.carrierWeight l x.place)) = true := by
  cases hl : r.level with
  | none => simp [Part.relocationFits, hl]
  | some l => simp [Part.relocationFits, hl, Part.composite_moved]

theorem Part.relocationFits_dropFront (p : Part) (g : Nat) (r : Grant) (x : Trial) :
    p.dropFront.relocationFits g r x = p.relocationFits g r x := by
  simp only [Part.relocationFits, Part.composite_dropFront]
  rfl

/-- An attempt whose scan ends at a fit under the cap is a move with the relocation mark. -/
theorem Part.attempt_of_fit {p : Part} {c : Nat} {preempt : Option Nat} (h : p.attemptable g = some (r, t))
    (hscan : p.scan t r.width (some r) (p.scanOrder t r.dir r.width) = .fit c preempt)
    (hfits : p.relocationFits g r (p.trialAt t ⟨c, r.width⟩ r.level preempt) = true) :
    p.dropFront.attempt g = (p.dropFront.acceptMove g r true (p.trialAt t ⟨c, r.width⟩ r.level preempt)).1 := by
  have hdrop : p.dropFront.attemptable g = some (r, t) := h
  have hscan' : p.dropFront.scan t r.width (some r) (p.dropFront.scanOrder t r.dir r.width) = .fit c preempt := hscan
  simp only [Part.attempt, hdrop, hscan', Part.relocationFits_dropFront]
  exact if_pos hfits

/-- An attempt that finds no position, or no room under the cap, fails. -/
theorem Part.attempt_of_failure {p : Part} (h : p.attemptable g = some (r, t))
    (hfail : ∀ c preempt, p.scan t r.width (some r) (p.scanOrder t r.dir r.width) = .fit c preempt →
      p.relocationFits g r (p.trialAt t ⟨c, r.width⟩ r.level preempt) = false) :
    p.dropFront.attempt g = p.dropFront.raise r.tenant .relocateFailed := by
  have hdrop : p.dropFront.attemptable g = some (r, t) := h
  have hscan : p.dropFront.scan t r.width (some r) (p.dropFront.scanOrder t r.dir r.width) =
      p.scan t r.width (some r) (p.scanOrder t r.dir r.width) := rfl
  simp only [Part.attempt, hdrop, hscan, Part.relocationFits_dropFront]
  cases hfound : p.scan t r.width (some r) (p.scanOrder t r.dir r.width) with
  | fit c preempt => exact if_neg (Bool.not_eq_true _ ▸ hfail c preempt hfound)
  | shape c => rfl
  | nothing => rfl

end Attempt

/-- The front piece of work is the attempt entry of a grant that may be moved, and it may be taken. -/
structure State.TakesAttempt (s : State) (g : Nat) (rest : List Work) (r : Grant) (t : TenantRecord) : Prop
    extends s.part.Movable g r t where
  work : s.part.alloc.work = .attempt g :: rest
  may : s.part.mayTake = true
  pending : r.relocationPending = true
  stands : t.status ≠ .retiring

section TakesAttempt

variable {s : State} {g c : Nat} {rest : List Work} {r : Grant} {t : TenantRecord} {preempt : Option Nat}

/-- An attempt that finds a position under the cap is placed, behind the shrink of the grant that it preempts. -/
theorem State.TakesAttempt.placed (h : s.TakesAttempt g rest r t) {u : Part} {after : Option Nat}
    {preempted : Option (Nat × Nat)}
    (hscan : s.part.scan t r.width (some r) (s.part.scanOrder t r.dir r.width) = .fit c preempt)
    (hfits : ∀ l, r.level = some l → s.part.fits (s.part.composite - s.part.contribution g +
      (s.part.carrierWeight l ⟨r.first, r.width⟩ + s.part.carrierWeight l ⟨c, r.width⟩)) = true)
    (hpre : s.part.dropFront.preemptFor r.cls c preempt = (u, after, preempted))
    (hu : Part.Preparing s.part u g) (halloc : u.alloc = s.part.dropFront.alloc) :
    exec .relocationAttempt s = .next { s with
      part := u.placing g { r with state := .moving } ⟨c, r.width⟩ (u.placedJob g .move ⟨c, r.width⟩ after true) r.tenant
        (t.roved r.dir (s.part.roverPast t.scan r.dir ⟨c, r.width⟩)) { s.part.alloc with work := rest } } := by
  have hattempt : s.part.takeAttempt = u.placingFlagged g (movingGrant r (s.part.trialAt t ⟨c, r.width⟩ r.level preempt))
      ⟨c, r.width⟩ (u.placedJob g .move ⟨c, r.width⟩ after true) r.tenant
      (t.roved r.dir (s.part.roverPast t.scan r.dir ⟨c, r.width⟩)) u.alloc false := by
    rw [Part.takeAttempt_eq h.work h.may, Part.attempt_of_fit
      (Part.attemptable_eq_some.mpr ⟨h.grant, h.active, h.pending, h.tenant, h.stands⟩) hscan
      (Part.relocationFits_iff.mpr hfits), h.accept hpre hu]
    rfl
  change s.act Part.takeAttempt = _
  rw [State.act_eq, hattempt, Part.commitTest_placingFlagged (t := t) (u := t.roved _ _) hu h.tenant rfl (h.capacityIn _),
    halloc, Part.dropFront_eq h.work]
  rfl

end TakesAttempt

/-- An entry that is taken, and places nothing. -/
theorem State.relocationAttempt_of_same {s : State} {g : Nat} {rest : List Work} {u : Part}
    (hwork : s.part.alloc.work = .attempt g :: rest) (hmay : s.part.mayTake = true) (hu : s.part.dropFront.attempt g = u)
    (htenants : u.tenants = s.part.tenants) (hgrants : u.grants = s.part.grants) :
    exec .relocationAttempt s = .next { s with part := u } := by
  change s.act Part.takeAttempt = _
  rw [State.act_eq, Part.takeAttempt_eq hwork hmay, hu, Part.commitTest_of_same htenants hgrants]

/-- Settles O33: the attempt at the first fit of its scan, and the entries that find none or are no attempt. -/
theorem relocationMovesGrant : Obligations.RelocationMovesGrant := by
  refine ⟨?_, ?_⟩
  · intro s g c rest r t hshaped hwork hmay hlt hgrant hpending hactive htlt ht hstands hcls hvoice hfind hfits rover
    have htakes : s.TakesAttempt g rest r t :=
      ⟨⟨hshaped, hlt, hgrant, hactive, htlt, ht, hcls, hvoice⟩, hwork, hmay, hpending, hstands⟩
    have hwindow := htakes.openWindow (target := none) nofun (List.mem_of_find?_eq_some hfind)
      (Part.passOne_iff.mp (List.find?_some hfind)).1
    have hplaced := htakes.placed (Part.scan_of_passOne hfind) hfits rfl (s.part.preparing_dropFront g) rfl
    exact ⟨_, hplaced, Part.placing_whole (p := s.part) g _ (t.roved r.dir rover) _ ht hwindow⟩
  · intro s g rest hwork hmay left attempted
    have hdrop : s.part.dropFront = left := Part.dropFront_eq hwork
    refine ⟨fun hnone => ?_, fun r t hattempted => ?_⟩
    · have hout : s.part.dropFront.attemptable g = none :=
        Option.eq_none_iff_forall_ne_some.mpr fun ⟨r, t⟩ h => hnone r t (Part.attemptable_eq_some.mp h)
      refine State.relocationAttempt_of_same hwork hmay ?_ rfl rfl
      rw [← hdrop]
      simp only [Part.attempt, hout]
    · intro order pass preempting full hfail
      have hno : ∀ c d, full c → s.part.relocationFits g r (s.part.trialAt t ⟨c, r.width⟩ r.level d) = false := by
        rintro c d ⟨l, hl, hover⟩
        rw [← Bool.not_eq_true, Part.relocationFits_iff]
        exact fun h => Bool.false_ne_true (hover.symm.trans (h l hl))
      refine State.relocationAttempt_of_same (u := left.raise r.tenant .relocateFailed) hwork hmay ?_ rfl rfl
      refine hdrop ▸ Part.attempt_of_failure (Part.attemptable_eq_some.mpr hattempted) fun c d hscan => ?_
      rcases hfail with ⟨hpass, htwo⟩ | ⟨c', hpass, hfull⟩ | ⟨hpass, hcls, c', d', htwo, hfull⟩
      · have hend := (Part.scan_of_no_pass hpass htwo rfl).symm.trans hscan
        cases hshape : order.find? (s.part.shapeOk t.cls r.width (some r)) <;> rw [hshape] at hend <;> cases hend
      · cases (Part.scan_of_passOne hpass).symm.trans hscan
        exact hno _ _ hfull
      · cases (Part.scan_of_passTwo hpass hcls htwo).symm.trans hscan
        exact hno _ _ hfull

end Sys2Proof.Machine
end

section
/-! GRANT_RESIZE within the present width (4.6): O31. -/

namespace Sys2Proof.Machine

/-! ### The take of a resize that passes its checks (R80) -/

/-- The front item is a GRANT_RESIZE of the DATA grant of the record `r`; it may be taken, and it passes its checks. -/
structure State.TakesResize (s : State) (tag : Byte) (detached : Bool) (q : ResizeFields) (rest : List Work) (r : Grant)
    (t : TenantRecord) : Prop where
  work : s.part.alloc.work = .item ⟨tag, .resize q, detached⟩ :: rest
  may : s.part.mayTake = true
  lt : q.grant < 96
  grant : s.part.grant q.grant = some r
  active : r.state = .active
  tenantLt : r.tenant < 16
  tenant : s.part.tenant r.tenant = some t
  serving : t.status = .active
  data : r.cls = .data
  fields : resizeFieldsOk r q = true

section TakesResize

variable {s : State} {tag : Byte} {detached : Bool} {q : ResizeFields} {rest : List Work} {r : Grant} {t : TenantRecord}

/-- The three ways of a resize, by its width beside the present one. -/
theorem State.TakesResize.takeResize_eq (h : s.TakesResize tag detached q rest r t) :
    s.part.takeResize = QueueItem.build ⟨tag, .resize q, detached⟩
      (if q.width = r.width then s.part.dropFront.resizeSame q.grant r q
        else if q.width < r.width then s.part.dropFront.shrink q.grant r q
        else s.part.dropFront.conclude r.tenant (s.part.judgeGrow q.grant r t q) (Part.acceptGrow q.grant r q)) := by
  have hgrant : s.part.dropFront.grant q.grant = some r := h.grant
  have htenant : s.part.dropFront.tenant r.tenant = some t := h.tenant
  have hrefusal : s.part.dropFront.changeRefusal q.grant = none := by
    rw [Part.changeRefusal_of_used (Part.grantRefusal_of_used h.lt hgrant) hgrant,
      Part.placementRefusal_of_active h.tenantLt htenant h.serving, if_pos h.active]
    rfl
  have hdata : (r.cls != .data) = false := by simp [h.data]
  simp only [Part.takeResize, h.work, h.may, if_true, Part.decideResize, hrefusal, hgrant, htenant, hdata, h.fields,
    Bool.not_true, Bool.false_eq_true, if_false, beq_iff_eq, Part.judgeGrow_dropFront]

/-- A resize within the present width, whose outcome leaves the tenants and gives the grant a record that counts as its
old one. -/
theorem State.TakesResize.resized (h : s.TakesResize tag detached q rest r t) {u : Part} {x : Grant}
    (hu : s.part.takeResize = u) (htenants : u.tenants = s.part.tenants)
    (hgrants : u.grants = s.part.grants.set q.grant (some x)) (hstate : x.state = .active ∨ x.state = .resizing)
    (htenant : x.tenant = r.tenant) (hcapacity : x.capacity = r.capacity) :
    exec .grantResizeTake s = .next { s with part := u } := by
  have hdelivered : ∀ k, u.delivered k = s.part.delivered k := Part.delivered_of_set hgrants fun k => by
    rw [h.grant]
    exact Grant.capacityIn_of_service (by rcases hstate with hs | hs <;> simp [hs]) (by simp [h.active]) htenant hcapacity k
  change s.act Part.takeResize = _
  rw [State.act_eq, hu, Part.commitTest_of_delivered h.tenant (by rw [htenants, Part.setTenant_self h.tenant]) rfl
    hdelivered]

end TakesResize

/-- Settles O31: the two resizes that place nothing. -/
theorem resizeWithinPresentWidth : Obligations.ResizeWithinPresentWidth := by
  intro s tag detached q rest r t hwork hmay hlt hgrant hactive htlt ht hserving hdata hfields hle floor job
  have htakes : s.TakesResize tag detached q rest r t :=
    ⟨hwork, hmay, hlt, hgrant, hactive, htlt, ht, hserving, hdata, hfields⟩
  refine ⟨Config.freeReplyProfile s.part.drawn % 7, Config.freeReplyCapacity s.part.drawn % 16777216,
    Nat.le_of_lt_succ (Nat.mod_lt _ (by decide)), Nat.mod_lt _ (by decide), ?_⟩
  rcases hle.eq_or_lt with heq | hlt'
  · have hnot : ¬q.width < r.width := heq.not_lt
    have hrecord : ({ r with floor := resizeFloor r q } : Grant) = { r with floor := floor, state := .active } := by
      rw [← hactive]
      rfl
    refine htakes.resized (x := { r with floor := floor, state := .active }) ?_ rfl ?_ (.inl rfl) rfl rfl
    · rw [htakes.takeResize_eq, if_pos heq, Part.resizeSame, hrecord, Part.dropFront_eq hwork]
      simp only [if_neg hnot]
      rfl
    · simp only [if_neg hnot]
  · refine htakes.resized (x := { r with floor := floor, state := .resizing }) ?_ rfl ?_ (.inr rfl) rfl rfl
    · rw [htakes.takeResize_eq, if_neg hlt'.ne, if_pos hlt', Part.dropFront_eq hwork]
      simp only [if_pos hlt']
      rfl
    · simp only [if_pos hlt']

end Sys2Proof.Machine
end

section
/-! A grow (R81): O32. -/

namespace Sys2Proof.Machine

/-! ### The run of open slices above a grant -/

/-- How far the leading members of a range that pass a test reach. -/
theorem le_length_takeWhile_range' {f : Nat → Bool} (a k m : Nat) :
    m ≤ ((List.range' a k).takeWhile f).length ↔ m ≤ k ∧ ∀ n, a ≤ n → n < a + m → f n = true := by
  induction k generalizing a m with
  | zero =>
    simp only [List.range'_zero, List.takeWhile_nil, List.length_nil, Nat.le_zero_eq]
    exact ⟨fun hm => ⟨hm, fun n hn hlt => by omega⟩, fun h => h.1⟩
  | succ k ih =>
    rw [List.range'_succ, List.takeWhile_cons]
    cases m with
    | zero => exact ⟨fun _ => ⟨Nat.zero_le _, fun n hn hlt => by omega⟩, fun _ => Nat.zero_le _⟩
    | succ m =>
      by_cases ha : f a = true
      · rw [if_pos ha, List.length_cons, Nat.add_le_add_iff_right, ih, Nat.add_le_add_iff_right]
        refine and_congr_right fun _ => ⟨fun h n hn hlt => ?_, fun h n hn hlt => h n (by omega) (by omega)⟩
        rcases hn.eq_or_lt with rfl | hn
        · exact ha
        · exact h n hn (by omega)
      · rw [if_neg ha]
        simp only [List.length_nil, Nat.le_zero_eq, Nat.add_one_ne_zero, false_iff, not_and]
        exact fun _ h => ha (h a le_rfl (by omega))

/-- The slices above a grant, up to the width `w`, are open. -/
def Part.OpenAbove (p : Part) (r : Grant) (w : Nat) : Prop :=
  ∀ n, r.first + r.width ≤ n → n < r.first + w → p.openIn r.dir n = true

section OpenRun

variable {p : Part} {r : Grant} {w v : Nat}

/-- The run reaches a width where the slices up to it are open. -/
theorem Part.le_openRun_iff (hw : r.width ≤ w) : v ≤ p.openRun r w ↔ v ≤ w ∧ p.OpenAbove r v := by
  have hreach : v ≤ p.openRun r w ↔ v - r.width ≤ ((growthSlices r w).takeWhile (p.openIn r.dir)).length := by
    rw [Part.openRun]
    omega
  rw [hreach, growthSlices, le_length_takeWhile_range']
  refine and_congr (by omega) ⟨fun h n hn hlt => h n hn (by omega), fun h n hn hlt => h n hn ?_⟩
  omega

theorem Part.openRun_eq (hw : r.width ≤ v) (hv : v < w) (hopen : p.OpenAbove r v)
    (hend : p.openIn r.dir (r.first + v) = false) : p.openRun r w = v := by
  have hle : v ≤ p.openRun r w := (Part.le_openRun_iff (hw.trans hv.le)).mpr ⟨hv.le, hopen⟩
  refine le_antisymm (Nat.le_of_not_lt fun hlt => ?_) hle
  obtain ⟨-, hmore⟩ := (Part.le_openRun_iff (hw.trans hv.le)).mp (Nat.succ_le_of_lt hlt)
  have hopen' := hmore (r.first + v) (by omega) (by omega)
  rw [hend] at hopen'
  cases hopen'

end OpenRun

/-! ### The judgements of a grow, stage by stage (R81) -/

section JudgeGrow

variable {p : Part} {g w : Nat} {r : Grant} {t : TenantRecord} {q : ResizeFields} {x y z : Trial} {e : Status × FaultSet}

/-- The CAPACITY judgement of a grow. -/
def Part.growCapacity (p : Part) (r : Grant) (t : TenantRecord) (q : ResizeFields) (x : Trial) : Judged :=
  p.judgeCapacity t (p.delivered r.tenant - r.capacity + p.arrivingCapacity r.tenant) (leastGrown r q) x

theorem Part.judgeGrow_of_fit_error (h : p.judgeGrowFit r t q = .error e) : p.judgeGrow g r t q = .error e :=
  Judged.bind_of_error h

theorem Part.judgeGrow_of_profile_error (hfit : p.judgeGrowFit r t q = .ok x) (h : judgeProfile t x = .error e) :
    p.judgeGrow g r t q = .error e :=
  (Judged.bind_of_ok hfit).trans (Judged.bind_of_error h)

theorem Part.judgeGrow_of_capacity_error (hfit : p.judgeGrowFit r t q = .ok x) (hprofile : judgeProfile t x = .ok y)
    (h : p.growCapacity r t q y = .error e) : p.judgeGrow g r t q = .error e :=
  (Judged.bind_of_ok hfit).trans ((Judged.bind_of_ok hprofile).trans (Judged.bind_of_error h))

theorem Part.judgeGrow_of_capacity (hfit : p.judgeGrowFit r t q = .ok x) (hprofile : judgeProfile t x = .ok y)
    (hcapacity : p.growCapacity r t q y = .ok z) :
    p.judgeGrow g r t q = p.judgePower t (p.contribution g) (fun x => [x.place]) z :=
  (Judged.bind_of_ok hfit).trans ((Judged.bind_of_ok hprofile).trans (Judged.bind_of_ok hcapacity))

/-- The slices asked for are open: the grow has its whole width. -/
theorem Part.growFit_of_open (hw : r.width ≤ q.width) (h : p.OpenAbove r q.width) :
    p.judgeGrowFit r t q = .ok (p.trialAt t ⟨r.first, q.width⟩ r.level none) := by
  have hrun := (Part.le_openRun_iff hw).mpr ⟨le_rfl, h⟩
  exact judge_of_no_fault _ _ (decide_eq_false (Nat.not_lt.mpr hrun)) _ _

theorem Part.growFit_refused (hw : r.width ≤ q.width) (h : ¬p.OpenAbove r q.width)
    (hr : t.mask &&& 1 = 0 ∨ ¬p.OpenAbove r (leastGrown r q)) : p.judgeGrowFit r t q = .error (.fit, 1) := by
  refine judge_refused (decide_eq_true (Nat.lt_of_not_le fun hrun => h ((Part.le_openRun_iff hw).mp hrun).2)) rfl
    (hr.imp_right fun hleast => ?_)
  exact if_neg fun hrun => hleast ((Part.le_openRun_iff hw).mp hrun).2

/-- The remedy takes the run of open slices above the grant. -/
theorem Part.growFit_remedied (hm : t.mask &&& 1 ≠ 0) (hlo : leastGrown r q ≤ w) (hhi : w < q.width)
    (hopen : p.OpenAbove r w) (hend : p.openIn r.dir (r.first + w) = false) :
    p.judgeGrowFit r t q = .ok { p.trialAt t ⟨r.first, w⟩ r.level none with faults := 1 } := by
  have hwidth : r.width ≤ w := (Nat.le_succ _).trans ((le_max_left ..).trans hlo)
  have hrun := Part.openRun_eq hwidth hhi hopen hend
  rw [Part.judgeGrowFit]
  simp only [hrun, if_pos hlo]
  exact judge_remedied (decide_eq_true hhi) rfl hm

/-- The composite with the carrier of a grown grant at a level `v`, in place of what it contributes. -/
theorem Part.composite_grown (p : Part) (g : Nat) (x : Trial) (v : Int) :
    p.composite - p.contribution g + p.carriersWeight v [x.place] =
      p.composite - p.contribution g + p.carrierWeight v x.place := by
  rw [Part.carriersWeight_one]

end JudgeGrow

/-! ### The width that a grow ends with (R45, R81) -/

section Width

/-- The next judgement of a decision that lets its trial through has let it through too. -/
theorem Judged.of_bind {j : Judged} {f : Trial → Judged} {y : Trial} (h : j >>= f = .ok y) :
    ∃ x, j = .ok x ∧ f x = .ok y := by
  cases j with
  | error e => cases h
  | ok x => exact ⟨x, rfl, h⟩

/-- A judgement keeps the place of its trial, or gives that of its remedy. -/
theorem place_of_judge {f : FaultClass} {mask : FaultSet} {occurs : Bool} {remedy : Option Trial} {x y : Trial}
    (h : judge f mask occurs remedy x = .ok y) :
    occurs = false ∧ y.place = x.place ∨ ∃ z, remedy = some z ∧ y.place = z.place := by
  cases occurs with
  | false =>
    rw [judge_of_no_fault f mask rfl] at h
    cases h
    exact .inl ⟨rfl, rfl⟩
  | true =>
    simp only [judge, Bool.not_true, Bool.false_eq_true, if_false] at h
    cases hm : f.maskedBy mask with
    | false =>
      rw [hm] at h
      cases h
    | true =>
      rw [hm] at h
      cases remedy with
      | none => cases h
      | some z =>
        cases h
        exact .inr ⟨z, rfl, rfl⟩

variable {p : Part} {g : Nat} {r : Grant} {t : TenantRecord} {q : ResizeFields} {x y : Trial}

theorem place_of_judgeProfile (h : judgeProfile t x = .ok y) : y.place = x.place := by
  rcases place_of_judge h with ⟨-, h⟩ | ⟨z, hz, h⟩
  · exact h
  · cases hz
    exact h

theorem Part.place_of_judgePower {present : Nat} {carriers : Trial → List Place}
    (h : p.judgePower t present carriers x = .ok y) : y.place = x.place := by
  cases hl : x.level with
  | none =>
    simp only [Part.judgePower, hl] at h
    cases h
    rfl
  | some l =>
    rw [Part.judgePower_eq (fun _ => rfl) hl] at h
    rcases place_of_judge h with ⟨-, h⟩ | ⟨z, hz, h⟩
    · exact h
    · obtain ⟨v, -, rfl⟩ := Option.map_eq_some_iff.mp hz
      exact h

/-- The CAPACITY judgement of a DATA carrier keeps its width, or narrows it no further than to the least one. -/
theorem Part.width_of_judgeCapacity {counted least : Nat} (hcls : t.cls = .data)
    (h : p.judgeCapacity t counted least x = .ok y) :
    y.place.width = x.place.width ∨ least ≤ y.place.width ∧ y.place.width ≤ x.place.width := by
  rcases place_of_judge h with ⟨-, h⟩ | ⟨z, hz, h⟩
  · exact .inl (congrArg Place.width h)
  · rw [if_pos (by simp [hcls])] at hz
    obtain ⟨w, hw, rfl⟩ := Option.map_eq_some_iff.mp hz
    have hmem := List.mem_of_find?_eq_some hw
    rw [List.mem_reverse, List.mem_range'_1] at hmem
    rw [h]
    refine .inr ⟨hmem.1, ?_⟩
    change w ≤ x.place.width
    omega

/-- The FIT judgement of a grow gives a width between the least one and the one asked for. -/
theorem Part.width_of_growFit (hw : r.width ≤ q.width) (hleast : leastGrown r q ≤ q.width)
    (h : p.judgeGrowFit r t q = .ok x) : leastGrown r q ≤ x.place.width ∧ x.place.width ≤ q.width := by
  rcases place_of_judge h with ⟨-, h⟩ | ⟨z, hz, h⟩
  · rw [h]
    exact ⟨hleast, le_rfl⟩
  · obtain ⟨hrun, hz⟩ := Option.ite_none_right_eq_some.mp hz
    cases hz
    rw [h]
    exact ⟨hrun, ((Part.le_openRun_iff hw).mp le_rfl).1⟩

/-- Whatever remedies a grow takes, it ends with such a width. -/
theorem Part.width_of_judgeGrow (hcls : t.cls = .data) (hw : r.width ≤ q.width) (hleast : leastGrown r q ≤ q.width)
    (h : p.judgeGrow g r t q = .ok y) : leastGrown r q ≤ y.place.width ∧ y.place.width ≤ q.width := by
  obtain ⟨a, hfit, h⟩ := Judged.of_bind h
  obtain ⟨b, hprofile, h⟩ := Judged.of_bind h
  obtain ⟨c, hcapacity, hpower⟩ := Judged.of_bind h
  have hfitted := Part.width_of_growFit hw hleast hfit
  have hnarrowed := Part.width_of_judgeCapacity hcls hcapacity
  rw [place_of_judgeProfile hprofile] at hnarrowed
  rw [Part.place_of_judgePower hpower]
  omega

/-- The width asked for is one that a grow may end with. -/
theorem leastGrown_le (hfields : resizeFieldsOk r q = true) (hw : r.width < q.width) : leastGrown r q ≤ q.width := by
  refine max_le hw ?_
  simp only [resizeFieldsOk, Bool.and_eq_true] at hfields
  obtain ⟨-, hfloor⟩ := hfields
  cases hf : q.floor with
  | none => simpa [resizeFloor, hf] using hfloor
  | some f =>
    simp only [hf, Bool.and_eq_true, decide_eq_true_eq] at hfloor
    simpa [resizeFloor, hf] using hfloor.2

end Width

/-! ### The take of a grow -/

/-- The front item is a GRANT_RESIZE that passes its checks and asks for more than the present width. -/
structure State.TakesGrow (s : State) (tag : Byte) (detached : Bool) (q : ResizeFields) (rest : List Work) (r : Grant)
    (t : TenantRecord) : Prop extends s.TakesResize tag detached q rest r t where
  shaped : s.part.shaped
  cls : t.cls = .data
  wider : r.width < q.width

section TakesGrow

variable {s : State} {tag : Byte} {detached : Bool} {q : ResizeFields} {rest : List Work} {r : Grant} {t : TenantRecord}

theorem State.TakesGrow.takeResize_eq (h : s.TakesGrow tag detached q rest r t) :
    s.part.takeResize = QueueItem.build ⟨tag, .resize q, detached⟩ (s.part.dropFront.conclude r.tenant
      (s.part.judgeGrow q.grant r t q) (Part.acceptGrow q.grant r q)) := by
  rw [h.toTakesResize.takeResize_eq, if_neg h.wider.ne', if_neg h.wider.not_gt]

/-- A fault that is not remedied refuses the grow. -/
theorem State.TakesGrow.refused (h : s.TakesGrow tag detached q rest r t) {why : Status} {faults : FaultSet}
    (hj : s.part.judgeGrow q.grant r t q = .error (why, faults)) : exec .grantResizeTake s = .next { s with
      part := s.part.faulting r.tenant t faults
        (s.part.alloc.building ⟨tag, .resize q, detached⟩ rest (refuseFault why faults)) } :=
  State.act_of_fault h.work h.tenant (by rw [h.takeResize_eq, hj])

/-- A grow that the judgements let through is placed. -/
theorem State.TakesGrow.placed (h : s.TakesGrow tag detached q rest r t) {x : Trial}
    (hj : s.part.judgeGrow q.grant r t q = .ok x) : exec .grantResizeTake s = .next { s with
      part := s.part.placingFlagged q.grant (growingGrant r (resizeFloor r q) x) x.place
        (s.part.newJob q.grant .resize (some x.place)) r.tenant (t.faulted x.faults)
        (s.part.alloc.building ⟨tag, .resize q, detached⟩ rest ⟨.accepted, false,
          (Placed.mk q.grant x.place x.level x.profile (capacityOf r.cls x.place.width x.profile) x.faults
            [(s.part.newJob q.grant .resize (some x.place)).id] none).payload⟩) x.remedied } := by
  have htake : s.part.takeResize = QueueItem.build ⟨tag, .resize q, detached⟩ (s.part.dropFront.conclude r.tenant (.ok x)
      (Part.acceptGrow q.grant r q)) := by rw [h.takeResize_eq, hj]
  have hdrop : s.part.dropFront.tenant r.tenant = some t := h.tenant
  refine (State.act_of_placed h.work h.tenant htake (s.part.preparing_dropFront q.grant) rfl
    (Part.acceptGrow_eq hdrop) rfl fun k => ?_).trans ?_
  · rw [h.grant]
    exact Grant.capacityIn_of_service (x := growingGrant r (resizeFloor r q) x) (y := r) (by simp [growingGrant])
      (by simp [h.active]) rfl rfl k
  · rw [Part.placingFlagged_dropFront]
    rfl

/-- The growth slices of a grow are claimed, and every other slice is left: the grant's own stay GRANTED. -/
theorem Part.slice_of_growth {p u : Part} {g w : Nat} (hu : u.slices = claimSlices g .data ⟨r.first, w⟩ p.slices)
    (hown : ∀ n, r.first ≤ n → n < r.first + r.width → (p.slice n).use = .granted g)
    (hopen : p.OpenAbove r w) (n : Nat) : u.slice n =
      if r.first + r.width ≤ n ∧ n < r.first + w then ⟨.claimed g, false, false⟩ else p.slice n := by
  rw [Part.slice_of_claimSlices hu]
  by_cases hgrowth : r.first + r.width ≤ n ∧ n < r.first + w
  · obtain ⟨hlo, hhi⟩ := hgrowth
    have havailable := hopen n hlo hhi
    rw [Part.openIn, Bool.and_eq_true] at havailable
    rw [if_pos ⟨hlo, hhi⟩, claimEntry_of_carrier (by dsimp only; omega) hhi havailable.2]
  · rw [if_neg hgrowth]
    by_cases hmine : r.first ≤ n ∧ n < r.first + r.width
    · exact claimEntry_of_granted (hown n hmine.1 hmine.2)
    · refine claimEntry_of_outside _ nofun (Bool.eq_false_iff.mpr fun hcovers => ?_)
      rcases windowCovers_iff.mp hcovers with hin | ⟨hvoice, -⟩
      · dsimp only at hin
        omega
      · cases hvoice

/-- What a placed grow leaves, field by field, the flags set where the PROFILE remedy was taken. -/
theorem State.TakesGrow.placed_fields (h : s.TakesGrow tag detached q rest r t) {x : Trial} {w : Nat}
    (hj : s.part.judgeGrow q.grant r t q = .ok x) (hplace : x.place = ⟨r.first, w⟩)
    (hopen : s.part.OpenAbove r w) :
    let p := s.part
    let job := p.newJob q.grant .resize (some ⟨r.first, w⟩)
    (∀ n, r.first ≤ n → n < r.first + r.width → (p.slice n).use = .granted q.grant) →
    ∃ u, exec .grantResizeTake s = .next { s with part := u } ∧
      u.grant q.grant = some { r with
        state := .resizing, floor := resizeFloor r q, level := x.level
        impaired := r.impaired || x.remedied, relocationPending := r.relocationPending || x.remedied } ∧
      (∀ h, h ≠ q.grant → u.grant h = p.grant h) ∧ u.engine = p.engine.withJob job ∧
      (∀ n, u.slice n = if r.first + r.width ≤ n ∧ n < r.first + w then ⟨.claimed q.grant, false, false⟩
        else p.slice n) ∧
      (u.tenant r.tenant).map (·.sticky) = some (t.sticky ||| x.faults) ∧
      u.alloc.reply = some ⟨tag, 0x22, ⟨.accepted, false, (Placed.mk q.grant ⟨r.first, w⟩ x.level x.profile
        (capacityOf .data w x.profile) x.faults [job.id] none).payload⟩, detached⟩ ∧
      (x.remedied = true → r.impaired = false →
        u.events.raised.getD r.tenant 0 &&& 8 = 8 ∧ .attempt q.grant ∈ u.alloc.work) := by
  intro p job hown
  obtain ⟨-, -, -, -, -, -, hraised, -, -⟩ := h.shaped
  have hg := Part.lt_of_grant h.grant
  have hexec := h.placed hj
  rw [hplace, h.data] at hexec
  obtain ⟨hself, hothers, hengine, hslices, htenants, hreply⟩ := Part.placingFlagged_fields (u := s.part.placingFlagged
    q.grant (growingGrant r (resizeFloor r q) x) ⟨r.first, w⟩ job r.tenant (t.faulted x.faults)
    (s.part.alloc.building ⟨tag, .resize q, detached⟩ rest ⟨.accepted, false,
      (Placed.mk q.grant ⟨r.first, w⟩ x.level x.profile (capacityOf .data w x.profile) x.faults [job.id] none).payload⟩)
    x.remedied) rfl hg
  have htenant := (Part.tenant_congr htenants r.tenant).trans (Part.tenant_setTenant_self _ h.tenant)
  refine ⟨_, hexec, hself, hothers, hengine, ?_, ?_, hreply, fun hflag hclear => ?_⟩
  · refine Part.slice_of_growth ?_ hown hopen
    rw [hslices, growingGrant, h.data]
  · rw [htenant]
    rfl
  · refine Part.placingFlagged_turn (r := growingGrant r (resizeFloor r q) x) rfl hg ?_ hflag hclear
    rw [hraised]
    exact h.tenantLt

end TakesGrow

/-- Settles O32: the width by the judgements in turn, and the placement of a grow that meets no fault. -/
theorem growWithoutFaultIsPlaced : Obligations.GrowWithoutFaultIsPlaced := by
  intro s tag detached q rest r t hshaped hwork hmay hlt hgrant hactive htlt ht hserving hdata hcls hfields hwider floor
  have htakes : s.TakesGrow tag detached q rest r t :=
    ⟨⟨hwork, hmay, hlt, hgrant, hactive, htlt, ht, hserving, hdata, hfields⟩, hshaped, hcls, hwider⟩
  refine ⟨fun x hx => ?_, fun hown hopen => ?_⟩
  · obtain ⟨hlo, hhi⟩ := Part.width_of_judgeGrow hcls hwider.le (leastGrown_le hfields hwider) hx
    obtain ⟨hpresent, hfloor⟩ := max_le_iff.mp hlo
    exact ⟨hpresent, hfloor, hhi⟩
  · intro prof cap hprof hroom hfits job
    have hacceptable := (Part.windowAcceptable_iff (by simp [hcls])).mpr hprof
    have hroom' : s.part.delivered r.tenant - r.capacity + s.part.arrivingCapacity r.tenant +
      capacityOf t.cls q.width prof ≤ t.ceiling := by rwa [hcls]
    have hjudge : s.part.judgeGrow q.grant r t q = .ok (s.part.trialAt t ⟨r.first, q.width⟩ r.level none) :=
      (Part.judgeGrow_of_capacity (Part.growFit_of_open hwider.le hopen) (judgeProfile_of_acceptable hacceptable)
        (Part.judgeCapacity_of_room hroom')).trans (Part.judgePower_of_fits (s.part.composite_grown q.grant _) hfits)
    have hplaced := htakes.placed hjudge
    have htenant : t.faulted (s.part.trialAt t ⟨r.first, q.width⟩ r.level none).faults = t := t.faulted_zero
    rw [hdata, htenant] at hplaced
    refine ⟨_, hplaced, Part.placing_sameTenant q.grant _ _ job _ ht, Part.slice_of_growth ?_ hown hopen⟩
    exact (Part.placing_slices ..).trans
      (congrArg (fun cls => claimSlices q.grant cls ⟨r.first, q.width⟩ s.part.slices) hdata)

end Sys2Proof.Machine
end

section
/-! The faults of a move and of a grow (R70 to R74, R78, R81): O28. -/

namespace Sys2Proof.Machine

/-- What a placed move leaves, field by field, the flags set where the PROFILE remedy was taken. -/
theorem State.TakesMove.placed_fields {s : State} {tag : Byte} {detached : Bool} {q : MoveFields} {rest : List Work}
    {r : Grant} {t : TenantRecord} (h : s.TakesMove tag detached q rest r t) {x : Trial}
    (hj : s.part.judgeMove q.grant r t q.target = .ok x) (hx : x.preempt = none)
    (hwindow : s.part.OpenWindow r.cls x.place) :
    let p := s.part
    let job := p.newJob q.grant .move (some x.place)
    ∃ u, exec .grantMoveTake s = .next { s with part := u } ∧
      u.grant q.grant = some { r with
        state := .moving, level := x.level
        impaired := r.impaired || x.remedied, relocationPending := r.relocationPending || x.remedied } ∧
      (∀ h, h ≠ q.grant → u.grant h = p.grant h) ∧ u.engine = p.engine.withJob job ∧
      p.claimedSince u q.grant r.cls x.place ∧ (u.tenant r.tenant).map (·.sticky) = some (t.sticky ||| x.faults) ∧
      u.alloc.reply = some ⟨tag, 0x21, ⟨.accepted, false, (Placed.mk q.grant x.place x.level x.profile
        (capacityOf r.cls x.place.width x.profile) x.faults [job.id] none).payload⟩, detached⟩ ∧
      (x.remedied = true → r.impaired = false →
        u.events.raised.getD r.tenant 0 &&& 8 = 8 ∧ .attempt q.grant ∈ u.alloc.work) := by
  intro p job
  obtain ⟨-, -, -, -, -, -, hraised, -, -⟩ := h.shaped
  have hg := Part.lt_of_grant h.grant
  obtain ⟨hself, hothers, hengine, hslices, htenants, hreply⟩ := Part.placingFlagged_fields (u := s.part.placingFlagged
    q.grant (movingGrant r x) x.place job r.tenant (s.part.movedTenant t r x)
    (s.part.alloc.building ⟨tag, .move q, detached⟩ rest ⟨.accepted, false, (Placed.mk q.grant x.place x.level x.profile
      (capacityOf r.cls x.place.width x.profile) x.faults [job.id] none).payload⟩) x.remedied) rfl hg
  have htenant := (Part.tenant_congr htenants r.tenant).trans (Part.tenant_setTenant_self _ h.tenant)
  refine ⟨_, h.placed_alone hj hx, hself, hothers, hengine, ?_, ?_, hreply, fun hflag hclear => ?_⟩
  · exact Part.claimedSince_of_claimSlices hslices hwindow.guards hwindow.carriers
  · rw [htenant]
    rfl
  · refine Part.placingFlagged_turn (r := movingGrant r x) rfl hg ?_ hflag hclear
    rw [hraised]
    exact h.tenantLt

/-- Settles O28: each fault of a move and of a grow by its judgement, the others having met none. -/
theorem moveAndGrowFaultsRefuseOrRemedy : Obligations.MoveAndGrowFaultsRefuseOrRemedy := by
  refine ⟨?_, ?_⟩
  · intro s tag detached q rest r t hshaped hwork hmay hlt hgrant hactive htlt ht hserving hcls hvoice htarget p order
      fitsAt refused placed
    have htakes : s.TakesMove tag detached q rest r t :=
      ⟨⟨hshaped, hlt, hgrant, hactive, htlt, ht, hcls, hvoice⟩, hwork, hmay, hserving, htarget⟩
    have hrefused : ∀ why faults, p.judgeMove q.grant r t q.target = .error (why, faults) → refused why faults :=
      fun why faults => htakes.refused
    have hplaced : ∀ (x : Trial) (c : Nat), x.preempt = none → x.place = ⟨c, r.width⟩ → c ∈ order →
        p.shapeOk t.cls r.width (some r) c = true → p.judgeMove q.grant r t q.target = .ok x →
        placed c x.profile x.level x.faults x.remedied := fun x c hx hplace hc hshape hj => by
      have hfields := htakes.placed_fields hj hx (hplace ▸ htakes.openWindow htarget hc hshape)
      rwa [hplace] at hfields
    refine ⟨fun hshape htwo => ?_, fun c hpass htwo hshape => ⟨fun hmask => ?_, fun hmask hfits => ?_⟩,
      fun c l hpass hl hover => ⟨fun hnone => ?_, fun v hmask hlo hhi hfit hhigher => ?_⟩⟩
    · exact hrefused _ _ (Part.judgeMove_of_fit_error (Part.moveFit_refused (Part.scan_of_no_shape hshape htwo)))
    · exact hrefused _ _ (Part.judgeMove_of_profile_error (Part.moveFit_of_shape (Part.scan_of_shape hpass htwo hshape))
        (judgeProfile_refused (Part.windowAcceptable_of_shape hpass hshape) rfl hmask))
    · exact hplaced _ c rfl rfl (List.mem_of_find?_eq_some hshape) (List.find?_some hshape)
        ((Part.judgeMove_of_profile (Part.moveFit_of_shape (Part.scan_of_shape hpass htwo hshape))
          (judgeProfile_remedied (Part.windowAcceptable_of_shape hpass hshape) rfl hmask)).trans
            (Part.judgePower_of_fits (p.composite_moved q.grant r _) hfits))
    all_goals
      obtain ⟨hshape, hacceptable⟩ := Part.passOne_iff.mp (List.find?_some hpass)
      have hjudge := (Part.judgeMove_of_profile (g := q.grant) (Part.moveFit_of_fit (Part.scan_of_passOne hpass))
        (judgeProfile_of_acceptable hacceptable))
    · exact hrefused _ _ (hjudge.trans (Part.judgePower_refused (p.composite_moved q.grant r _) hl hover rfl hnone))
    · exact hplaced _ c rfl rfl (List.mem_of_find?_eq_some hpass) hshape (hjudge.trans
        (Part.judgePower_remedied (p.composite_moved q.grant r _) hl hover rfl hmask hlo hhi hfit hhigher))
  · intro s tag detached q rest r t hshaped hwork hmay hlt hgrant hactive htlt ht hserving hdata hcls hfields hwider p
      floor least open_ profile total fitsAt levelFits refused placed
    have htakes : s.TakesGrow tag detached q rest r t :=
      ⟨⟨hwork, hmay, hlt, hgrant, hactive, htlt, ht, hserving, hdata, hfields⟩, hshaped, hcls, hwider⟩
    have hrefused : ∀ why faults, p.judgeGrow q.grant r t q = .error (why, faults) → refused why faults :=
      fun why faults => htakes.refused
    have hplaced : ∀ (x : Trial) (w : Nat), x.place = ⟨r.first, w⟩ → open_ w → p.judgeGrow q.grant r t q = .ok x →
        placed w x.profile x.level x.faults x.remedied := fun x w hplace hopen hj => htakes.placed_fields hj hplace hopen
    have hacceptable : ∀ w, profile w ≠ 0 → p.windowAcceptable t r.first w = true := fun w =>
      (Part.windowAcceptable_iff (by simp [hcls])).mpr
    have hunacceptable : ∀ w, profile w = 0 → p.windowAcceptable t r.first w = false := fun w hw =>
      Bool.eq_false_iff.mpr fun h => (Part.windowAcceptable_iff (by simp [hcls])).mp h hw
    have htotal : ∀ w prof, p.delivered r.tenant - r.capacity + p.arrivingCapacity r.tenant + capacityOf t.cls w prof =
        total w prof := fun w prof => by rw [hcls]
    have hroomed : ∀ (w : Nat) (x : Trial), x.place.width = w → total w x.profile ≤ t.ceiling →
        p.growCapacity r t q x = .ok x := fun w x hx hroom =>
      Part.judgeCapacity_of_room ((htotal _ _).trans_le (hx ▸ hroom))
    refine ⟨fun hshut => ⟨fun hnone => ?_, fun w hmask hlo hhi hopen hend hprof hroom hfits => ?_⟩,
      fun hopen => ⟨fun hprof => ⟨fun hmask => ?_, fun hmask hroom hfits => ?_⟩,
      fun hprof hover => ⟨fun hnone => ?_, fun w hmask hlo hhi hroom hwiderOver hfits => ?_⟩,
      fun hprof hroom l hl hover => ⟨fun hnone => ?_, fun v hmask hlo hhi hfit hhigher => ?_⟩⟩⟩
    · exact hrefused _ _ (Part.judgeGrow_of_fit_error (Part.growFit_refused hwider.le hshut hnone))
    · exact hplaced _ w rfl hopen ((Part.judgeGrow_of_capacity (Part.growFit_remedied hmask hlo hhi hopen hend)
        (judgeProfile_of_acceptable (hacceptable w hprof)) (hroomed w _ rfl hroom)).trans
          (Part.judgePower_of_fits (p.composite_grown q.grant _) hfits))
    all_goals have hfit₀ := Part.growFit_of_open (t := t) hwider.le hopen
    · exact hrefused _ _ (Part.judgeGrow_of_profile_error hfit₀ (judgeProfile_refused (hunacceptable _ hprof) rfl hmask))
    · have hremedied := judgeProfile_remedied (x := p.trialAt t ⟨r.first, q.width⟩ r.level none)
        (hunacceptable _ hprof) rfl hmask
      rw [if_neg (by simp [hcls])] at hremedied
      exact hplaced _ q.width rfl hopen ((Part.judgeGrow_of_capacity hfit₀ hremedied (hroomed q.width _ rfl hroom)).trans
        (Part.judgePower_of_fits (p.composite_grown q.grant _) hfits))
    all_goals
      have hprofile := judgeProfile_of_acceptable (t := t) (x := p.trialAt t ⟨r.first, q.width⟩ r.level none)
        (hacceptable _ hprof)
    · exact hrefused _ _ (Part.judgeGrow_of_capacity_error hfit₀ hprofile (Part.judgeCapacity_refused
        (hover.trans_eq (htotal _ _).symm) rfl (hnone.imp_right fun hnone => ⟨hcls, Nat.one_le_of_lt hwider,
          fun w hlo hhi => (hnone w hlo hhi).trans_eq (htotal _ _).symm⟩)))
    · exact hplaced _ w rfl (fun n hn hlt => hopen n hn (by omega)) ((Part.judgeGrow_of_capacity hfit₀ hprofile
        (Part.judgeCapacity_narrowed (hover.trans_eq (htotal _ _).symm) rfl hmask hcls hlo hhi
          ((htotal _ _).trans_le hroom) fun x hx hxq => (hwiderOver x hx hxq).trans_eq (htotal _ _).symm)).trans
            (Part.judgePower_of_fits (p.composite_grown q.grant _) hfits))
    all_goals
      have hjudge := Part.judgeGrow_of_capacity (g := q.grant) hfit₀ hprofile (hroomed q.width _ rfl hroom)
    · exact hrefused _ _ (hjudge.trans (Part.judgePower_refused (p.composite_grown q.grant _) hl hover rfl hnone))
    · exact hplaced _ q.width rfl hopen (hjudge.trans
        (Part.judgePower_remedied (p.composite_grown q.grant _) hl hover rfl hmask hlo hhi hfit hhigher))

end Sys2Proof.Machine
end

section
/-! Preemption (R68, R76, R78, R79): O29. -/

namespace Sys2Proof.Machine

theorem windowBottom_eq (cls : CarrierClass) (c : Nat) : windowBottom cls c = if cls = .voice then c - 1 else c := by
  cases cls <;> rfl

section Preemption

variable {p : Part} {t y : TenantRecord} {w c v g k width : Nat} {origin : Option Grant} {x r : Grant} {kind : JobKind}
  {relocation : Bool} {a : Allocator} {cls : CarrierClass}

theorem Part.preemptible_of_passTwo (h : p.passTwo t w origin c = some v) (hx : p.grant v = some x) :
    ∃ y, p.tenant x.tenant = some y ∧ p.preemptible t w origin c v x y := by
  obtain ⟨-, x', y, hx', hy, hpreemptible⟩ := Part.passTwo_eq_some.mp h
  cases hx.symm.trans hx'
  exact ⟨y, hy, hpreemptible⟩

/-- The grant that pass 2 names is an ACTIVE DATA grant, and its shrink to the window's bottom stays above its floor width
and its tenant's commitment (R68). -/
theorem Part.shrinkable_of_passTwo (h : p.passTwo t w origin c = some v) (hx : p.grant v = some x)
    (hwidth : windowBottom t.cls c - x.first = width) :
    x.cls = .data ∧ x.state = .active ∧ x.first ≤ windowBottom t.cls c ∧ x.floor.getD x.width ≤ width ∧
      (x.width ≠ 0 → width < x.width) ∧ ∃ y, p.tenant x.tenant = some y ∧ y.status ≠ .retiring ∧
        y.committed ≤ p.delivered x.tenant - x.capacity + capacityOf .data width x.profile := by
  obtain ⟨y, hy, hdata, hactive, hstands, hfloor, htop, -, -, -, hcommit⟩ := Part.preemptible_of_passTwo h hx
  subst hwidth
  exact ⟨hdata, hactive, by omega, by omega, fun _ => by omega, y, hy, hstands, hcommit⟩

theorem Part.preemptFor_eq (h : p.grant v = some x) (hwidth : windowBottom cls c - x.first = width) :
    p.preemptFor cls c (some v) = (p.shrunk v x width, some (p.newJob v .resize (some ⟨x.first, width⟩)).id,
      some (v, width)) := by
  subst hwidth
  exact Part.preemptFor_some h cls c

/-- The placement at a window once its item has left, its job waiting on the RESIZE job of the grant `v` that it
shrinks. -/
def Part.placingBehind (p : Part) (v : Nat) (x : Grant) (width g : Nat) (r : Grant) (c : Place) (kind : JobKind)
    (relocation : Bool) (k : Nat) (t : TenantRecord) (a : Allocator) : Part :=
  (p.dropFront.shrunk v x width).placing g r c ((p.dropFront.shrunk v x width).placedJob g kind c
    (some (p.dropFront.newJob v .resize (some ⟨x.first, width⟩)).id) relocation) k t a

/-- What a placement behind a shrink leaves of the grants, the jobs, the events and the map. -/
theorem Part.placingBehind_fields (hgv : g ≠ v) (hx : p.grant v = some x) (hraised : x.tenant < p.events.raised.length)
    (hvoice : r.cls = .voice → 1 ≤ c ∧ w = 1) :
    let u := p.placingBehind v x width g r ⟨c, w⟩ kind relocation k t a
    let job := p.newJob v .resize (some ⟨x.first, width⟩)
    u.grant v = some { x with state := .resizing } ∧ (∀ h, h ≠ g → h ≠ v → u.grant h = p.grant h) ∧
    u.engine = (p.engine.withJob job).withJob
      { ({ p with engine := p.engine.withJob job } : Part).newJob g kind (some ⟨c, w⟩) with
        after := some job.id, relocation := relocation } ∧
    u.events.raised.getD x.tenant 0 &&& 0x80 = 0x80 ∧
    (∀ n, (p.slice n).use = .granted v ∨ windowCovers r.cls c w n = false → u.slice n = p.slice n) ∧
    (∀ n, c ≤ n → n < c + w → (p.slice n).available = true → u.slice n = ⟨.claimed g, false, false⟩) ∧
    (r.cls = .voice → ∀ n, n + 1 = c ∨ n = c + 1 →
      ((p.slice n).available = true → u.slice n = ⟨.guard g none, false, false⟩) ∧
        ∀ b, (p.slice n).use = .guard b none → b ≠ g → u.slice n = { p.slice n with use := .guard b (some g) }) := by
  intro u job
  have hgrant : ∀ h, u.grant h = if h = g ∧ g < (p.dropFront.shrunk v x width).grants.length then some r
      else (p.setGrant v (some { x with state := .resizing })).grant h := Part.grant_placing _ g r _ _ k t a
  have hslice : ∀ n, u.slice n = claimEntry g r.cls ⟨c, w⟩ n (p.slice n) :=
    Part.slice_of_claimSlices (Part.placing_slices _ g r _ _ k t a)
  refine ⟨?_, fun h hhg hhv => ?_, Part.placing_engine _ g r _ _ k t a, ?_, fun n hn => ?_, fun n hlo hhi hopen => ?_,
    fun hcls n hn => ?_⟩
  · rw [hgrant, if_neg fun h => hgv h.1.symm, Part.grant_setGrant_self _ hx]
  · rw [hgrant, if_neg fun h => hhg h.1, Part.grant_setGrant_ne _ _ _ _ hhv]
  · simp only [u]
    rw [Part.placingBehind, Part.placing_raised, Part.shrunk, Part.raised_raise, if_pos rfl]
    · exact bitVec_or_and _ _
    · exact hraised
  · rw [hslice]
    rcases hn with hheld | hout
    · exact claimEntry_of_granted hheld
    · exact claimEntry_of_outside _ hvoice hout
  · rw [hslice, claimEntry_of_carrier hlo hhi hopen]
  · rw [hslice, hcls, claimEntry_of_guard _ (hvoice hcls).2 hn]
    exact ⟨fun hopen => SliceEntry.guardedBy_of_available hopen g,
      fun b hb hne => SliceEntry.guardedBy_of_guard hb hne⟩

/-- What it leaves of its own grant, of the Allocator and of the tenants. -/
theorem Part.placingBehind_own {t₀ : TenantRecord} {c : Place} (hg : g < p.grants.length) (ht : p.tenant k = some t₀) :
    let u := p.placingBehind v x width g r c kind relocation k t a
    u.grant g = some r ∧ u.alloc = a ∧ u.tenant k = some t ∧ ∀ h, h ≠ k → u.tenants[h]? = p.tenants[h]? := by
  have hlen : g < (p.dropFront.shrunk v x width).grants.length := by
    rwa [Part.shrunk, Part.raise_grants, List.length_set]
  have ht' : (p.dropFront.shrunk v x width).tenant k = some t₀ := ht
  refine ⟨?_, Part.placing_alloc .., Part.tenant_placing _ _ _ _ _ _ _ _ ht', fun h hh => ?_⟩
  · rw [Part.placingBehind, Part.grant_placing, if_pos ⟨rfl, hlen⟩]
  · rw [Part.placingBehind, Part.placing_tenants]
    exact (p.dropFront.shrunk v x width).getElem?_setTenant_ne t hh

end Preemption

/-- A grant that may be moved is not the one that pass 2 names for it: its class is not DATA. -/
theorem Part.Movable.ne_of_passTwo {p : Part} {g w c v : Nat} {r x : Grant} {t : TenantRecord} {origin : Option Grant}
    (h : p.Movable g r t) (hdata : t.cls ≠ .data) (hpasses : p.passTwo t w origin c = some v) (hx : p.grant v = some x) :
    g ≠ v := by
  rintro rfl
  cases h.grant.symm.trans hx
  obtain ⟨-, -, hcls, -⟩ := Part.preemptible_of_passTwo hpasses hx
  exact hdata (h.cls.trans hcls)

/-- Settles O29: the ask, the move and the attempt whose scan ends at the position of pass 2. -/
theorem preemptionShrinksGrant : Obligations.PreemptionShrinksGrant := by
  unfold Obligations.PreemptionShrinksGrant
  intro narrowed shrink waiting preempts roves chosen movesTo
  have hbottom : ∀ cls c x, windowBottom cls c - x.first = narrowed cls c x := fun cls c x => by rw [windowBottom_eq]
  have hpreempts : ∀ {p : Part} {t t' : TenantRecord} {origin : Option Grant} {g c w v k : Nat} {x r : Grant}
      {cls : CarrierClass} {kind : JobKind} {relocation : Bool} {a : Allocator}, p.shaped →
      p.passTwo t w origin c = some v → p.grant v = some x → g ≠ v → t.cls = cls → r.cls = cls →
      (cls = .voice → 1 ≤ c ∧ w = 1) →
      preempts p (p.placingBehind v x (narrowed cls c x) g r ⟨c, w⟩ kind relocation k t' a) cls g c w v x kind
        relocation := by
    rintro p t t' origin g c w v k x r cls kind relocation a hshaped htwo hx hgv hcls rfl hvoice
    obtain ⟨-, htenants, -, -, -, -, hraised, -, -⟩ := hshaped
    have hfacts := Part.shrinkable_of_passTwo htwo hx (hcls ▸ hbottom r.cls c x)
    have ⟨_, _, _, _, _, y, hy, _⟩ := hfacts
    have hlt : x.tenant < p.events.raised.length := by
      rw [hraised, ← htenants]
      exact Part.lt_of_tenant hy
    rw [hcls, windowBottom_eq] at hfacts
    exact ⟨hfacts, Part.placingBehind_fields hgv hx hlt hvoice⟩
  refine ⟨?_, ?_, ?_⟩
  · intro s tag detached q rest t d g c v x hshaped hwork hmay hlt ht hactive hd hfree hroom p w prof cap level
      ⟨hcls, hpass, htwo⟩ hx hceiling hfits
    have htakes : s.TakesAsk tag detached q rest t d g := ⟨hshaped, hwork, hmay, hlt, ht, hactive, hd, hfree, hroom⟩
    obtain ⟨hc, hpasses⟩ := Part.passTwo_of_preempting htwo
    obtain ⟨-, -, -, hstate, -, -, -, -, -, hacceptable, -⟩ := Part.preemptible_of_passTwo hpasses hx
    obtain ⟨hg, hnone⟩ := Part.grant_of_lowestFree hfree
    have hgv : g ≠ v := fun h => by
      rw [h, hx] at hnone
      cases hnone
    have hvoice : t.cls = .voice → 1 ≤ c ∧ w = 1 := fun hv =>
      ⟨Part.one_le_of_mem_scanOrder (askWidth_of_direction hd).1 hc hv, (askWidth_of_direction hd).2.1 hv⟩
    have hjudge : p.judgeAsk q.tenant t d q = .ok (p.trialAt t ⟨c, w⟩ level (some v)) :=
      (Part.judgeAsk_of_capacity (Part.askFit_of_fit (Part.scan_of_passTwo hpass hcls htwo))
        (judgeProfile_of_acceptable hacceptable) (Part.judgeCapacity_of_room hceiling)).trans
          (Part.judgePower_of_fits (p.composite_placed _) hfits)
    have hplaced := htakes.placed hjudge (Part.preemptFor_eq (p := p.dropFront) hx (hbottom t.cls c x))
      (Part.preparing_shrunk hx hstate hgv _) rfl
    have htenant : p.askedTenant t d g (p.trialAt t ⟨c, w⟩ level (some v)) =
        { t with grants := t.grants ++ [g] }.roved d (p.roverPast t.scan d ⟨c, w⟩) := TenantRecord.faulted_zero _
    rw [htenant] at hplaced
    exact ⟨p.placingBehind v x (narrowed t.cls c x) g (arrivingGrant q.tenant t d (askFloor t.cls q) _) ⟨c, w⟩ .activate
      false q.tenant _ _, hplaced, hpreempts hshaped hpasses hx hgv rfl rfl hvoice, Part.placingBehind_own hg ht⟩
  · intro s tag detached q rest r x t c v hshaped hwork hmay hlt hgrant hactive htlt ht hserving hcls hvoice htarget p prof
      ⟨hdata, hpass, htwo⟩ hx hfits
    have htakes : s.TakesMove tag detached q rest r t :=
      ⟨⟨hshaped, hlt, hgrant, hactive, htlt, ht, hcls, hvoice⟩, hwork, hmay, hserving, htarget⟩
    obtain ⟨hc, hpasses⟩ := Part.passTwo_of_preempting htwo
    obtain ⟨-, -, -, hstate, -, -, -, -, -, hacceptable, -⟩ := Part.preemptible_of_passTwo hpasses hx
    have hgv := htakes.ne_of_passTwo hdata hpasses hx
    have hjudge : p.judgeMove q.grant r t q.target = .ok (p.trialAt t ⟨c, r.width⟩ r.level (some v)) :=
      (Part.judgeMove_of_profile (Part.moveFit_of_fit (Part.scan_of_passTwo hpass hdata htwo))
        (judgeProfile_of_acceptable hacceptable)).trans (Part.judgePower_of_fits (p.composite_moved q.grant r _) hfits)
    have hplaced := htakes.placed hjudge (Part.preemptFor_eq (p := p.dropFront) hx (hbottom r.cls c x))
      (Part.preparing_shrunk hx hstate hgv _) rfl
    have htenant : p.movedTenant t r (p.trialAt t ⟨c, r.width⟩ r.level (some v)) =
        t.roved r.dir (p.roverPast t.scan r.dir ⟨c, r.width⟩) := TenantRecord.faulted_zero _
    rw [htenant] at hplaced
    exact ⟨p.placingBehind v x (narrowed r.cls c x) q.grant { r with state := .moving } ⟨c, r.width⟩ .move false r.tenant
      _ _, hplaced, hpreempts hshaped hpasses hx hgv hcls rfl fun hv => ⟨htakes.one_le htarget hc hv, hvoice hv⟩,
      Part.placingBehind_own (Part.lt_of_grant hgrant) ht⟩
  · intro s g c v rest r x t hshaped hwork hmay hlt hgrant hpending hactive htlt ht hstands hcls hvoice p
      ⟨hdata, hpass, htwo⟩ hx hfits
    have htakes : s.TakesAttempt g rest r t :=
      ⟨⟨hshaped, hlt, hgrant, hactive, htlt, ht, hcls, hvoice⟩, hwork, hmay, hpending, hstands⟩
    obtain ⟨hc, hpasses⟩ := Part.passTwo_of_preempting htwo
    obtain ⟨-, -, -, hstate, -⟩ := Part.preemptible_of_passTwo hpasses hx
    have hgv := htakes.ne_of_passTwo hdata hpasses hx
    have hplaced := htakes.placed (Part.scan_of_passTwo hpass hdata htwo) hfits
      (Part.preemptFor_eq (p := p.dropFront) hx (hbottom r.cls c x)) (Part.preparing_shrunk hx hstate hgv _) rfl
    exact ⟨p.placingBehind v x (narrowed r.cls c x) g { r with state := .moving } ⟨c, r.width⟩ .move true r.tenant _ _,
      hplaced, hpreempts hshaped hpasses hx hgv hcls rfl fun hv => ⟨htakes.one_le (target := none) nofun hc hv, hvoice hv⟩,
      Part.placingBehind_own (Part.lt_of_grant hgrant) ht⟩

end Sys2Proof.Machine
end

section
/-! GRANT_LEVEL that passes its checks (5.7): O37. -/

namespace Sys2Proof.Machine

/-! ### The levels that an increase tries (R95) -/

theorem levelsDown_eq (lo hi : Int) :
    levelsDown lo hi = (List.range ((hi - lo).toNat + 1)).map fun i : Nat => hi - i := by
  simp [levelsDown, ← List.map_eq_flatMap, Function.comp_def]

theorem mem_levelsDown {lo hi v : Int} (h : lo ≤ hi) : v ∈ levelsDown lo hi ↔ lo ≤ v ∧ v ≤ hi := by
  simp only [levelsDown_eq, List.mem_map, List.mem_range]
  constructor
  · rintro ⟨i, hlt, rfl⟩
    omega
  · rintro ⟨hlo, hhi⟩
    exact ⟨(hi - v).toNat, by omega, by omega⟩

theorem levelsDown_sorted (lo hi : Int) : (levelsDown lo hi).Pairwise fun a b => b < a := by
  rw [levelsDown_eq]
  refine List.pairwise_map.mpr (List.pairwise_lt_range.imp fun {a b} hab => ?_)
  omega

theorem Part.levelFits_iff {p : Part} {g : Nat} {r : Grant} {v : Int} : p.levelFits g r v = true ↔
    p.level.overCap = false ∧ p.composite - p.contribution g + p.carrierWeight v ⟨r.first, r.width⟩ ≤ p.level.cap := by
  simp only [Part.levelFits, Part.fits, Bool.and_eq_true, Bool.not_eq_true', decide_eq_true_eq]

/-! ### The grant at its new level -/

theorem Part.applyGrantLevel_eq {p : Part} {g : Nat} {r : Grant} (h : p.grant g = some r) (v : Int)
    (remedies : FaultSet) : p.applyGrantLevel g v remedies = ((p.setGrant g (some { r with level := some v })).capTest,
      doneWith [signedByte v, remedies.setWidth 8]) := by
  simp only [Part.applyGrantLevel, Part.setLevel, h]
  rfl

/-- A change of level, with the sticky fault of the tenant or without, turns no tenant below its commitment. -/
theorem Part.commitTest_relevelled {p q : Part} {g : Nat} {r : Grant} {t t' : TenantRecord} (hr : p.grant g = some r)
    (ht : p.tenant r.tenant = some t) (htenants : q.tenants = (p.setTenant r.tenant t').tenants)
    (hgrants : q.grants = p.grants) (hc : t'.committed = t.committed) (v : Int) :
    p.commitTest (q.setGrant g (some { r with level := some v })).capTest =
      (q.setGrant g (some { r with level := some v })).capTest := by
  refine Part.commitTest_of_delivered ht (t' := t') ?_ hc (Part.delivered_of_set (g := g)
    (x := some { r with level := some v }) ?_ fun k => ?_)
  · rw [Part.capTest_tenants, Part.setGrant_tenants, htenants]
  · rw [Part.capTest_grants, Part.setGrant_grants, hgrants]
  · rw [hr]
    rfl

/-! ### The request that passes its checks (R94, R95) -/

/-- GRANT_LEVEL of an ACTIVE forward grant whose tenant is ACTIVE, with a level in range. -/
structure State.ServesLevel (s : State) (tag : Byte) (q : LevelFields) (r : Grant) (t : TenantRecord)
    (old : Int) : Prop where
  awaits : s.awaits (.grantLevel tag (some q)) tag
  grant : s.part.grant q.grant = some r
  tenant : s.part.tenant r.tenant = some t
  passes : s.part.levelRefusal q = none
  level : r.level = some old

section ServesLevel

variable {s : State} {tag : Byte} {q : LevelFields} {r : Grant} {t : TenantRecord} {old : Int}

theorem State.ServesLevel.exec_eq (h : s.ServesLevel tag q r t old) {u : Part} {reply : Reply}
    (hu : Part.changeLevel q s.part = (u, reply)) (hkept : s.part.commitTest u = u) :
    exec (.grantLevel tag (some q)) s = .next (s.answers (.grantLevel tag (some q)) tag 0x30 reply u) := by
  change s.serve (.grantLevel tag (some q)) tag 0x30 (Part.changeLevel q) = _
  rw [State.serve_of_awaits 0x30 _ h.awaits, hu, hkept]

/-- A level that is no increase, or that fits, is taken. -/
theorem State.ServesLevel.changed (h : s.ServesLevel tag q r t old)
    (hv : q.level ≤ old ∨ s.part.levelFits q.grant r q.level = true) :
    exec (.grantLevel tag (some q)) s = .next (s.answers (.grantLevel tag (some q)) tag 0x30
      (doneWith [signedByte q.level, (0 : FaultSet).setWidth 8])
      (s.part.setGrant q.grant (some { r with level := some q.level })).capTest) := by
  refine h.exec_eq ?_ (Part.commitTest_relevelled h.grant h.tenant (by rw [Part.setTenant_self h.tenant]) rfl rfl _)
  rw [← Part.applyGrantLevel_eq h.grant]
  simp only [Part.changeLevel, h.passes, h.grant, h.level, Option.getD_some]
  rw [if_pos (by simpa using hv)]

/-- An increase that does not fit goes to the highest level that does, where POWER is masked and there is one, and is
refused otherwise; the sticky flag is set either way. -/
theorem State.ServesLevel.changeLevel_of_fault (h : s.ServesLevel tag q r t old) (hv : old < q.level)
    (hfits : s.part.levelFits q.grant r q.level = false) {lower : Option Int}
    (hlower : (if t.mask &&& 8 ≠ 0 then (levelsDown old q.level).find? (s.part.levelFits q.grant r) else none) =
      lower) : Part.changeLevel q s.part =
      let faulted := s.part.setTenant r.tenant (t.faulted 8)
      (lower.map fun v => faulted.applyGrantLevel q.grant v 8).getD (faulted, ⟨.power, false, [8]⟩) := by
  have hmasked : (s.part.tenant r.tenant).any (fun t => FaultClass.power.maskedBy t.mask) = true ↔
      t.mask &&& 8 ≠ 0 := by
    rw [h.tenant, Option.any_some, FaultClass.maskedBy, bne_iff_ne]
    rfl
  have hfind : (if (s.part.tenant r.tenant).any (fun t => FaultClass.power.maskedBy t.mask) then
      (levelsDown old q.level).find? (s.part.levelFits q.grant r) else none) = lower := by
    simp only [hmasked, hlower]
  simp only [Part.changeLevel, h.passes, h.grant, h.level, Option.getD_some]
  rw [if_neg (by simp [hfits, hv]), hfind, show FaultClass.power.bit = 8 from rfl, Part.setSticky_eq h.tenant]
  cases lower <;> rfl

theorem State.ServesLevel.refused (h : s.ServesLevel tag q r t old) (hv : old < q.level)
    (hfits : s.part.levelFits q.grant r q.level = false)
    (hnone : t.mask &&& 8 = 0 ∨ s.part.level.overCap = true) :
    exec (.grantLevel tag (some q)) s = .next (s.answers (.grantLevel tag (some q)) tag 0x30 ⟨.power, false, [8]⟩
      (s.part.setTenant r.tenant (t.faulted 8))) := by
  refine h.exec_eq ((h.changeLevel_of_fault hv hfits (lower := none) ?_).trans rfl)
    (Part.commitTest_of_delivered h.tenant rfl rfl (Part.delivered_congr rfl))
  rcases hnone with hm | hover
  · rw [if_neg (not_not.mpr hm)]
  · rw [ite_eq_right_iff, List.find?_eq_none]
    intro _ v _ hfit
    simp [(Part.levelFits_iff.mp hfit).1] at hover

theorem State.ServesLevel.remedied (h : s.ServesLevel tag q r t old) {v : Int} (hlo : old ≤ v) (hhi : v < q.level)
    (hm : t.mask &&& 8 ≠ 0) (hfit : s.part.levelFits q.grant r v = true)
    (hhigher : ∀ w, v < w → w ≤ q.level → s.part.levelFits q.grant r w = false) :
    exec (.grantLevel tag (some q)) s = .next (s.answers (.grantLevel tag (some q)) tag 0x30
      (doneWith [signedByte v, (8 : FaultSet).setWidth 8])
      ((s.part.setTenant r.tenant (t.faulted 8)).setGrant q.grant (some { r with level := some v })).capTest) := by
  have hle : old ≤ q.level := by omega
  have hlower : (levelsDown old q.level).find? (s.part.levelFits q.grant r) = some v :=
    find?_eq_some_of_pairwise (levelsDown_sorted old q.level) ((mem_levelsDown hle).mpr ⟨hlo, hhi.le⟩) hfit
      fun w hw hvw => hhigher w hvw ((mem_levelsDown hle).mp hw).2
  have hfaulted := h.changeLevel_of_fault (by omega) (hhigher q.level hhi le_rfl) (by rw [if_pos hm, hlower])
  exact h.exec_eq (hfaulted.trans (Part.applyGrantLevel_eq (p := s.part.setTenant r.tenant (t.faulted 8)) h.grant v 8))
    (Part.commitTest_relevelled h.grant h.tenant (t' := t.faulted 8) rfl rfl rfl v)

end ServesLevel

/-- Settles O37: the level is taken, refused, or lowered to the highest that fits. -/
theorem levelChangeOutcomes : Obligations.LevelChangeOutcomes := by
  intro s tag q r t old hawaits hlt hgrant htlt ht hactive hdir hstate hlevel hmin hmax at_ becomes sticky refused
  have hpasses : s.part.levelRefusal q = none := by
    rw [Part.levelRefusal_of_used (Part.grantRefusal_of_used hlt hgrant) hgrant,
      Part.placementRefusal_of_active htlt ht hactive]
    simp [hdir, hstate, Int.not_lt.mpr hmin, Int.not_lt.mpr hmax]
  have hserves : s.ServesLevel tag q r t old := ⟨hawaits, hgrant, ht, hpasses, hlevel⟩
  have hnofit : ∀ {v : Int}, s.part.level.overCap = true ∨ s.part.level.cap < at_ v →
      s.part.levelFits q.grant r v = false := fun hv => Bool.eq_false_iff.mpr fun hfit => by
    obtain ⟨hclear, hle⟩ := Part.levelFits_iff.mp hfit
    rcases hv with hover | hover
    · simp [hclear] at hover
    · exact absurd hle (Nat.not_le.mpr hover)
  refine ⟨fun hle => hserves.changed (.inl hle), fun hover hv => hserves.refused hv (hnofit (.inl hover)) (.inr hover),
    fun hclear hv => ⟨fun hfit => hserves.changed (.inr (Part.levelFits_iff.mpr ⟨hclear, hfit⟩)),
      fun hover hm => hserves.refused hv (hnofit (.inr hover)) (.inl hm), fun v hlo hhi hfit hhigher hm => ?_⟩⟩
  exact hserves.remedied hlo hhi hm (Part.levelFits_iff.mpr ⟨hclear, hfit⟩) fun w hvw hw =>
    hnofit (.inr (hhigher w hvw hw))

end Sys2Proof.Machine
end

section
/-! The weights of levels, what each grant counts, and the composite (5.4, 5.5): O38. -/

namespace Sys2Proof.Machine

/-! ### The weight of a level (R86) -/

theorem frac_rounds_root : ∀ r, r < 12 →
    (2 * fracTable.getD r 0 - 1) ^ 12 < 512 ^ 12 * 2 ^ r ∧ 512 ^ 12 * 2 ^ r < (2 * fracTable.getD r 0 + 1) ^ 12 := by
  decide

/-- FRAC runs from 256, at the remainder 0, to 483. -/
theorem frac_bounds : ∀ r, r < 12 → 256 ≤ fracTable.getD r 0 ∧ fracTable.getD r 0 ≤ 483 := by decide

theorem clamped_eq_quotient (l : Int) : ∃ (q : Int) (r : Nat), max (-96) (min 48 l) = 12 * q + r ∧ r < 12 :=
  ⟨max (-96) (min 48 l) / 12, (max (-96) (min 48 l) % 12).toNat, by omega, by omega⟩

/-- The weight of an input that the clamp brings to 12·q + r. -/
theorem weight_eq {l q : Int} {r : Nat} (h : max (-96) (min 48 l) = 12 * q + r) (hr : r < 12) :
    weight l = if 0 ≤ q then fracTable.getD r 0 * 2 ^ q.toNat else fracTable.getD r 0 / 2 ^ (-q).toNat := by
  have hq : clampLevel l / 12 = q := by unfold clampLevel; omega
  have hmod : (clampLevel l % 12).toNat = r := by unfold clampLevel; omega
  simp only [weight, hq, hmod, Nat.shiftLeft_eq, Nat.shiftRight_eq_div_pow]

/-- The floor quotient of the clamped level by 12 runs from −8 to 4, and reaches 4 only with the remainder 0. -/
theorem weight_bounds (l : Int) : 1 ≤ weight l ∧ weight l ≤ 4096 := by
  obtain ⟨q, r, h, hr⟩ := clamped_eq_quotient l
  obtain ⟨hlo, hhi⟩ := frac_bounds r hr
  rw [weight_eq h hr]
  split
  · next hq =>
    have hpos : 1 ≤ 2 ^ q.toNat := Nat.one_le_two_pow
    refine ⟨by nlinarith, ?_⟩
    rcases (by omega : q.toNat = 4 ∧ r = 0 ∨ q.toNat ≤ 3) with ⟨hq4, rfl⟩ | hq3
    · rw [hq4]
      decide
    · calc fracTable.getD r 0 * 2 ^ q.toNat ≤ 483 * 2 ^ 3 := Nat.mul_le_mul hhi (Nat.pow_le_pow_right (by omega) hq3)
        _ ≤ 4096 := by norm_num
  · next hq =>
    have hpow : 2 ^ (-q).toNat ≤ 2 ^ 8 := Nat.pow_le_pow_right (by omega) (by omega)
    exact ⟨(Nat.one_le_div_iff (Nat.two_pow_pos _)).mpr (by omega), (Nat.div_le_self _ _).trans (by omega)⟩

theorem weight_of_low {l : Int} (h : l ≤ -96) : weight l = 1 := by
  rw [weight_eq (q := -8) (r := 0) (by omega) (by omega)]
  rfl

theorem weight_of_high {l : Int} (h : 48 ≤ l) : weight l = 4096 := by
  rw [weight_eq (q := 4) (r := 0) (by omega) (by omega)]
  rfl

/-! ### The tilt offset (R87) -/

theorem Part.offset_of_return {p : Part} {n : Nat} (h : n < p.split) : p.offset n = 0 := by
  rw [Part.offset, if_pos h]

theorem Part.offset_of_forward {p : Part} {n : Nat} (h : p.split ≤ n) :
    p.offset n = p.level.slope * ((n : Int) - p.level.pivot) / 256 := by
  rw [Part.offset, if_neg (Nat.not_lt.mpr h), tiltOffset]

/-- The greatest slope over the greatest distance from the pivot stays within a signed byte. -/
theorem tiltOffset_bounds {slope pivot n : Nat} (hs : slope ≤ 32) (hp : pivot ≤ 1023) (hn : n ≤ 1023) :
    -128 ≤ tiltOffset slope pivot n ∧ tiltOffset slope pivot n ≤ 127 := by
  have hlo : (slope : Int) * (-1023) ≤ slope * ((n : Int) - pivot) := mul_le_mul_of_nonneg_left (by omega) (by omega)
  have hhi : (slope : Int) * ((n : Int) - pivot) ≤ slope * 1023 := mul_le_mul_of_nonneg_left (by omega) (by omega)
  unfold tiltOffset
  omega

/-! ### What a grant counts (R88, R90) -/

theorem Part.contribution_of_free {p : Part} {g : Nat} (h : p.grant g = none) : p.contribution g = 0 := by
  simp only [Part.contribution, h]

theorem Part.contribution_of_return {p : Part} {g : Nat} {r : Grant} (h : p.grant g = some r) (hd : r.dir = .ret) :
    p.contribution g = 0 := by
  simp only [Part.contribution, h, hd]

theorem Part.contribution_of_forward {p : Part} {g : Nat} {r : Grant} (h : p.grant g = some r) (hd : r.dir = .forward) :
    p.contribution g = p.carriersWeight (r.level.getD 0) (r.counted (p.jobOf g)) := by
  simp only [Part.contribution, h, hd]

/-- Only a MOVING, RESIZING or LEAVING grant with a destination counts more than its own carrier. -/
theorem Grant.counted_own {r : Grant} {job : Option Job}
    (h : r.state = .arriving ∨ r.state = .active ∨ ∀ j d, job = some j → j.dest ≠ some d) :
    r.counted job = [⟨r.first, r.width⟩] := by
  rcases h with h | h | h
  · simp only [Grant.counted, h]
  · simp only [Grant.counted, h]
  · have hdest : job.bind (·.dest) = none := by
      rw [Option.bind_eq_none_iff]
      exact fun j hj => Option.eq_none_iff_forall_ne_some.mpr (h j · hj)
    cases hs : r.state <;> simp only [Grant.counted, hs, hdest]

theorem Grant.counted_moving {r : Grant} {j : Job} {d : Place} (hs : r.state = .moving) (hd : j.dest = some d) :
    r.counted (some j) = [⟨r.first, r.width⟩, d] := by
  simp only [Grant.counted, hs, Option.bind_some, hd]

theorem Grant.counted_resizing {r : Grant} {j : Job} {d : Place} (hs : r.state = .resizing) (hd : j.dest = some d) :
    r.counted (some j) = [⟨r.first, max r.width d.width⟩] := by
  simp only [Grant.counted, hs, Option.bind_some, hd]

theorem Grant.counted_leaving {r : Grant} {j : Job} {d : Place} (hs : r.state = .leaving) (hd : j.dest = some d) :
    r.counted (some j) =
      if j.queuedAs = .move then [⟨r.first, r.width⟩, d] else [⟨r.first, max r.width d.width⟩] := by
  simp only [Grant.counted, hs, Option.bind_some, hd, Option.any_some, beq_iff_eq]

/-! ### The composite (R89, R91) -/

/-- The weight of the fill that a map entry leaves on slice `n` (R89). -/
def Part.fillWeight (p : Part) (n : Nat) (e : SliceEntry) : Nat :=
  match e.use with
  | .parked _ fill => weight (fill + p.offset n)
  | _ => 0

theorem Part.fillsWeight_eq_sum (p : Part) (es : List SliceEntry) (n : Nat) : p.fillsWeight n es =
    ((List.range es.length).map fun i => p.fillWeight (n + i) (es.getD i ⟨.crossover, false, false⟩)).sum := by
  induction es generalizing n with
  | nil => rfl
  | cons e es ih =>
    rw [List.length_cons, List.range_succ_eq_map, List.map_cons, List.map_map, List.sum_cons]
    simp only [Part.fillsWeight, ih, Function.comp_def, List.getD_cons_zero, List.getD_cons_succ, Nat.add_zero,
      Nat.succ_eq_add_one, Nat.add_right_comm n 1, Nat.add_assoc]
    rfl

theorem Part.composite_eq_sums (p : Part) : p.composite = ((List.range 96).map p.contribution).sum +
    ((List.range p.slices.length).map fun n => p.fillWeight n (p.slice n)).sum := by
  simp only [Part.composite, Part.fillsWeight_eq_sum, Nat.zero_add, Part.slice]

/-- Settles O38: the table and the shifts, the floor of the tilt, the carriers by state, and the two sums. -/
theorem weightsMakeTheComposite : Obligations.WeightsMakeTheComposite := by
  refine ⟨frac_rounds_root, fun l => ?_, fun p => ⟨fun n => Part.offset_of_return, fun n hn => ?_,
    fun g => Part.contribution_of_free, fun g r hg => ?_, p.composite_eq_sums⟩⟩
  · obtain ⟨q, r, h, hr⟩ := clamped_eq_quotient l
    refine ⟨q, r, h, hr, fun hq => ?_, fun hq => ?_, (weight_bounds l).1, (weight_bounds l).2, weight_of_low,
      weight_of_high, fun hl => by rw [hl]; rfl⟩
    · rw [weight_eq h hr, if_pos hq]
      rfl
    · rw [weight_eq h hr, if_neg (Int.not_le.mpr hq)]
      rfl
  · refine ⟨_, Part.offset_of_forward hn, by omega, by omega, fun hs hp hn => tiltOffset_bounds hs hp hn, fun hs => ?_⟩
    rw [hs]
    simp
  · intro charge job
    refine ⟨Part.contribution_of_return hg, fun hd => ?_⟩
    have hcounts := Part.contribution_of_forward hg hd
    refine ⟨fun hown => ?_, fun j d (hj : p.jobOf g = some j) hdest => ?_⟩
    · rw [hcounts, Grant.counted_own hown, Part.carriersWeight_one]
      rfl
    · rw [hj] at hcounts
      refine ⟨fun hs => ?_, fun hs => ?_, fun hs => ?_⟩
      · rw [hcounts, Grant.counted_moving hs hdest, Part.carriersWeight_two]
        rfl
      · rw [hcounts, Grant.counted_resizing hs hdest, Part.carriersWeight_one]
        rfl
      · rw [hcounts, Grant.counted_leaving hs hdest]
        split
        · rw [Part.carriersWeight_two]
          rfl
        · rw [Part.carriersWeight_one]
          rfl

end Sys2Proof.Machine
end

section
/-! Profiles, capacities and smoothing (5.1 to 5.3, R131, R138): O39. -/

namespace Sys2Proof.Machine

/-! ### The profile at an effective SNR (R83, R84) -/

theorem profileThreshold_eq (p : Nat) : profileThreshold p = [0, 40, 68, 92, 116, 140, 164].getD p 0 := by
  rcases p with _ | _ | _ | _ | _ | _ | _ | _ <;> rfl

/-- Profile 1 has the lowest threshold. -/
theorem le_profileThreshold {p : Nat} (h0 : p ≠ 0) (h6 : p ≤ 6) : 40 ≤ profileThreshold p := by
  have hall : ∀ v, v < 7 → v ≠ 0 → 40 ≤ profileThreshold v := by decide
  exact hall p (by omega) h0

/-- The first that a test passes, in a list that falls, is the greatest that it passes. -/
theorem le_of_find?_eq_some {l : List Nat} (hl : l.Pairwise (· > ·)) {f : Nat → Bool} {v b : Nat}
    (h : l.find? f = some v) (hb : b ∈ l) (hf : f b = true) : b ≤ v := by
  obtain ⟨-, before, after, rfl, hbefore⟩ := List.find?_eq_some_iff_append.mp h
  obtain ⟨-, hl, -⟩ := List.pairwise_append.mp hl
  rcases List.mem_append.mp hb with hmem | hmem
  · simpa [hf] using hbefore b hmem
  · rcases List.mem_cons.mp hmem with rfl | hmem
    · exact le_rfl
    · exact (List.rel_of_pairwise_cons hl hmem).le

/-- The profiles are tried from 6 downward: the one selected is the highest up to the limit that the SNR supports. -/
theorem selectProfile_spec {most : Nat} (e : Nat) (h6 : most ≤ 6) :
    selectProfile most e ≤ most ∧ (selectProfile most e ≠ 0 → profileThreshold (selectProfile most e) ≤ e) ∧
      ∀ p, 1 ≤ p → p ≤ most → profileThreshold p ≤ e → p ≤ selectProfile most e := by
  have hmem : ∀ p, 1 ≤ p → p ≤ most → p ∈ [6, 5, 4, 3, 2, 1] := fun p h1 hp => by
    simp only [List.mem_cons, List.not_mem_nil, or_false]
    omega
  unfold selectProfile
  cases hf : [6, 5, 4, 3, 2, 1].find? fun p => p ≤ most && profileThreshold p ≤ e with
  | none =>
    refine ⟨Nat.zero_le _, fun h => absurd rfl h, fun p h1 hp he => ?_⟩
    exact absurd (List.find?_eq_none.mp hf p (hmem p h1 hp)) (by simp [hp, he])
  | some v =>
    obtain ⟨hv, hve⟩ : v ≤ most ∧ profileThreshold v ≤ e := by simpa using List.find?_some hf
    exact ⟨hv, fun _ => hve, fun p h1 hp he =>
      le_of_find?_eq_some (by decide) hf (hmem p h1 hp) (by simp [hp, he])⟩

theorem runningProfile_eq (cls : CarrierClass) (most e : Nat) :
    runningProfile cls most e = if cls = .video then most else selectProfile most e := by
  cases cls <;> rfl

/-- Some profile is selected from 40 steps on. -/
theorem selectProfile_ne_zero_iff {most e : Nat} (h1 : 1 ≤ most) (h6 : most ≤ 6) :
    selectProfile most e ≠ 0 ↔ 40 ≤ e := by
  obtain ⟨hle, hthreshold, hhighest⟩ := selectProfile_spec e h6
  constructor
  · exact fun h => (le_profileThreshold h (hle.trans h6)).trans (hthreshold h)
  · exact fun h => Nat.one_le_iff_ne_zero.mp (hhighest 1 le_rfl h1 h)

theorem profileAcceptable_iff (cls : CarrierClass) {most e : Nat} (h1 : 1 ≤ most) (h6 : most ≤ 6) :
    profileAcceptable cls most e = true ↔ if cls = .video then profileThreshold most ≤ e else 40 ≤ e := by
  have hselected := selectProfile_ne_zero_iff (e := e) h1 h6
  cases cls with
  | video => simp [profileAcceptable]
  | voice => simpa [profileAcceptable] using hselected
  | data => simpa [profileAcceptable] using hselected

/-! ### The effective SNR of a window (R83) -/

/-- The effective SNR is that of the lowest slice of the window, less the margin. -/
theorem Part.effectiveSnr_window {p : Part} (hsnr : ∀ n, p.snr n ≤ 255) (margin c : Nat) {w : Nat} (hw : 1 ≤ w) :
    ∃ n, (c ≤ n ∧ n < c + w ∧ p.effectiveSnr margin (List.range' c w) = p.snr n - margin) ∧
      ∀ k, c ≤ k → k < c + w → p.effectiveSnr margin (List.range' c w) ≤ p.snr k - margin := by
  have hne : (List.range' c w).map p.snr ≠ [] := by
    rw [Ne, List.map_eq_nil_iff, List.range'_eq_nil_iff]
    omega
  obtain ⟨n, hn, hmin⟩ := List.mem_map.mp (List.min_mem hne)
  have heff : p.effectiveSnr margin (List.range' c w) = p.snr n - margin := by
    rw [Part.effectiveSnr, List.foldl_min_eq_min hne, ← hmin, Nat.min_eq_right (hsnr n)]
  refine ⟨n, ⟨(List.mem_range'_1.mp hn).1, (List.mem_range'_1.mp hn).2, heff⟩, fun k hlo hhi => ?_⟩
  have hk : p.snr k ∈ (List.range' c w).map p.snr := List.mem_map_of_mem (List.mem_range'_1.mpr ⟨hlo, hhi⟩)
  rw [heff, hmin]
  exact Nat.sub_le_sub_right (List.min_le_of_mem hk) margin

theorem Part.snr_le {p : Part} (ha : p.level.assumedSnr ≤ 255) (hq : ∀ n, ∀ v ∈ (p.qualityOf n).smoothed, v ≤ 255)
    (n : Nat) : p.snr n ≤ 255 := by
  change (p.qualityOf n).smoothed.getD p.level.assumedSnr ≤ 255
  cases hs : (p.qualityOf n).smoothed with
  | none => exact ha
  | some v => exact hq n v hs

/-- The judgement of a place (R138): a marked slice, or a profile that is not acceptable. -/
theorem Part.placeBad_iff (p : Part) (cls : CarrierClass) (t : TenantRecord) (c : Place) :
    p.placeBad cls t c = true ↔ (∃ k, c.first ≤ k ∧ k < c.first + c.width ∧ (p.slice k).impaired = true) ∨
      ¬profileAcceptable cls t.maxProfile (p.effectiveSnr t.margin (List.range' c.first c.width)) = true := by
  simp only [Part.placeBad, Bool.or_eq_true, List.any_eq_true, List.mem_range'_1, Bool.not_eq_true', Bool.not_eq_true,
    and_assoc]

/-! ### The capacity of a carrier (R85) -/

theorem bitsPerSymbol_eq {p : Nat} (h : p ≤ 6) : bitsPerSymbol p = 2 * p := by
  have hall : ∀ v, v < 7 → bitsPerSymbol v = 2 * v := by decide
  exact hall p (by omega)

theorem bitsPerSymbol_le (p : Nat) : bitsPerSymbol p ≤ 12 := by
  unfold bitsPerSymbol
  split <;> omega

theorem capacityOf_zero (cls : CarrierClass) (w : Nat) : capacityOf cls w 0 = 0 := by
  simp [capacityOf, bitsPerSymbol]

theorem capacityOf_le {cls : CarrierClass} {w p : Nat} (hd : cls = .data → w ≤ 128) (hn : cls ≠ .data → w ≤ 4) :
    capacityOf cls w p ≤ 1740000 := by
  have hbits : ∀ {most : Nat}, w ≤ most → w * bitsPerSymbol p ≤ most * 12 := fun h =>
    Nat.mul_le_mul h (bitsPerSymbol_le p)
  cases cls with
  | data => have := hbits (hd rfl); simp only [capacityOf, classOverhead]; omega
  | voice => have := hbits (hn nofun); simp only [capacityOf, classOverhead]; omega
  | video => have := hbits (hn nofun); simp only [capacityOf, classOverhead]; omega

/-! ### Smoothing (R131) -/

/-- A floored share of a step down is a step down, and no share of a step is more than the step. -/
theorem ediv_two_pow_bounds (d : Int) (k : Nat) :
    min 0 d ≤ d / 2 ^ k ∧ d / 2 ^ k ≤ max 0 d ∧ (d < 0 → d / 2 ^ k < 0) := by
  have hpow : (1 : Int) ≤ 2 ^ k := one_le_pow₀ (by omega)
  rcases le_or_gt 0 d with h | h
  · have hnonneg : 0 ≤ d / 2 ^ k := Int.ediv_nonneg h (by omega)
    have hself : d / 2 ^ k ≤ d := Int.ediv_le_self _ h
    omega
  · have hneg : d / 2 ^ k < 0 := Int.ediv_neg_of_neg_of_pos h (by omega)
    have hself : d ≤ d / 2 ^ k := (Int.le_ediv_iff_mul_le (by omega)).mpr (by nlinarith)
    omega

theorem smooth_some (k s m : Nat) : (smooth k (some s) m : Int) = s + ((m : Int) - s) / 2 ^ k := by
  have hbounds := ediv_two_pow_bounds ((m : Int) - s) k
  simp only [smooth, Nat.cast_pow, Nat.cast_ofNat]
  omega

/-- Settles O39: the window, the selection, the capacity and the smoothing, each from its own lemma. -/
theorem profileCapacityAndSmoothing : Obligations.ProfileCapacityAndSmoothing := by
  unfold Obligations.ProfileCapacityAndSmoothing
  intro threshold
  have hthreshold : threshold = profileThreshold := funext fun p => (profileThreshold_eq p).symm
  rw [hthreshold]
  refine ⟨fun p t c w hw ha hq h1 h6 => ?_, fun m e hm => selectProfile_spec e hm, fun cls w p hp => ?_,
    fun cls w p => capacityOf_le, by decide, fun k s m => ?_⟩
  · intro snr acceptable
    obtain ⟨n, hn, hlowest⟩ := Part.effectiveSnr_window (Part.snr_le ha hq) t.margin c hw
    have haccept := profileAcceptable_iff t.cls (e := p.effectiveSnr t.margin (List.range' c w)) h1 h6
    exact ⟨_, n, hn, hlowest, runningProfile_eq _ _ _, haccept, rfl,
      (p.placeBad_iff t.cls t ⟨c, w⟩).trans (or_congr_right (not_congr haccept))⟩
  · refine ⟨?_, capacityOf_zero cls w⟩
    rw [capacityOf, bitsPerSymbol_eq hp]
    cases cls <;> rfl
  · have hsmooth := smooth_some k s m
    have hbounds := ediv_two_pow_bounds ((m : Int) - s) k
    have hzero := smooth_some 0 s m
    rw [pow_zero, Int.ediv_one] at hzero
    exact ⟨rfl, hsmooth, by omega, by omega, by omega, fun h => by omega⟩

end Sys2Proof.Machine
end

section
/-! A PLANT_SET of the cap alone (5.6, 5.8, 5.9): O53, with the parking that ends early. -/

namespace Sys2Proof.Machine

/-! ### Parking that ends from the highest slice down (R98) -/

/-- What early unparking down to slice `k` makes of the entry of slice `n`. -/
def SliceEntry.unparkedFrom (k n : Nat) (e : SliceEntry) : SliceEntry :=
  match e.use with
  | .parked _ _ => if k ≤ n then ⟨.free, false, false⟩ else e
  | _ => e

/-- The part with no slice from `k` upward PARKED. -/
def Part.unparkedFrom (p : Part) (k : Nat) : Part :=
  { p with slices := p.slices.mapIdx fun n (e : SliceEntry) => e.unparkedFrom k n }

theorem SliceEntry.unparkedFrom_of_parked {e : SliceEntry} {k n left : Nat} {fill : Int} (h : e.use = .parked left fill)
    (hn : k ≤ n) : e.unparkedFrom k n = ⟨.free, false, false⟩ := by
  simp only [SliceEntry.unparkedFrom, h, if_pos hn]

theorem SliceEntry.unparkedFrom_of_not_parked {e : SliceEntry} (h : ∀ left fill, e.use ≠ .parked left fill)
    (k n : Nat) : e.unparkedFrom k n = e := by
  cases hu : e.use with
  | parked left fill => exact absurd hu (h left fill)
  | _ => simp only [SliceEntry.unparkedFrom, hu]

theorem SliceEntry.unparkedFrom_of_lt (e : SliceEntry) {k n : Nat} (h : n < k) : e.unparkedFrom k n = e := by
  unfold SliceEntry.unparkedFrom
  split
  · exact if_neg (Nat.not_le.mpr h)
  · rfl

/-- One step further down matters to no other slice. -/
theorem SliceEntry.unparkedFrom_succ_ne (e : SliceEntry) {k n : Nat} (h : n ≠ k) :
    e.unparkedFrom (k + 1) n = e.unparkedFrom k n := by
  have hle : k + 1 ≤ n ↔ k ≤ n := by omega
  simp only [SliceEntry.unparkedFrom, hle]

theorem Part.getElem?_unparkedFrom (p : Part) (k n : Nat) :
    (p.unparkedFrom k).slices[n]? = p.slices[n]?.map (·.unparkedFrom k n) := List.getElem?_mapIdx

/-- With no slice left above, nothing changes. -/
theorem Part.unparkedFrom_length (p : Part) : p.unparkedFrom p.slices.length = p := by
  suffices h : (p.unparkedFrom p.slices.length).slices = p.slices by
    exact congrArg (fun l => ({ p with slices := l } : Part)) h
  refine List.ext_getElem? fun n => ?_
  rw [Part.getElem?_unparkedFrom]
  by_cases hn : n < p.slices.length
  · simp [hn, SliceEntry.unparkedFrom_of_lt _ hn]
  · simp [hn]

/-- A PARKED slice ends its parking next. -/
theorem Part.unparkedFrom_of_parked {p : Part} {k left : Nat} {fill : Int} (h : (p.slice k).use = .parked left fill) :
    (p.unparkedFrom (k + 1)).setSlice k ⟨.free, false, false⟩ = p.unparkedFrom k := by
  suffices hs : ((p.unparkedFrom (k + 1)).slices.set k ⟨.free, false, false⟩) = (p.unparkedFrom k).slices by
    exact congrArg (fun l => ({ p with slices := l } : Part)) hs
  refine List.ext_getElem? fun n => ?_
  rw [List.getElem?_set, Part.getElem?_unparkedFrom, Part.getElem?_unparkedFrom]
  by_cases hkn : k = n
  · subst hkn
    by_cases hk : k < p.slices.length
    · rw [if_pos rfl, Part.getElem?_slices hk, Option.map_some, SliceEntry.unparkedFrom_of_parked h le_rfl]
      simpa [Part.unparkedFrom] using hk
    · rw [Part.slice_outside hk] at h
      cases h
  · rw [if_neg hkn]
    exact Option.map_congr fun e _ => e.unparkedFrom_succ_ne (Ne.symm hkn)

/-- Any other slice is passed over. -/
theorem Part.unparkedFrom_of_not_parked {p : Part} {k : Nat} (h : ∀ left fill, (p.slice k).use ≠ .parked left fill) :
    p.unparkedFrom (k + 1) = p.unparkedFrom k := by
  suffices hs : (p.unparkedFrom (k + 1)).slices = (p.unparkedFrom k).slices by
    exact congrArg (fun l => ({ p with slices := l } : Part)) hs
  refine List.ext_getElem? fun n => ?_
  rw [Part.getElem?_unparkedFrom, Part.getElem?_unparkedFrom]
  refine Option.map_congr fun e he => ?_
  by_cases hkn : n = k
  · subst hkn
    have hslice : p.slice n = e := by simp [Part.slice, List.getD_eq_getElem?_getD, he]
    rw [hslice] at h
    rw [SliceEntry.unparkedFrom_of_not_parked h, SliceEntry.unparkedFrom_of_not_parked h]
  · exact e.unparkedFrom_succ_ne hkn

/-! ### Early unparking, and the cap tested after each slice (R98, R100) -/

theorem Part.capTest_of_above {p : Part} (h : p.level.cap < p.composite) : p.capTest = p := by
  simp [Part.capTest, Nat.not_le.mpr h]

theorem Part.capTest_of_below {p : Part} (hover : p.level.overCap = true) (h : p.composite ≤ p.level.cap) :
    p.capTest = ({ p with level := { p.level with overCap := false } } : Part).raisePlant .capRestored := by
  simp [Part.capTest, hover, h]

theorem Part.capTest_cap (p : Part) : p.capTest.level.cap = p.level.cap := by rw [p.kept_capTest.level]

theorem Part.capTest_composite (p : Part) : p.capTest.composite = p.composite := by
  rcases p.capTest_eq with h | ⟨-, -, h⟩
  · rw [h]
  · rw [h]
    exact Part.composite_congr rfl rfl rfl rfl

theorem Part.capTest_capTest (p : Part) : p.capTest.capTest = p.capTest := by
  rcases p.capTest_eq with h | ⟨-, -, h⟩
  · rw [h, h]
  · rw [h]
    exact Part.capTest_of_clear rfl

/-- The slice is PARKED. -/
def SliceEntry.isParked (e : SliceEntry) : Bool :=
  match e.use with
  | .parked _ _ => true
  | _ => false

theorem SliceEntry.isParked_iff {e : SliceEntry} : e.isParked = true ↔ ∃ left fill, e.use = .parked left fill := by
  unfold SliceEntry.isParked
  split
  · next left fill h => exact ⟨fun _ => ⟨left, fill, h⟩, fun _ => rfl⟩
  · next h => exact ⟨nofun, fun ⟨left, fill, hu⟩ => absurd hu (h left fill)⟩

/-- One step of early unparking: the slice ends its parking while the composite exceeds the cap. -/
def Part.unparkStep (p : Part) (n : Nat) : Part := if p.level.cap < p.composite then p.endParking n else p

theorem Part.unparkStep_of_below {p : Part} (h : p.composite ≤ p.level.cap) (n : Nat) : p.unparkStep n = p :=
  if_neg (Nat.not_lt.mpr h)

theorem Part.unparkStep_of_above {p : Part} (h : p.level.cap < p.composite) (n : Nat) :
    p.unparkStep n = p.endParking n :=
  if_pos h

theorem Part.unparkDown_eq (p : Part) : p.unparkDown =
    ((List.range 1024).reverse.filter fun n => (p.slice n).isParked).foldl Part.unparkStep p := rfl

/-- Once the composite is at the cap, early unparking ends no further slice's parking. -/
theorem Part.foldl_unparkStep_of_below {p : Part} (h : p.composite ≤ p.level.cap) (ns : List Nat) :
    ns.foldl Part.unparkStep p = p := by
  induction ns with
  | nil => rfl
  | cons n ns ih => rw [List.foldl_cons, Part.unparkStep_of_below h, ih]

/-- The slices below `n`, from the highest down: parking ends as far as a slice `k`, the first at which the composite is
at the cap, or slice 0 where it stays above. -/
theorem Part.foldl_unparkStep (p : Part) (n : Nat) :
    ∃ k, (∀ m, k < m → m ≤ n → p.level.cap < (p.unparkedFrom m).composite) ∧
      (p.level.cap < (p.unparkedFrom k).composite → k = 0) ∧
      ((List.range n).reverse.filter fun n => (p.slice n).isParked).foldl Part.unparkStep (p.unparkedFrom n).capTest =
        (p.unparkedFrom k).capTest := by
  induction n with
  | zero => exact ⟨0, fun m hk hm => absurd hk (Nat.not_lt.mpr hm), fun _ => rfl, rfl⟩
  | succ n ih =>
    by_cases habove : p.level.cap < (p.unparkedFrom (n + 1)).composite
    · obtain ⟨k, hhigher, hlast, hfold⟩ := ih
      refine ⟨k, fun m hk hm => ?_, hlast, ?_⟩
      · rcases hm.eq_or_lt with rfl | hlt
        · exact habove
        · exact hhigher m hk (Nat.le_of_lt_succ hlt)
      · rw [← hfold, List.range_succ, List.reverse_append, List.reverse_singleton, List.singleton_append,
          List.filter_cons, Part.capTest_of_above habove]
        by_cases hparked : (p.slice n).isParked = true
        · obtain ⟨left, fill, hu⟩ := SliceEntry.isParked_iff.mp hparked
          rw [if_pos hparked, List.foldl_cons, Part.unparkStep_of_above habove, Part.endParking,
            Part.unparkedFrom_of_parked hu]
        · have hu : ∀ left fill, (p.slice n).use ≠ .parked left fill := fun left fill hu =>
            hparked (SliceEntry.isParked_iff.mpr ⟨left, fill, hu⟩)
          rw [if_neg hparked, ← Part.unparkedFrom_of_not_parked hu, Part.capTest_of_above habove]
    · refine ⟨n + 1, fun m hk hm => absurd hk (Nat.not_lt.mpr hm), fun h => absurd h habove, ?_⟩
      have hbelow : (p.unparkedFrom (n + 1)).capTest.composite ≤ (p.unparkedFrom (n + 1)).capTest.level.cap := by
        rw [Part.capTest_composite, Part.capTest_cap]
        exact Nat.not_lt.mp habove
      exact Part.foldl_unparkStep_of_below hbelow _

theorem Part.unparkDown_spec {p : Part} (hlen : p.slices.length = 1024) (h : p.level.cap < p.composite) :
    ∃ k, (∀ m, k < m → m ≤ 1024 → p.level.cap < (p.unparkedFrom m).composite) ∧
      (p.level.cap < (p.unparkedFrom k).composite → k = 0) ∧ p.unparkDown = (p.unparkedFrom k).capTest := by
  have hstart : (p.unparkedFrom 1024).capTest = p := by
    rw [← hlen, Part.unparkedFrom_length, Part.capTest_of_above h]
  have hspec := p.foldl_unparkStep 1024
  rwa [hstart] at hspec

/-! ### The cap is stored and tested (R96, R98, R100, R172) -/

/-- The part with another cap. -/
def Part.withCap (p : Part) (cap : Nat) : Part := { p with level := { p.level with cap := cap } }

theorem Part.composite_withCap (p : Part) (cap : Nat) : (p.withCap cap).composite = p.composite :=
  Part.composite_congr rfl rfl rfl rfl

theorem clampNat_of_mem {lo hi v : Nat} (hlo : lo ≤ v) (hhi : v ≤ hi) : clampNat lo hi v = v := by
  unfold clampNat
  omega

theorem Part.applyPlant_cap {p : Part} {cap : Nat} (hlo : 1 ≤ cap) (hhi : cap ≤ 4194304) (hne : cap ≠ p.level.cap) :
    Part.applyPlant { cap := some cap } p = (p.withCap cap).overCapTest.capTest := by
  have hstore : Part.storePlant { cap := some cap } p = p.withCap cap := by
    have hclamp : storeNat 1 4194304 (some cap) p.level.cap = cap := clampNat_of_mem hlo hhi
    simp only [Part.storePlant, LevelController.store, hclamp]
    rfl
  have hpower : powerChanged p.level (p.withCap cap).level = true := by
    simp [powerChanged, Part.withCap, Ne.symm hne]
  simp only [Part.applyPlant, Part.storeSplit, hstore, hpower, if_true]
  rw [if_neg (by simp [Part.withCap])]

theorem Part.overCapTest_of_below {p : Part} (h : p.composite ≤ p.level.cap) : p.overCapTest = p := if_pos h

/-- OVER_CAP stands, raised where it was clear, as early unparking begins. -/
def Part.overCapped (p : Part) : Part :=
  { p with
    level := { p.level with overCap := true }
    events := { p.events with plantRaised := p.events.plantRaised ||| if p.level.overCap then 0 else 1 } }

theorem Part.overCapTest_of_above {p : Part} (h : p.level.cap < p.composite) :
    p.overCapTest = p.overCapped.unparkDown := by
  rw [Part.overCapTest, if_neg (Nat.not_le.mpr h)]
  congr 1
  cases hover : p.level.overCap with
  | true =>
    have hlevel : ({ p.level with overCap := true } : LevelController) = p.level := by rw [← hover]
    simp [Part.overCapped, hlevel, hover]
  | false => simp [Part.overCapped, hover, Part.raisePlant, PlantEvent.bit]

theorem Part.composite_overCapped_unparkedFrom (p : Part) (k : Nat) :
    (p.overCapped.unparkedFrom k).composite = (p.unparkedFrom k).composite := Part.composite_congr rfl rfl rfl rfl

/-- The test at the end of early unparking clears OVER_CAP and raises CAP_RESTORED, or leaves both. -/
theorem Part.capTest_overCapped (p : Part) (k : Nat) :
    let above := decide (p.level.cap < (p.unparkedFrom k).composite)
    let raised : PlantEventSet := (if p.level.overCap then 0 else 1) ||| (if above then 0 else 2)
    (p.overCapped.unparkedFrom k).capTest = { p.unparkedFrom k with
      level := { p.level with overCap := above }
      events := { p.events with plantRaised := p.events.plantRaised ||| raised } } := by
  intro above raised
  by_cases h : p.level.cap < (p.unparkedFrom k).composite
  · rw [Part.capTest_of_above (by rwa [Part.composite_overCapped_unparkedFrom])]
    have hzero : ∀ x : PlantEventSet, x ||| 0 = x := fun _ => BitVec.or_zero
    simp only [above, raised, h, decide_true, if_true, hzero]
    rfl
  · rw [Part.capTest_of_below rfl (by rw [Part.composite_overCapped_unparkedFrom]; exact Nat.not_lt.mp h)]
    simp only [above, raised, h, decide_false, Bool.false_eq_true, if_false, ← BitVec.or_assoc]
    rfl

/-- A PLANT_SET that awaits its service, stores a cap alone and leaves the tenants and the grants. -/
theorem State.exec_plantSet_cap {s : State} {tag : Byte} {cap : Nat} {u : Part}
    (h : s.awaits (.plantSet tag (some { cap := some cap })) tag) (hlo : 1 ≤ cap) (hhi : cap ≤ 4194304)
    (hu : Part.applyPlant { cap := some cap } s.part = u) (ht : u.tenants = s.part.tenants)
    (hg : u.grants = s.part.grants) :
    exec (.plantSet tag (some { cap := some cap })) s =
      .next (s.answers (.plantSet tag (some { cap := some cap })) tag 0x70
        ⟨.done, false, be3 u.composite ++ [if u.level.overCap then 1 else 0]⟩ u) := by
  have hclamped : plantClamped { cap := some cap } = false := by
    simp [plantClamped, timingClamped, outside, Nat.one_le_iff_ne_zero.mp hlo, hhi]
  have hflags : byte (boolBit u.level.overCap 0) = if u.level.overCap then 1 else 0 := by
    cases u.level.overCap <;> rfl
  refine State.serve_of_same 0x70 (Part.plantSet { cap := some cap }) h ?_ ht hg
  simp only [Part.plantSet, Option.isSome_none, Bool.false_and, Bool.false_eq_true, if_false, hu, hclamped, hflags]

/-- Settles O53: by the composite beside the new cap. -/
theorem capCrossesComposite : Obligations.CapCrossesComposite := by
  intro s tag cap q p sets hawaits hlo hhi hne hshaped
  obtain ⟨-, -, hlen, -⟩ := hshaped
  have hcomposite : p.composite = s.part.composite := s.part.composite_withCap cap
  have happly : Part.applyPlant q s.part = p.overCapTest.capTest := Part.applyPlant_cap hlo hhi hne
  refine ⟨fun hle hclear => ?_, fun hle hover => ?_, fun habove => ?_⟩
  · rw [← hcomposite] at hle
    refine State.exec_plantSet_cap hawaits hlo hhi (happly.trans ?_) rfl rfl
    rw [Part.overCapTest_of_below hle, Part.capTest_of_clear (p := p) hclear]
  · rw [← hcomposite] at hle
    refine State.exec_plantSet_cap hawaits hlo hhi (happly.trans ?_) rfl rfl
    rw [Part.overCapTest_of_below hle, Part.capTest_of_below (p := p) hover hle]
  · intro unparked
    rw [← hcomposite] at habove
    have hover : p.overCapped.level.cap < p.overCapped.composite := by
      rwa [show p.overCapped.composite = p.composite from Part.composite_congr rfl rfl rfl rfl]
    obtain ⟨k, hhigher, hlast, hdown⟩ := Part.unparkDown_spec (p := p.overCapped) hlen hover
    simp only [Part.composite_overCapped_unparkedFrom] at hhigher hlast
    refine ⟨k, hhigher, hlast, ?_⟩
    refine State.exec_plantSet_cap hawaits hlo hhi (happly.trans ?_) rfl rfl
    rw [Part.overCapTest_of_above habove, hdown, Part.capTest_capTest]
    exact p.capTest_overCapped k

end Sys2Proof.Machine
end

section
/-! The phases of a cycle as they begin (6.2 to 6.4), and SETUP_END: O57. -/

namespace Sys2Proof.Machine

/-! ### The destination radiates (R6) -/

/-- A CLAIMED slice of a grant becomes GRANTED, marks kept. -/
def SliceEntry.radiated (g : Nat) (e : SliceEntry) : SliceEntry :=
  if e.use = .claimed g then { e with use := .granted g } else e

theorem Part.radiate_eq (g : Nat) : Part.radiate g = fun p n => p.setSlice n ((p.slice n).radiated g) := by
  funext p n
  unfold Part.radiate SliceEntry.radiated
  simp only [beq_iff_eq]
  split
  · rfl
  · exact (p.setSlice_slice n).symm

/-- The carrier slices of a destination radiate. -/
def Part.radiating (p : Part) (g : Nat) (dest : Option Place) : Part :=
  dest.elim p fun d => p.mapSlices (SliceEntry.radiated g) (List.range' d.first d.width)

theorem Part.radiating_frame (p : Part) (g : Nat) (dest : Option Place) :
    p.radiating g dest = { p with slices := (p.radiating g dest).slices } := by
  cases dest with
  | none => rfl
  | some d => exact (p.mapSlices_frame _ _).1

theorem Part.slice_radiating (p : Part) (g : Nat) (d : Place) (n : Nat) :
    (p.radiating g (some d)).slice n =
      if d.first ≤ n ∧ n < d.first + d.width ∧ (p.slice n).use = .claimed g then { p.slice n with use := .granted g }
      else p.slice n := by
  refine (p.slice_mapSlices _ List.nodup_range' n).trans ?_
  by_cases hn : n < p.slices.length
  · simp only [List.mem_range'_1, hn, and_true, SliceEntry.radiated, ← and_assoc]
    split <;> simp_all
  · simp [hn, Part.slice_outside hn]

/-- A destination with no CLAIMED slice stays as it is. -/
theorem Part.radiating_of_none_claimed {p : Part} {g : Nat} {d : Place}
    (h : ∀ n, d.first ≤ n → n < d.first + d.width → (p.slice n).use ≠ .claimed g) : p.radiating g (some d) = p := by
  have hslices : (p.radiating g (some d)).slices = p.slices := by
    have hlen : (p.radiating g (some d)).slices.length = p.slices.length := (p.mapSlices_frame _ _).2
    refine List.ext_getElem? fun n => ?_
    by_cases hn : n < p.slices.length
    · rw [Part.getElem?_slices (by rwa [hlen]), Part.getElem?_slices hn, Part.slice_radiating,
        if_neg fun ⟨hlo, hhi, huse⟩ => h n hlo hhi huse]
    · rw [List.getElem?_eq_none (by omega), List.getElem?_eq_none (by omega)]
  rw [Part.radiating_frame, hslices]

/-! ### STROBE begins (R110, R111) -/

/-- The run of a cycle whose STROBE begins: its minimum and its lock wait stand in full. -/
def Run.strobing (r : Run) : Run :=
  { r with
    phase := .strobe
    strobeLeft := r.timings.strobeMin
    lockLeft := lockWait r.timings.lockMax r.timings.strobeMin }

/-- The one job of an id is found by it. -/
theorem Part.job_of_holdsJob {p : Part} {j : Job} (h : p.holdsJob j) : p.job j.id = some j :=
  find?_eq_some_of_unique h.1 (by simp) fun k hk hid => h.2 k hk (by simpa using hid)

theorem Part.beginStrobe_of_run {p : Part} {j : Job} {r : Run} (h : p.holdsJob j) (hr : j.run = some r) :
    p.beginStrobe j.id = (p.withRun j.id r.strobing).radiating j.grant j.dest := by
  have hmap := Part.mapJob_eq_withRun h
    (f := fun k => { k with run := k.run.map fun r =>
      { r with
        phase := .strobe, strobeLeft := r.timings.strobeMin
        lockLeft := lockWait r.timings.lockMax r.timings.strobeMin } })
    (run := r.strobing) (by simp [hr, Run.strobing])
  simp only [Part.beginStrobe, hmap, Part.job_of_holdsJob h, Part.radiate_eq]
  cases j.dest <;> rfl

/-- STROBE begins after time has passed outside QUIET. -/
theorem Part.beginStrobe_elapse {p : Part} {j : Job} {r : Run} (h : p.holdsJob j) (hq : p.engine.quiet = false)
    (hr : j.run = some r) (ms : Nat) :
    (p.elapse ms).beginStrobe j.id = ((p.elapse ms).withRun j.id (r.elapse ms).strobing).radiating j.grant j.dest :=
  Part.beginStrobe_of_run (j := { j with run := some (r.elapse ms) }) (Part.holdsJob_elapse h hq hr ms) rfl

/-! ### SETUP_END (R109, R110) -/

theorem Part.endSetup_of_setup {p : Part} {c : Nat} {j : Job} {r : Run} (hq : p.engine.quiet = false)
    (hc : p.jobIn c = some j) (hj : p.holdsJob j) (hr : j.run = some r) (hphase : r.phase = .setup) :
    Part.endSetup c p = ((p.elapse r.left).withRun j.id (r.elapse r.left).strobing).radiating j.grant j.dest := by
  have hin := Part.phaseIn_eq hq hc hr
  rw [hphase] at hin
  rw [Part.endSetup, hin]
  exact Part.beginStrobe_elapse hj hq hr r.left

/-- The act of SETUP_END, which turns no relation to a commitment. -/
theorem State.exec_setupEnd {s : State} {c : Nat} {j : Job} {r : Run} (hq : s.part.engine.quiet = false)
    (hc : s.part.jobIn c = some j) (hj : s.part.holdsJob j) (hr : j.run = some r) (hphase : r.phase = .setup) :
    exec (.setupEnd c) s = .next { s with
      part := ((s.part.elapse r.left).withRun j.id (r.elapse r.left).strobing).radiating j.grant j.dest } := by
  have hend := Part.endSetup_of_setup hq hc hj hr hphase
  change s.act (Part.endSetup c) = _
  rw [State.act_eq, hend, Part.commitTest_of_same] <;> rw [Part.radiating_frame] <;> rfl

/-- A slice that a grant holds has no timer. -/
theorem SliceEntry.elapse_of_heldBy {e : SliceEntry} {g : Nat} (h : e.heldBy g = true) (ms : Nat) : e.elapse ms = e :=
  SliceEntry.elapse_of_unparked ms fun left fill hu => by simp [SliceEntry.heldBy, hu] at h

theorem SliceEntry.use_elapse_iff {e : SliceEntry} {u : SliceUse} (hu : ∀ left fill, u ≠ .parked left fill) (ms : Nat) :
    (e.elapse ms).use = u ↔ e.use = u := by
  cases he : e.use with
  | parked left fill =>
    rw [SliceEntry.elapse_of_parked ms he]
    exact ⟨fun h => absurd h.symm (hu _ _), fun h => absurd h.symm (hu _ _)⟩
  | _ => rw [SliceEntry.elapse_of_unparked ms (by simp [he]), he]

/-- Settles O57, by the beginning of STROBE and the slices that then radiate. -/
theorem setupEndBeginsStrobe : Obligations.SetupEndBeginsStrobe := by
  intro s c j r d hshaped hq hc hr hphase hd huniq p strobe
  obtain ⟨-, -, hlen, -⟩ := hshaped
  have hj : s.part.holdsJob j := ⟨Part.mem_of_jobIn hc, huniq⟩
  have hrun : (r.elapse r.left).strobing = strobe := by
    rw [Run.elapse_eq, if_neg (by simp [hphase]), Nat.sub_self]
    rfl
  have hlen' : (((p.withRun j.id strobe).radiating j.grant (some d))).slices.length = 1024 := by
    refine ((p.withRun j.id strobe).mapSlices_frame _ _).2.trans ?_
    simpa [Part.withRun, p] using hlen
  refine ⟨((p.withRun j.id strobe).radiating j.grant (some d)).slices, ?_, hlen', fun n hn => ?_⟩
  · rw [State.exec_setupEnd hq hc hj hr hphase, hrun, hd, Part.radiating_frame]
    rfl
  · have hslice : (p.withRun j.id strobe).slice n = (s.part.slice n).elapse r.left := s.part.slice_elapse r.left n
    have huse := SliceEntry.use_elapse_iff (e := s.part.slice n) (u := .claimed j.grant) (by simp) r.left
    rw [Part.getElem?_slices (by rwa [hlen']), Part.slice_radiating, hslice]
    by_cases h : d.first ≤ n ∧ n < d.first + d.width ∧ (s.part.slice n).use = .claimed j.grant
    · obtain ⟨hlo, hhi, hclaimed⟩ := h
      rw [if_pos ⟨hlo, hhi, huse.mpr hclaimed⟩, if_pos ⟨hlo, hhi, hclaimed⟩,
        SliceEntry.elapse_of_heldBy (g := j.grant) (by simp [SliceEntry.heldBy, hclaimed])]
    · rw [if_neg h, if_neg fun ⟨hlo, hhi, hclaimed⟩ => h ⟨hlo, hhi, huse.mp hclaimed⟩]

end Sys2Proof.Machine
end

section
/-! SUPPORT. Letting go in ascending order (R7, R93): what each slice finds of the map when its turn comes, and so the
state that it takes. -/

namespace Sys2Proof.Machine

/-! ### Acts that go over the map slice by slice -/

/-- At a slice the act changes no more than that slice. -/
def SliceWise (f : Part → Nat → Part) : Prop := ∀ p n, ∃ e, f p n = p.setSlice n e

theorem sliceWise_letGoSlice (g : Nat) (level : Option Int) : SliceWise (Part.letGoSlice g level) := fun p n => by
  rcases Part.letGoSlice_cases g level p n with ⟨-, h⟩ | ⟨e, h, -⟩
  · exact ⟨p.slice n, h.trans (p.setSlice_slice n).symm⟩
  · exact ⟨e, h⟩

/-- With nothing waiting every slice is let go. -/
theorem Part.passOrLetGo_none (g : Nat) (level : Option Int) :
    Part.passOrLetGo none g level = Part.letGoSlice g level := rfl

theorem sliceWise_passOrLetGo (waiter : Option Job) (g : Nat) (level : Option Int) :
    SliceWise (Part.passOrLetGo waiter g level) := fun p n => by
  unfold Part.passOrLetGo
  split
  · dsimp only
    split
    · split <;> exact ⟨_, rfl⟩
    · exact sliceWise_letGoSlice g level p n
  · exact sliceWise_letGoSlice g level p n

/-- Such an act over several slices changes only the map, and of that only those slices. -/
theorem SliceWise.foldl_frame {f : Part → Nat → Part} (hf : SliceWise f) (ns : List Nat) (p : Part) :
    ns.foldl f p = { p with slices := (ns.foldl f p).slices } ∧ (ns.foldl f p).slices.length = p.slices.length ∧
      ∀ n, n ∉ ns → (ns.foldl f p).slice n = p.slice n := by
  induction ns generalizing p with
  | nil => exact ⟨rfl, rfl, fun _ _ => rfl⟩
  | cons k ns ih =>
    obtain ⟨e, he⟩ := hf p k
    obtain ⟨hframe, hlen, hslice⟩ := ih (p.setSlice k e)
    rw [List.foldl_cons, he]
    refine ⟨hframe, hlen.trans (by simp), fun n hn => ?_⟩
    obtain ⟨hk, hn⟩ : n ≠ k ∧ n ∉ ns := by simpa using hn
    rw [hslice n hn, Part.slice_setSlice_ne _ _ _ _ hk]

/-- The part once such an act has passed over the slices below `n`, and is to leave the map of `u`. -/
def Part.reached (p u : Part) (n : Nat) : Part := { p with slices := u.slices.take n ++ p.slices.drop n }

theorem Part.slice_reached {p u : Part} (hlen : u.slices.length = p.slices.length) (n : Nat) :
    (p.reached u n).slice n = p.slice n := by
  simp only [Part.slice, Part.reached, List.getD_eq_getElem?_getD]
  by_cases hn : n < p.slices.length
  · rw [List.getElem?_append_right (by simp)]
    simp [hlen, hn.le]
  · rw [List.getElem?_eq_none (by simp; omega), List.getElem?_eq_none (by omega)]

/-- A slice that then takes an entry. -/
theorem Part.setSlice_reached {p u : Part} {n : Nat} (hlen : u.slices.length = p.slices.length)
    (hn : n < p.slices.length) (e : SliceEntry) : (p.reached u n).setSlice n e =
      { p with slices := u.slices.take n ++ [e] ++ p.slices.drop (n + 1) } := by
  have htake : (u.slices.take n).length = n := by simp [hlen, hn.le]
  simp only [Part.setSlice, Part.reached, List.set_append_right _ _ htake.le, htake, Nat.sub_self,
    List.drop_eq_getElem_cons hn, List.set_cons_zero, List.append_assoc, List.singleton_append]

/-- An act over some slices in ascending order finds at each of them the lower ones as it leaves them, and the higher
ones as they were. -/
theorem SliceWise.slice_foldl {f : Part → Nat → Part} (hf : SliceWise f) {keep : Nat → Bool} {m n : Nat} (hn : n < m)
    (hkeep : keep n = true) (p : Part) :
    let u := ((List.range m).filter keep).foldl f p
    u.slice n = (f (p.reached u n) n).slice n := by
  obtain ⟨k, rfl⟩ := Nat.exists_eq_add_of_lt hn
  have hrange : (List.range (n + k + 1)).filter keep =
      (List.range n).filter keep ++ n :: ((List.range' (n + 1) k).filter keep) := by
    rw [List.range_eq_range', List.range_eq_range', Nat.add_assoc, ← List.range'_append_1, Nat.zero_add,
      List.range'_succ, List.filter_append, List.filter_cons_of_pos hkeep]
  dsimp only
  rw [hrange, List.foldl_append, List.foldl_cons]
  obtain ⟨hframe, hlen, hkept⟩ := hf.foldl_frame ((List.range n).filter keep) p
  generalize ((List.range n).filter keep).foldl f p = lower at hframe hlen hkept
  obtain ⟨-, hlen', hkept'⟩ := hf.foldl_frame ((List.range' (n + 1) k).filter keep) (f lower n)
  generalize ((List.range' (n + 1) k).filter keep).foldl f (f lower n) = u at hlen' hkept'
  obtain ⟨e, he⟩ := hf lower n
  rw [he, Part.setSlice_slices, List.length_set, hlen] at hlen'
  have hreached : p.reached u n = lower := by
    have hslices : u.slices.take n ++ p.slices.drop n = lower.slices := by
      refine List.ext_getElem? fun i => ?_
      by_cases hi : i < p.slices.length
      · rw [Part.getElem?_slices (p := lower) (by omega)]
        by_cases hin : i < n
        · rw [List.getElem?_append_left (by simp; omega), List.getElem?_take_of_lt hin, Part.getElem?_slices (by omega),
            hkept' i (by simp; omega), he, Part.slice_setSlice_ne _ _ _ _ hin.ne]
        · rw [hkept i (by simp; omega), ← Part.getElem?_slices hi, List.getElem?_append_right (by simp; omega)]
          simp only [List.length_take, List.getElem?_drop]
          congr 1
          omega
      · rw [List.getElem?_eq_none (by simp; omega), List.getElem?_eq_none (by omega)]
    rw [Part.reached, hslices, ← hframe]
  rw [hreached]
  exact hkept' n (by simp)

/-! ### What a grant holds outside its place (R7) -/

/-- The job that waits on the one that has ended, if one has. -/
def Part.waiterOf (p : Part) (ended : Option Nat) : Option Job := ended.bind p.waiterOn

theorem Part.letGo_eq_foldl (p : Part) (g : Nat) (level : Option Int) (ended : Option Nat) (keep : Nat → Bool) :
    p.letGo g level ended keep = ((List.range 1024).filter fun n => (p.slice n).heldBy g && !keep n).foldl
      (Part.passOrLetGo (p.waiterOf ended) g level) p.capTest := by
  have hwaiter : p.capTest.waiterOn = p.waiterOn := by
    funext i
    rw [Part.waiterOn, p.mapOnly_capTest.engine, Part.waiterOn]
  simp only [Part.letGo, Part.waiterOf, hwaiter, Part.slice_capTest]

/-- The cap is tested as the carrier leaves; after that only the map changes. -/
theorem Part.letGo_frame (p : Part) (g : Nat) (level : Option Int) (ended : Option Nat) (keep : Nat → Bool) :
    p.letGo g level ended keep = { p.capTest with slices := (p.letGo g level ended keep).slices } ∧
      (p.letGo g level ended keep).slices.length = p.slices.length := by
  rw [Part.letGo_eq_foldl]
  obtain ⟨hframe, hlen, -⟩ := (sliceWise_passOrLetGo (p.waiterOf ended) g level).foldl_frame
    ((List.range 1024).filter fun n => (p.slice n).heldBy g && !keep n) p.capTest
  exact ⟨hframe, hlen.trans p.kept_capTest.slices⟩

theorem Part.mapOnly_letGo_of (p : Part) (g : Nat) (level : Option Int) (ended : Option Nat) (keep : Nat → Bool) :
    Part.MapOnly p (p.letGo g level ended keep) := by
  rw [(p.letGo_frame g level ended keep).1]
  exact p.mapOnly_capTest.trans ⟨_, _, _, rfl⟩

/-- Letting go raises no event of a tenant. -/
theorem Part.letGo_raised (p : Part) (g : Nat) (level : Option Int) (ended : Option Nat) (keep : Nat → Bool) :
    (p.letGo g level ended keep).events.raised = p.events.raised := by
  obtain ⟨l, e, hcap, hraised⟩ := p.capTest_frame
  rw [(p.letGo_frame g level ended keep).1, hcap]
  exact hraised

/-- What the grant does not hold stays, and what it keeps. -/
theorem Part.slice_letGo_of_stays {p : Part} {g n : Nat} (level : Option Int) (ended : Option Nat) {keep : Nat → Bool}
    (h : (p.slice n).heldBy g = false ∨ keep n = true) : (p.letGo g level ended keep).slice n = p.slice n := by
  obtain ⟨-, -, hslice⟩ := (sliceWise_passOrLetGo (p.waiterOf ended) g level).foldl_frame
    ((List.range 1024).filter fun n => (p.slice n).heldBy g && !keep n) p.capTest
  rw [Part.letGo_eq_foldl, hslice n (by rcases h with h | h <;> simp [h]), Part.slice_capTest]

/-- A slice that goes takes its next state beside the lower ones as they are left. -/
theorem Part.slice_letGo_of_goes {p : Part} {g n : Nat} (hlen : p.slices.length = 1024) (level : Option Int)
    (ended : Option Nat) {keep : Nat → Bool} (hheld : (p.slice n).heldBy g = true) (hkeep : keep n = false) :
    let u := p.letGo g level ended keep
    u.slice n = (Part.passOrLetGo (p.waiterOf ended) g level (p.capTest.reached u n) n).slice n := by
  have hn := Part.lt_of_heldBy hheld
  rw [hlen] at hn
  dsimp only
  rw [Part.letGo_eq_foldl]
  exact (sliceWise_passOrLetGo _ g level).slice_foldl hn (by simp [hheld, hkeep]) _

theorem Part.capTest_slices (p : Part) : p.capTest.slices = p.slices := by
  rcases p.capTest_eq with h | ⟨-, -, h⟩ <;> rw [h]
  rfl

/-- OVER_CAP after the test of the cap (R100). -/
theorem Part.overCap_capTest (p : Part) : p.capTest.level.overCap = true ↔
    p.level.overCap = true ∧ ¬(p.level.overCap = true ∧ p.composite ≤ p.level.cap) := by
  unfold Part.capTest
  by_cases h : p.level.overCap = true ∧ p.composite ≤ p.level.cap
  · rw [if_pos (by simpa using h)]
    simp [h]
  · rw [if_neg (by simpa using h)]
    simp [h]

/-- The fit test beside the slices already let go (R92, R93). -/
theorem Part.fits_reached (p u : Part) (n : Nat) (total : Nat) : (p.capTest.reached u n).fits total = true ↔
    (p.level.overCap = false ∨ p.level.overCap = true ∧ p.composite ≤ p.level.cap) ∧ total ≤ p.level.cap := by
  have hover : p.capTest.level.overCap = false ↔
      p.level.overCap = false ∨ p.level.overCap = true ∧ p.composite ≤ p.level.cap := by
    rw [← Bool.not_eq_true, Part.overCap_capTest]
    cases p.level.overCap <;> simp
  rw [Part.fits, Bool.and_eq_true, decide_eq_true_eq, Bool.not_eq_true', ← hover, ← p.capTest_cap]
  rfl

theorem Part.offset_capTest (p : Part) : p.capTest.offset = p.offset := by
  rcases p.capTest_eq with h | ⟨-, -, h⟩ <;> rw [h]
  rfl

/-- Slices that go one after another as R7 has it stand as the statements say. -/
theorem Part.letGoSince_of {p u : Part} {g : Nat} {level : Option Int} {keep : Nat → Bool}
    (hlen : u.slices.length = p.slices.length) (hgrants : u.grants = p.grants) (hengine : u.engine = p.engine)
    (hlevel : u.level = p.capTest.level)
    (hstays : ∀ n, (p.slice n).heldBy g = false ∨ keep n = true → u.slice n = p.slice n)
    (hgoes : ∀ n, (p.slice n).heldBy g = true → keep n = false →
      u.slice n = (Part.letGoSlice g level (p.capTest.reached u n) n).slice n) : p.letGoSince u g level keep := by
  unfold Part.letGoSince
  intro free parked upTo cleared fits
  have hcomposite : (upTo 0 []).composite = p.composite :=
    Part.composite_congr rfl (by simp [upTo]) hgrants (by simp [upTo, hengine])
  have hcap : p.capTest.slices.length = p.slices.length := p.kept_capTest.slices
  refine ⟨by rw [hlevel, Part.overCap_capTest, ← hcomposite], hstays, fun n hkeep => ?_⟩
  intro e bad
  by_cases hn : n < p.slices.length
  · have hself : (p.capTest.reached u n).slice n = e :=
      (Part.slice_reached (hlen.trans hcap.symm) n).trans (p.slice_capTest n)
    have hnext : u.slice n = (Part.letGoSlice g level (p.capTest.reached u n) n).slice n := by
      by_cases hheld : e.heldBy g = true
      · exact hgoes n hheld hkeep
      · have hfree : e.heldBy g = false := by simpa using hheld
        rw [Part.letGoSlice_of_not_held (by rwa [hself]), hself]
        exact hstays n (.inl hfree)
    have hparked : ((p.capTest.reached u n).setSlice n parked).composite = (upTo n [parked]).composite := by
      rw [Part.setSlice_reached (hlen.trans hcap.symm) (by omega), p.capTest_slices]
      exact Part.composite_congr p.offset_capTest rfl (p.mapOnly_capTest.grants.trans hgrants.symm)
        (by rw [p.mapOnly_capTest.engine]; simp [upTo, hengine])
    have hsplit : (p.capTest.reached u n).split = p.split := p.kept_capTest.split
    have hset : (p.capTest.reached u n).level = { p.level with overCap := p.capTest.level.overCap } :=
      p.kept_capTest.level
    obtain ⟨-, -, hclaimed, hmarked, hreturn, hforward, hfirst, hsecond⟩ :=
      letGoTable (p.capTest.reached u n) g n level (by simp [Part.reached]; omega)
    simp only [hself, hsplit, hset, ← hnext] at hclaimed hmarked hreturn hforward hfirst hsecond
    refine ⟨hclaimed, hmarked, hreturn, fun hu hm hf => ?_, hfirst, hsecond⟩
    have hfits : (p.capTest.reached u n).fits ((p.capTest.reached u n).setSlice n parked).composite = true ↔
        fits n := by
      rw [Part.fits_reached, hparked, ← hcomposite]
    have hpark := and_congr_right' (a := p.level.parkTime ≠ 0) hfits
    exact ⟨fun h => (hforward hu hm hf).trans (if_pos (hpark.mpr h)),
      fun h => (hforward hu hm hf).trans (if_neg (mt hpark.mp h))⟩
  · simp [e, Part.slice_outside hn]

/-- Where no job waits, what a grant holds outside `keep` is let go as R7's table has it. -/
theorem Part.letGoSince_letGo {p : Part} {g : Nat} {ended : Option Nat} (hlen : p.slices.length = 1024)
    (hwaiter : p.waiterOf ended = none) (level : Option Int) (keep : Nat → Bool) :
    p.letGoSince (p.letGo g level ended keep) g level keep := by
  obtain ⟨hframe, hlen'⟩ := p.letGo_frame g level ended keep
  have hmap := p.mapOnly_letGo_of g level ended keep
  refine Part.letGoSince_of hlen' hmap.grants hmap.engine (by rw [hframe])
    (fun n => Part.slice_letGo_of_stays level ended) fun n hheld hkeep => ?_
  have hgoes := Part.slice_letGo_of_goes hlen level ended hheld hkeep
  rwa [hwaiter, Part.passOrLetGo_none] at hgoes

end Sys2Proof.Machine
end

section
/-! SUPPORT. DONE (R113, R114): a finished job leaves the list, its tenant's turnaround begins, and HOLD_END is an act
of those steps. -/

namespace Sys2Proof.Machine

/-! ### The job leaves the list (steps 5 to 7 of R113) -/

/-- The engine once a job of a standing tenant has left the list done: the turnaround interval of the tenant begins, and
what waited on the job waits no longer. -/
def Engine.closed (e : Engine) (id k : Nat) (interval : Nat) : Engine :=
  { e with
    jobs := (e.jobs.filter fun i => i.id != id).map fun i => if i.after = some id then { i with after := none } else i
    turnaround := e.turnaround.set k (if interval = 0 then none else some interval) }

/-- What follows the events of DONE. -/
def Part.closing (p : Part) (id k : Nat) : Part := ((p.dropJob id).beginTurnaround k).clearAfter id

theorem Part.closing_frame (p : Part) (id k : Nat) : p.closing id k = { p with engine := (p.closing id k).engine } := by
  unfold Part.closing Part.beginTurnaround
  split <;> rfl

theorem Part.closing_of_standing {p : Part} {k : Nat} {t : TenantRecord} (ht : p.tenant k = some t) (id : Nat) :
    p.closing id k = { p with engine := p.engine.closed id k (p.engine.timings t.cls).turnaround } := by
  have ht' : (p.dropJob id).tenant k = some t := ht
  simp only [Part.closing, Part.beginTurnaround, ht', beq_iff_eq, Engine.closed, Part.clearAfter]
  rfl

theorem Part.jobs_closing (p : Part) (id k : Nat) : (p.closing id k).engine.jobs =
    (p.engine.jobs.filter fun i => i.id != id).map fun i =>
      if i.after == some id then { i with after := none } else i := by
  unfold Part.closing Part.beginTurnaround
  split <;> rfl

/-- The finished job is gone. -/
theorem Part.job_closing (p : Part) (id k : Nat) : (p.closing id k).job id = none := by
  refine List.find?_eq_none.mpr fun i hi => ?_
  rw [Part.jobs_closing] at hi
  obtain ⟨i, hmem, rfl⟩ := List.mem_map.mp hi
  obtain ⟨-, hid⟩ := List.mem_filter.mp hmem
  split <;> simpa using hid

/-! ### The steps before it leave the batch and the job list -/

theorem Part.upkept_finishRecord (p : Part) (j : Job) (r : Grant) :
    Part.Upkept p (Part.finishRecord Part.upkeep p j r) := by
  unfold Part.finishRecord
  split
  · exact .refl p
  · exact .setGrant p _ _
  · exact (Part.Upkept.setGrant p _ _).trans (Part.upkept_upkeep _ _)
  · exact (Part.Upkept.setGrant p _ _).trans (Part.upkept_upkeep _ _)

/-- The end of a retire touches the slots and the turnaround timers, neither batch nor jobs. -/
theorem Part.unlist_keeps (p : Part) (t g : Nat) :
    (p.unlist t g).store.batch = p.store.batch ∧ (p.unlist t g).engine.jobs = p.engine.jobs := by
  unfold Part.unlist
  split
  · exact ⟨rfl, rfl⟩
  · dsimp only
    split <;> exact ⟨rfl, rfl⟩

theorem Part.finishSlices_keeps (p : Part) (j : Job) :
    (p.finishSlices j).store.batch = p.store.batch ∧ (p.finishSlices j).engine.jobs = p.engine.jobs := by
  unfold Part.finishSlices Part.freeGrant
  split
  · split
    · exact ⟨rfl, rfl⟩
    · next r _ =>
      have hgo := (p.setGrant j.grant none).mapOnly_letGo_of j.grant r.level (some j.id) fun _ => false
      obtain ⟨hbatch, hjobs⟩ := Part.unlist_keeps _ r.tenant j.grant
      rw [hbatch, hjobs, hgo.store, hgo.engine]
      exact ⟨rfl, rfl⟩
  · exact ⟨rfl, rfl⟩
  · split
    · exact ⟨rfl, rfl⟩
    · rw [(Part.mapOnly_letGo_of _ _ _ _ _).store, (Part.mapOnly_letGo_of _ _ _ _ _).engine]
      exact ⟨rfl, rfl⟩

theorem Part.finishEvents_frame (p : Part) (j : Job) (t : Nat) :
    p.finishEvents j t = { p with events := (p.finishEvents j t).events } := by
  unfold Part.finishEvents
  dsimp only
  split <;> rfl

/-- The part when the events of DONE have been raised. -/
def Part.finishing (p : Part) (j : Job) (r : Grant) : Part :=
  ((Part.finishRecord Part.upkeep p j r).finishSlices j).finishEvents j r.tenant

theorem Part.finishing_keeps (p : Part) (j : Job) (r : Grant) :
    (p.finishing j r).store.batch = p.store.batch ∧ (p.finishing j r).engine.jobs = p.engine.jobs := by
  obtain ⟨hbatch, hjobs⟩ := (Part.finishRecord Part.upkeep p j r).finishSlices_keeps j
  rw [(p.upkept_finishRecord j r).frame] at hbatch hjobs
  rw [Part.finishing, Part.finishEvents_frame, (p.upkept_finishRecord j r).frame]
  exact ⟨hbatch, hjobs⟩

/-- DONE of a grant in use is the record, the slices and the events; then the job leaves the list, and a batch is
told. -/
theorem Part.finish_of_grant {p : Part} {j : Job} {r : Grant} (hr : p.grant j.grant = some r) :
    p.finish j = ((p.finishing j r).closing j.id r.tenant).reportEnd j true := by
  simp only [Part.finish, Part.finishWith, hr]
  rfl

/-- Outside a restore DONE is the record, the slices and the events, and then the job leaves the list. -/
theorem Part.finish_eq {p : Part} {j : Job} {r : Grant} (hb : p.store.batch = none) (hr : p.grant j.grant = some r) :
    p.finish j = (p.finishing j r).closing j.id r.tenant ∧ (p.finish j).store.batch = none := by
  have hbatch : ((p.finishing j r).closing j.id r.tenant).store.batch = none := by
    obtain ⟨hbatch, -⟩ := p.finishing_keeps j r
    rw [Part.closing_frame]
    exact hbatch.trans hb
  rw [Part.finish_of_grant hr, Part.reportEnd_of_no_batch hbatch]
  exact ⟨rfl, hbatch⟩

/-! ### What waits, and what is let go, when time has passed -/

theorem Part.waiterOn_elapse {p : Part} (hq : p.engine.quiet = false) (ms id : Nat) :
    (p.elapse ms).waiterOn id = (p.waiterOn id).map fun j => { j with run := j.run.map (Run.elapse ms) } := by
  rw [Part.waiterOn, Part.jobs_elapse hq, List.find?_map]
  rfl

theorem Part.waiterOn_eq_none {p : Part} {id : Nat} (h : ∀ k ∈ p.engine.jobs, k.after ≠ some id) :
    p.waiterOn id = none :=
  List.find?_eq_none.mpr fun k hk => by simpa using h k hk

theorem SliceEntry.heldBy_elapse (e : SliceEntry) (ms g : Nat) : (e.elapse ms).heldBy g = e.heldBy g := by
  unfold SliceEntry.elapse
  split
  · next h => simp [SliceEntry.heldBy, h]
  · rfl

/-- A carrier that brings the composite back to the cap as it leaves raises CAP_RESTORED (R100). -/
theorem Part.letGo_restored {p : Part} (hover : p.level.overCap = true) (h : p.composite ≤ p.level.cap) (g : Nat)
    (level : Option Int) (ended : Option Nat) (keep : Nat → Bool) :
    (p.letGo g level ended keep).events.plantRaised &&& 2 = 2 := by
  rw [(p.letGo_frame g level ended keep).1, Part.capTest_of_below hover h]
  exact bitVec_or_and _ _

/-! ### HOLD_END -/

/-- HOLD_END outside a restore. -/
theorem State.exec_holdEnd {s : State} {c : Nat} {j : Job} {r : Run} {g : Grant} (hq : s.part.engine.quiet = false)
    (hb : s.part.store.batch = none) (hc : s.part.jobIn c = some j) (hr : j.run = some r) (hphase : r.phase = .hold)
    (hg : s.part.grant j.grant = some g) : exec (.holdEnd c) s = .next { s with
      part := s.part.commitTest (((s.part.elapse r.left).finishing j g).closing j.id g.tenant) } := by
  have hin := Part.phaseIn_eq hq hc hr
  rw [hphase] at hin
  obtain ⟨hfinish, hbatch⟩ := Part.finish_eq (p := s.part.elapse r.left) hb hg
  have hend : Part.endHold c s.part = ((s.part.elapse r.left).finishing j g).closing j.id g.tenant := by
    rw [← hfinish]
    simp only [Part.endHold, hin, Part.progressBatch_of_none hbatch]
  change s.act (Part.endHold c) = _
  rw [State.act_eq, hend]

/-- The test of an act changes the raised sets of the tenants, and takes no event out of them. -/
theorem Part.commitTest_raised (p q : Part) : ∃ raised, p.commitTest q = { q with events := { q.events with
    raised := raised } } ∧ ∀ t b, q.events.raised.getD t 0 &&& b = b → raised.getD t 0 &&& b = b := by
  obtain ⟨raised, h, -⟩ := p.commitTest_frame q
  have hraised := (Part.Upkept.commitTest p q).raised
  rw [h] at hraised
  exact ⟨raised, h, hraised⟩

end Sys2Proof.Machine
end

section
/-! HOLD_END of an ACTIVATE and of a RELEASE: O60. -/

namespace Sys2Proof.Machine

/-! ### An ACTIVATE (R114) -/

theorem Part.finishing_of_activate {p : Part} {j : Job} (hk : j.kind = .activate) (r : Grant) :
    p.finishing j r = (p.setGrant j.grant (some { r with state := .active })).raise r.tenant .grantDone := by
  simp [Part.finishing, Part.finishRecord, Part.finishSlices, Part.finishEvents, hk]

/-! ### A RELEASE (R43, R113) -/

theorem Part.finishing_of_release {p : Part} {j : Job} {r : Grant} (hk : j.kind = .release)
    (hr : p.grant j.grant = some r) : p.finishing j r =
      (((p.setGrant j.grant none).letGo j.grant r.level (some j.id) fun _ => false).unlist r.tenant j.grant).raise
        r.tenant .grantDone := by
  simp [Part.finishing, Part.finishRecord, Part.finishSlices, Part.finishEvents, hk, Part.freeGrant, hr]

theorem Part.unlist_frame (p : Part) (t g : Nat) : p.unlist t g = { p with
    tenants := (p.unlist t g).tenants, engine := (p.unlist t g).engine, store := (p.unlist t g).store } := by
  unfold Part.unlist
  split
  · rfl
  · dsimp only
    split <;> rfl

/-- The list of a tenant that stands on loses the grant. -/
theorem Part.tenant_unlist {p : Part} {k g : Nat} {t : TenantRecord} (ht : p.tenant k = some t)
    (h : t.status ≠ .retiring ∨ t.grants.filter (fun i => i != g) ≠ []) :
    (p.unlist k g).tenant k = some { t with grants := t.grants.filter fun i => i != g } := by
  have hstands : (t.status == .retiring && (t.grants.filter fun i => i != g).isEmpty) = false := by
    rw [Bool.and_eq_false_iff, beq_eq_false_iff_ne, List.isEmpty_eq_false_iff]
    exact h
  simp only [Part.unlist, ht, hstands, Bool.false_eq_true, if_false]
  exact Part.tenant_setTenant_self _ ht

/-- The last grant of a RETIRING tenant completes its retire. -/
theorem Part.unlist_of_last {p : Part} {k g : Nat} {t : TenantRecord} (ht : p.tenant k = some t)
    (hs : t.status = .retiring) (h : t.grants.filter (fun i => i != g) = []) :
    (p.unlist k g).tenant k = none ∧ (p.unlist k g).generation k = (p.generation k + 1) % 256 := by
  have hunlist : p.unlist k g = (p.setTenant k { t with grants := [] }).completeRetire k := by
    simp [Part.unlist, ht, hs, h]
  have hk := Part.lt_of_tenant ht
  rw [hunlist, Part.completeRetire_eq]
  simp [Part.tenant, Part.generation, hk]

/-- What follows the letting go of a RELEASE: its tenant's list, the lineups of a tenant that is gone, GRANT_DONE, and
the job that leaves the list. -/
theorem Part.closing_unlist (q : Part) (id k g : Nat) : ∃ engine store,
    ((q.unlist k g).raise k .grantDone).closing id k = { q with
      tenants := (q.unlist k g).tenants
      engine := engine
      store := store
      events := { q.events with raised := q.events.raised.modify k (· ||| 1) } } ∧
    engine.jobs.find? (fun i => i.id == id) = none := by
  have hgone := Part.job_closing ((q.unlist k g).raise k .grantDone) id k
  rw [Part.closing_frame]
  generalize (((q.unlist k g).raise k .grantDone).closing id k) = v at hgone ⊢
  rw [Part.unlist_frame]
  exact ⟨_, _, rfl, hgone⟩

/-- HOLD_END of a RELEASE: beside what is let go only the tenants, the engine, the lineups and the tenants' events
change. -/
theorem State.holdEnd_of_release {s : State} {c : Nat} {j : Job} {r : Run} {g : Grant} {q : Part}
    (hq : s.part.engine.quiet = false) (hb : s.part.store.batch = none) (hc : s.part.jobIn c = some j)
    (hr : j.run = some r) (hphase : r.phase = .hold) (hk : j.kind = .release) (hg : s.part.grant j.grant = some g)
    (hlt : g.tenant < s.part.events.raised.length)
    (hgo : ((s.part.elapse r.left).setGrant j.grant none).letGo j.grant g.level (some j.id) (fun _ => false) = q) :
    ∃ engine store raised, exec (.holdEnd c) s = .next { s with part := { q with
        tenants := (q.unlist g.tenant j.grant).tenants
        engine := engine
        store := store
        events := { q.events with raised := raised } } } ∧
      engine.jobs.find? (fun i => i.id == j.id) = none ∧ raised.getD g.tenant 0 &&& 1 = 1 := by
  have hsame : q.events.raised = s.part.events.raised := by rw [← hgo]; exact Part.letGo_raised _ _ _ _ _
  obtain ⟨engine, store, hclosing, hgone⟩ := q.closing_unlist j.id g.tenant j.grant
  rw [State.exec_holdEnd hq hb hc hr hphase hg, Part.finishing_of_release hk (by exact hg), hgo, hclosing]
  obtain ⟨raised, hcommit, hbits⟩ := s.part.commitTest_raised { q with
    tenants := (q.unlist g.tenant j.grant).tenants
    engine := engine
    store := store
    events := { q.events with raised := q.events.raised.modify g.tenant (· ||| 1) } }
  refine ⟨engine, store, raised, congrArg (fun p => Host.Outcome.next { s with part := p }) hcommit, hgone,
    hbits _ _ ?_⟩
  refine (congrArg (· &&& _) (q.raised_raise g.tenant .grantDone (by rwa [hsame]))).trans ?_
  rw [if_pos rfl]
  exact bitVec_or_and _ _

/-- Settles O60: the record of an ACTIVATE, and what a RELEASE lets go and frees. -/
theorem holdEndActivatesAndReleases : Obligations.HoldEndActivatesAndReleases := by
  refine ⟨fun s c j r g t hq hb hc hr hphase hk hg ht _ => ?_,
    fun s c j r g t hshaped hq hb hc hr hphase hk hg hlt ht _ hwaits => ?_⟩
  · intro p left finished
    rw [State.exec_holdEnd hq hb hc hr hphase hg, Part.finishing_of_activate hk, Part.closing_of_standing (by exact ht)]
    rfl
  · intro p rest free parked
    obtain ⟨-, -, hslices, -, -, -, hraised, -⟩ := hshaped
    have hwaiter : ((s.part.elapse r.left).setGrant j.grant none).waiterOf (some j.id) = none :=
      (Part.waiterOn_elapse hq r.left j.id).trans (by rw [Part.waiterOn_eq_none hwaits]; rfl)
    have hsince := Part.letGoSince_letGo (p := (s.part.elapse r.left).setGrant j.grant none) (g := j.grant)
      (by simpa using hslices) hwaiter g.level fun _ => false
    have hrestored := fun hover h =>
      Part.letGo_restored (p := (s.part.elapse r.left).setGrant j.grant none) hover h j.grant g.level (some j.id)
        fun _ => false
    obtain ⟨engine, store, raised, hexec, hjob, hdone⟩ :=
      State.holdEnd_of_release hq hb hc hr hphase hk hg (by omega) rfl
    obtain ⟨slices, level, events, hgo⟩ :=
      ((s.part.elapse r.left).setGrant j.grant none).mapOnly_letGo_of j.grant g.level (some j.id) fun _ => false
    rw [hgo] at hsince
    rw [hgo] at hrestored
    rw [hgo] at hexec
    rw [hexec]
    refine ⟨_, rfl, Part.grant_setGrant_self none hg, fun h hh => s.part.grant_setGrant_ne _ none h hh, hjob, hdone, ?_,
      fun h => Part.tenant_unlist (by exact ht) h, fun hs h => Part.unlist_of_last (by exact ht) hs h⟩
    obtain ⟨hover, hstays, hgoes⟩ := hsince
    have hslice : ∀ n, ((s.part.elapse r.left).setGrant j.grant none).slice n = (s.part.slice n).elapse r.left :=
      fun n => s.part.slice_elapse r.left n
    intro done cleared fits
    have hsame : (done 0 []).composite = ((s.part.elapse r.left).setGrant j.grant none).composite :=
      Part.composite_congr rfl (by simp [done, p]) rfl rfl
    refine ⟨hover, fun h => ?_, fun n hn => ?_, fun n => ?_⟩
    · obtain ⟨hwas, hle⟩ := h
      exact hrestored hwas (by rwa [hsame] at hle)
    · rw [← hslice]
      exact hstays n (.inl (by rw [hslice, SliceEntry.heldBy_elapse, hn]))
    · have hrow := hgoes n rfl
      rw [hslice] at hrow
      by_cases hparked : ∃ left fill, (s.part.slice n).use = .parked left fill
      · obtain ⟨left, fill, hparked⟩ := hparked
        simp [hparked]
      · rw [SliceEntry.elapse_of_unparked r.left (by simpa using hparked)] at hrow
        exact hrow

end Sys2Proof.Machine
end

section
/-! HOLD_END of a MOVE and of a RESIZE: O59. -/

namespace Sys2Proof.Machine

/-! ### What passes to the grant that waits (R77) -/

/-- A slice of the outgoing carrier that lies in the window of the job that waits passes to that job's grant. -/
theorem Part.passOrLetGo_of_passes {p : Part} {w : Job} {e : Place} {g n : Nat} (hdest : w.dest = some e)
    (huse : (p.slice n).use = .granted g) (hin : windowCovers (p.jobClass w) e.first e.width n = true)
    (level : Option Int) : Part.passOrLetGo (some w) g level p n = p.setSlice n { p.slice n with
      use := if e.first ≤ n ∧ n < e.first + e.width then .claimed w.grant else .guard w.grant none } := by
  simp only [Part.passOrLetGo, Option.bind_some, hdest, Option.map_some, huse, hin, beq_self_eq_true, Bool.and_self,
    if_true, Bool.and_eq_true, decide_eq_true_eq]
  split <;> rfl

/-- Any other slice is let go. -/
theorem Part.passOrLetGo_of_not {p : Part} {waiter : Option Job} {g n : Nat} (h : ∀ w e, waiter = some w →
    w.dest = some e → (p.slice n).use = .granted g → windowCovers (p.jobClass w) e.first e.width n = false)
    (level : Option Int) : Part.passOrLetGo waiter g level p n = Part.letGoSlice g level p n := by
  unfold Part.passOrLetGo
  split
  · next w e cls hwait =>
    obtain ⟨j, rfl, x, hx, hjob⟩ : ∃ j, waiter = some j ∧ ∃ x, j.dest = some x ∧
        (j.grant, x, p.jobClass j) = (w, e, cls) := by
      simpa [Option.bind_eq_some_iff] using hwait
    cases hjob
    dsimp only
    rw [if_neg]
    simp only [Bool.and_eq_true, beq_iff_eq, not_and, Bool.not_eq_true]
    exact h j _ rfl hx
  · rfl

section

variable {p : Part} {g n : Nat} {ended : Option Nat} {keep : Nat → Bool}

/-- What a slice that goes reads of the part when its turn comes. -/
theorem Part.reached_letGo (p : Part) (g : Nat) (level : Option Int) (ended : Option Nat) (keep : Nat → Bool)
    (n : Nat) :
    let q := p.capTest.reached (p.letGo g level ended keep) n
    q.slice n = p.slice n ∧ q.jobClass = p.jobClass ∧ q.slices.length = p.slices.length := by
  intro q
  have hlen := (p.letGo_frame g level ended keep).2
  have hcap : p.capTest.slices.length = p.slices.length := p.kept_capTest.slices
  refine ⟨(Part.slice_reached (hlen.trans hcap.symm) n).trans (p.slice_capTest n), ?_, ?_⟩
  · funext w
    exact congrArg (fun o : Option Grant => (o.map (·.cls)).getD .data) (Part.grant_congr p.capTest_grants w.grant)
  · simp only [q, Part.reached, List.length_append, List.length_take, List.length_drop, hlen, hcap]
    omega

theorem Part.slice_letGo_of_passes (hlen : p.slices.length = 1024) {w : Job} {e : Place}
    (hwaiter : p.waiterOf ended = some w) (hdest : w.dest = some e) (huse : (p.slice n).use = .granted g)
    (hin : windowCovers (p.jobClass w) e.first e.width n = true) (hkeep : keep n = false) (level : Option Int) :
    (p.letGo g level ended keep).slice n = { p.slice n with
      use := if e.first ≤ n ∧ n < e.first + e.width then .claimed w.grant else .guard w.grant none } := by
  have hheld : (p.slice n).heldBy g = true := SliceEntry.heldBy_iff.mpr (.inr (.inl huse))
  obtain ⟨hself, hclass, hsize⟩ := p.reached_letGo g level ended keep n
  rw [Part.slice_letGo_of_goes hlen level ended hheld hkeep, hwaiter,
    Part.passOrLetGo_of_passes hdest (by rwa [hself]) (by rwa [hclass]),
    Part.slice_setSlice_self _ _ _ (by rw [hsize]; exact Part.lt_of_heldBy hheld), hself]

/-- A slice that does not pass is held no longer, and one with the impaired mark is QUARANTINED. -/
theorem Part.slice_letGo_of_not_passed (hlen : p.slices.length = 1024) (hheld : (p.slice n).heldBy g = true)
    (hkeep : keep n = false) (h : ∀ w e, p.waiterOf ended = some w → w.dest = some e → (p.slice n).use = .granted g →
      windowCovers (p.jobClass w) e.first e.width n = false) (level : Option Int) :
    ((p.slice n).use ≠ .guard g (some g) → ((p.letGo g level ended keep).slice n).heldBy g = false) ∧
      ((p.slice n).use = .granted g → (p.slice n).impaired = true →
        (p.letGo g level ended keep).slice n = ⟨.quarantined, false, (p.slice n).pinned⟩) := by
  obtain ⟨hself, hclass, hsize⟩ := p.reached_letGo g level ended keep n
  have hn := Part.lt_of_heldBy hheld
  rw [Part.slice_letGo_of_goes hlen level ended hheld hkeep, Part.passOrLetGo_of_not (by rwa [hself, hclass])]
  refine ⟨fun htwice => Part.heldBy_letGoSlice (by rwa [hsize]) level (by rwa [hself]), fun huse hmark => ?_⟩
  rw [Part.letGoSlice_of_granted (by rwa [hself]) (.inl (by rwa [hself])),
    Part.slice_setSlice_self _ _ _ (by rwa [hsize]), hself, SliceEntry.released, if_pos hmark]

end

/-! ### The record at its destination (R47, R114) -/

/-- A record that is ACTIVE at its destination. -/
def Grant.settledAt (x : Grant) (d : Place) : Grant := { x with first := d.first, width := d.width, state := .active }

/-- The part once a grant has come to its destination and has had its upkeep there. -/
def Part.arrived (p : Part) (g : Nat) (x : Grant) (d : Place) : Part := (p.setGrant g (some (x.settledAt d))).upkeep g

theorem Part.finishing_of_change {p : Part} {j : Job} {x : Grant} {t : TenantRecord} {d : Place}
    (hk : j.kind = .move ∨ j.kind = .resize) (hd : j.dest = some d) (hx : p.grant j.grant = some x)
    (ht : p.tenant x.tenant = some t) : p.finishing j x =
      ((p.arrived j.grant x d).letGo j.grant x.level (some j.id) (windowCovers x.cls d.first d.width)).finishEvents j
        x.tenant := by
  have hrecord : Part.finishRecord Part.upkeep p j x = p.arrived j.grant x d := by
    rcases hk with hk | hk <;> simp only [Part.finishRecord, hk, hd] <;> rfl
  obtain ⟨hset, -⟩ := Part.upkeep_self (Part.grant_setGrant_self (some (x.settledAt d)) hx) (by exact ht)
    (by simp [Grant.settledAt])
  have hslices : (p.arrived j.grant x d).finishSlices j = (p.arrived j.grant x d).letGo j.grant x.level (some j.id)
      (windowCovers x.cls d.first d.width) := by
    rcases hk with hk | hk <;> simp only [Part.finishSlices, hk, Part.arrived, hset] <;> rfl
  rw [Part.finishing, hrecord, hslices]

theorem SliceEntry.impaired_elapse (e : SliceEntry) (ms : Nat) : (e.elapse ms).impaired = e.impaired := by
  unfold SliceEntry.elapse
  split <;> rfl

/-- A place is judged the same when time has passed. -/
theorem Part.placeBad_elapse (p : Part) (ms : Nat) : (p.elapse ms).placeBad = p.placeBad := by
  funext cls t c
  simp only [Part.placeBad, Part.slice_elapse, SliceEntry.impaired_elapse]
  rfl

/-- The events of DONE are added to those there. -/
theorem Part.upkept_finishEvents (p : Part) (j : Job) (k : Nat) : Part.Upkept p (p.finishEvents j k) := by
  unfold Part.finishEvents
  dsimp only
  split
  · exact (Part.Upkept.raise _ _ _).trans (.raise _ _ _)
  · exact .raise _ _ _

/-- An event that is raised stands in its source. -/
theorem Part.raised_raise_self (p : Part) {k : Nat} (e : TenantEvent) (hk : k < p.events.raised.length) :
    (p.raise k e).events.raised.getD k 0 &&& e.bit = e.bit := by
  rw [Part.raised_raise p k e hk, if_pos rfl]
  exact bitVec_or_and _ _

/-- GRANT_DONE is raised, and RELOCATED for a relocation. -/
theorem Part.raised_finishEvents (p : Part) (j : Job) {k : Nat} (hk : k < p.events.raised.length) :
    (p.finishEvents j k).events.raised.getD k 0 &&& 1 = 1 ∧
      (j.kind = .move → j.relocation = true → (p.finishEvents j k).events.raised.getD k 0 &&& 0x10 = 0x10) := by
  unfold Part.finishEvents
  dsimp only
  split
  · exact ⟨(Part.Upkept.raise _ _ _).raised _ _ (p.raised_raise_self .grantDone hk),
      fun _ _ => Part.raised_raise_self _ .relocated (by simpa using hk)⟩
  · next h => exact ⟨p.raised_raise_self .grantDone hk, fun hm hr => absurd (by simp [hm, hr]) h⟩

/-- HOLD_END of a MOVE or a RESIZE: what is let go once the record has arrived, the events, and the job gone. -/
theorem State.holdEnd_of_change {s : State} {c : Nat} {j : Job} {r : Run} {x : Grant} {t : TenantRecord} {d : Place}
    {q : Part} (hq : s.part.engine.quiet = false) (hb : s.part.store.batch = none) (hc : s.part.jobIn c = some j)
    (hr : j.run = some r) (hphase : r.phase = .hold) (hk : j.kind = .move ∨ j.kind = .resize) (hd : j.dest = some d)
    (hx : s.part.grant j.grant = some x) (ht : s.part.tenant x.tenant = some t)
    (hraised : x.tenant < q.events.raised.length) (htenants : q.tenants = s.part.tenants)
    (hgo : ((s.part.elapse r.left).arrived j.grant x d).letGo j.grant x.level (some j.id)
      (windowCovers x.cls d.first d.width) = q) :
    ∃ events, exec (.holdEnd c) s = .next { s with part := { q with
        engine := q.engine.closed j.id x.tenant (q.engine.timings t.cls).turnaround
        events := events } } ∧
      (∀ k b, q.events.raised.getD k 0 &&& b = b → events.raised.getD k 0 &&& b = b) ∧
      events.raised.getD x.tenant 0 &&& 1 = 1 ∧
      (j.kind = .move → j.relocation = true → events.raised.getD x.tenant 0 &&& 0x10 = 0x10) := by
  have ht' : (q.finishEvents j x.tenant).tenant x.tenant = some t := by
    rw [Part.finishEvents_frame]
    exact (Part.tenant_congr htenants _).trans ht
  have hkept := (q.upkept_finishEvents j x.tenant).raised
  obtain ⟨hdone, hrelocated⟩ := q.raised_finishEvents j hraised
  rw [State.exec_holdEnd hq hb hc hr hphase hx, Part.finishing_of_change hk hd (by exact hx) (by exact ht), hgo,
    Part.closing_of_standing ht']
  obtain ⟨raised, hcommit, hbits⟩ := s.part.commitTest_raised { q.finishEvents j x.tenant with
    engine := (q.finishEvents j x.tenant).engine.closed j.id x.tenant
      ((q.finishEvents j x.tenant).engine.timings t.cls).turnaround }
  rw [hcommit]
  refine ⟨{ (q.finishEvents j x.tenant).events with raised := raised }, ?_, fun k b h => hbits k b (hkept k b h),
    hbits _ _ hdone, fun hm hrel => hbits _ _ (hrelocated hm hrel)⟩
  rw [Part.finishEvents_frame]

/-- What stands when a grant has come to its destination: its record judged there, and all that is no grant, no event
and no placement work. -/
theorem Part.arrived_fields {p : Part} {g : Nat} {x : Grant} {t : TenantRecord} {d : Place} (hx : p.grant g = some x)
    (ht : p.tenant x.tenant = some t) (hlt : x.tenant < p.events.raised.length) :
    let q := p.arrived g x d
    let bad := p.placeBad x.cls t d
    q = { p with grants := q.grants, events := q.events, alloc := q.alloc } ∧
      q.events.raised.length = p.events.raised.length ∧
      q.grant g = some ((x.settledAt d).judged (p.placeProfile x.cls t d) bad) ∧
      (∀ h, h ≠ g → q.grant h = p.grant h) ∧
      (bad = true → x.impaired = false → q.events.raised.getD x.tenant 0 &&& 8 = 8 ∧ .attempt g ∈ q.alloc.work) := by
  intro q bad
  have hup := (p.setGrant g (some (x.settledAt d))).upkept_upkeep g
  obtain ⟨hself, hturn⟩ := Part.upkeep_self (Part.grant_setGrant_self (some (x.settledAt d)) hx) (by exact ht)
    (by simp [Grant.settledAt])
  exact ⟨hup.frame, hup.length, hself, fun h hne => (Part.grant_upkeep_ne _ hne).trans (p.grant_setGrant_ne _ _ h hne),
    fun hb hi => hturn hb hi hlt⟩

/-- The class of every grant stands as one of them comes to its destination. -/
theorem Part.jobClass_arrived {p : Part} {g : Nat} {x : Grant} {t : TenantRecord} {d : Place} (hx : p.grant g = some x)
    (ht : p.tenant x.tenant = some t) (hlt : x.tenant < p.events.raised.length) (w : Job) :
    (p.arrived g x d).jobClass w = p.jobClass w := by
  obtain ⟨-, -, hself, hother, -⟩ := Part.arrived_fields (d := d) hx ht hlt
  unfold Part.jobClass
  by_cases hw : w.grant = g
  · rw [hw, hself, hx]
    rfl
  · rw [hother _ hw]

/-- Settles O59: the record at its destination, and what it holds outside by whether it passes. -/
theorem holdEndMovesAndResizes : Obligations.HoldEndMovesAndResizes := by
  intro s c j r g t d hshaped hq hb hc hr hphase hk hd _ hg hlt ht p interval bad covers passes
  obtain ⟨-, -, hslices, -, -, -, hraised, -⟩ := hshaped
  have hlt' : g.tenant < p.events.raised.length := by rw [s.part.elapse_events, hraised]; exact hlt
  obtain ⟨hframe, hlen, hself, hother, hturn⟩ := Part.arrived_fields (p := p) (d := d) hg ht hlt'
  have hclass := Part.jobClass_arrived (p := p) (d := d) hg ht hlt'
  have hmap := (p.arrived j.grant g d).mapOnly_letGo_of j.grant g.level (some j.id) covers
  have hsame := (p.arrived j.grant g d).letGo_raised j.grant g.level (some j.id) covers
  have hstays := fun n => Part.slice_letGo_of_stays (p := p.arrived j.grant g d) (g := j.grant) (n := n) g.level
    (some j.id) (keep := covers)
  have hsize : (p.arrived j.grant g d).slices.length = 1024 := by
    rw [hframe]
    simpa [p] using hslices
  have hslice : ∀ n, (p.arrived j.grant g d).slice n = (s.part.slice n).elapse r.left := fun n => by
    rw [hframe]
    exact s.part.slice_elapse r.left n
  have hwaiter : (p.arrived j.grant g d).waiterOf (some j.id) =
      (s.part.waiterOn j.id).map fun w => { w with run := w.run.map (Run.elapse r.left) } := by
    rw [← Part.waiterOn_elapse hq, hframe]
    rfl
  have hpassed := fun n w e hw he huse hin hout => Part.slice_letGo_of_passes (g := j.grant) (n := n) (w := w) (e := e)
    (ended := some j.id) (keep := covers) hsize hw he huse hin hout g.level
  have hgone := fun n hheld hout hnone => Part.slice_letGo_of_not_passed (g := j.grant) (n := n) (ended := some j.id)
    (keep := covers) hsize hheld hout hnone g.level
  obtain ⟨events, hexec, hkept, hdone, hrelocated⟩ := State.holdEnd_of_change
    (q := (p.arrived j.grant g d).letGo j.grant g.level (some j.id) covers) hq hb hc hr hphase hk hd hg ht
    (by rw [hsame, hlen]; exact hlt') (by rw [hmap.tenants, hframe]; rfl) rfl
  have hengine : ((p.arrived j.grant g d).letGo j.grant g.level (some j.id) covers).engine = p.engine := by
    rw [hmap.engine, hframe]
  have halloc : ((p.arrived j.grant g d).letGo j.grant g.level (some j.id) covers).alloc =
      (p.arrived j.grant g d).alloc := by
    obtain ⟨_, _, _, hgo⟩ := hmap
    rw [hgo]
  have hjudged : p.placeBad g.cls t d = bad := by simp only [p, bad, Part.placeBad_elapse]
  have hheldSlice : ∀ n, (s.part.slice n).heldBy j.grant = true → (p.arrived j.grant g d).slice n = s.part.slice n :=
    fun n hheld => (hslice n).trans (SliceEntry.elapse_of_heldBy hheld r.left)
  generalize (p.arrived j.grant g d).letGo j.grant g.level (some j.id) covers = u at *
  rw [hexec]
  refine ⟨_, rfl, ?_, fun hbad hi => ?_, fun h hne => (Part.grant_congr hmap.grants h).trans (hother h hne), ?_, hdone,
    hrelocated, ?_, fun n hn => ?_, fun n hheld hout => ⟨fun w e hpass => ?_, fun hnone htwice => ?_⟩⟩
  · refine (Part.grant_congr hmap.grants _).trans (hself.trans ?_)
    rw [hjudged]
    rfl
  · obtain ⟨hset, hwork⟩ := hturn (hjudged.trans hbad) hi
    exact ⟨hkept _ _ (by rwa [hsame]), by rwa [← halloc] at hwork⟩
  · refine hmap.tenants.trans ?_
    rw [hframe]
    rfl
  · dsimp only
    rw [hengine]
    rfl
  · exact (hstays n (by rwa [hslice, SliceEntry.heldBy_elapse])).trans (hslice n)
  · obtain ⟨hw, he, huse, hin⟩ := hpass
    refine (hpassed n { w with run := w.run.map (Run.elapse r.left) } e (by rw [hwaiter, hw]; rfl) he
      (by rwa [hheldSlice n hheld]) (by rw [hclass]; exact hin) hout).trans ?_
    rw [hheldSlice n hheld]
  · have hrows := hgone n (by rwa [hheldSlice n hheld]) hout fun w e hw he huse => ?_
    · rw [hheldSlice n hheld] at hrows
      obtain ⟨hfree, hmarked⟩ := hrows
      exact ⟨hfree htwice, hmarked⟩
    · rw [hwaiter] at hw
      obtain ⟨i, hi, rfl⟩ := Option.map_eq_some_iff.mp hw
      rw [hheldSlice n hheld] at huse
      rw [hclass]
      exact Bool.eq_false_iff.mpr fun hin => hnone i e ⟨hi, he, huse, hin⟩

end Sys2Proof.Machine
end

section
/-! JOB_START (R105, R107, R108): O56. -/

namespace Sys2Proof.Machine

/-! ### A job takes one run after another -/

/-- The job that has taken a run is the only one of its id. -/
theorem Part.holdsJob_withRun {p : Part} {j : Job} (h : p.holdsJob j) (run : Run) :
    (p.withRun j.id run).holdsJob { j with run := some run } := by
  refine ⟨List.mem_map.mpr ⟨j, h.1, if_pos rfl⟩, fun k hk hid => ?_⟩
  obtain ⟨i, hi, rfl⟩ := List.mem_map.mp hk
  by_cases e : i.id = j.id
  · rw [if_pos e, h.2 i hi e]
  · rw [if_neg e] at hid
    exact absurd hid e

theorem Part.withRun_withRun (p : Part) (id : Nat) (x y : Run) : (p.withRun id x).withRun id y = p.withRun id y := by
  have hjobs : (p.withRun id x).engine.jobs.map (fun k => if k.id = id then { k with run := some y } else k) =
      p.engine.jobs.map fun k => if k.id = id then { k with run := some y } else k := by
    refine (List.map_map ..).trans (List.map_congr_left fun k _ => ?_)
    by_cases e : k.id = id <;> simp [e]
  rw [Part.withRun, hjobs]
  rfl

/-- SETUP begins in full, with a setup time that is not 0 (R109). -/
theorem Part.beginSetup_of_run {p : Part} {j : Job} {r : Run} (h : p.holdsJob j) (hr : j.run = some r)
    (hsetup : r.timings.setup ≠ 0) :
    p.beginSetup j.id = p.withRun j.id { r with phase := .setup, left := r.timings.setup } := by
  have hmap := Part.mapJob_eq_withRun h
    (f := fun k => { k with run := k.run.map fun r => { r with phase := .setup, left := r.timings.setup } })
    (run := { r with phase := .setup, left := r.timings.setup }) (by simp [hr])
  simp only [Part.beginSetup, hmap, Part.job_withRun h, Option.any_some, beq_false_of_ne hsetup, Bool.false_eq_true,
    if_false]

/-! ### The first phase of a job (R107, R108) -/

/-- The run of a job as it takes its channel, with copies of its class's timings. -/
def Run.starting (c : Nat) (tm : Timings) : Run := ⟨c, .setup, 0, 0, none, tm⟩

section

variable {p : Part} {j : Job} {r : Grant}

theorem Part.startIn_eq (h : p.holdsJob j) (hr : p.grant j.grant = some r) (c : Nat) :
    Part.startIn j c p = Part.firstPhase j (p.withRun j.id (.starting c (p.engine.timings r.cls))) := by
  have hclass : p.jobClass j = r.cls := by rw [Part.jobClass, hr]; rfl
  rw [Part.startIn, Part.mapJob_eq_withRun h]
  rw [hclass]
  rfl

theorem Part.startIn_of_release (h : p.holdsJob j) (hr : p.grant j.grant = some r) (hk : j.kind = .release)
    (hhold : (p.engine.timings r.cls).hold ≠ 0) (c : Nat) :
    Part.startIn j c p = p.withRun j.id (Run.starting c (p.engine.timings r.cls)).held := by
  have hbegin := Part.beginHold_of_run (Part.holdsJob_withRun h (.starting c (p.engine.timings r.cls))) rfl hhold
  rw [Part.startIn_eq h hr, Part.firstPhase, if_pos (by simp [hk])]
  exact hbegin.trans (p.withRun_withRun _ _ _)

theorem Part.isShrink_iff {d : Place} (hd : j.dest = some d) (hr : p.grant j.grant = some r) :
    p.isShrink j = true ↔ j.kind = .resize ∧ d.width ≤ r.width := by
  simp [Part.isShrink, hd, hr]

theorem Part.startIn_of_shrink {d : Place} (h : p.holdsJob j) (hr : p.grant j.grant = some r) (hk : j.kind = .resize)
    (hd : j.dest = some d) (hw : d.width ≤ r.width)
    (hclaimed : ∀ n, d.first ≤ n → n < d.first + d.width → (p.slice n).use ≠ .claimed j.grant) (c : Nat) :
    Part.startIn j c p = p.withRun j.id (Run.starting c (p.engine.timings r.cls)).strobing := by
  have hbegin := Part.beginStrobe_of_run (Part.holdsJob_withRun h (.starting c (p.engine.timings r.cls))) rfl
  have hshrink : (p.withRun j.id (.starting c (p.engine.timings r.cls))).isShrink j = true :=
    (Part.isShrink_iff (p := p.withRun _ _) hd hr).mpr ⟨hk, hw⟩
  rw [Part.startIn_eq h hr, Part.firstPhase, if_neg (by simp [hk]), if_pos hshrink]
  refine hbegin.trans ?_
  rw [p.withRun_withRun, hd]
  exact Part.radiating_of_none_claimed hclaimed

theorem Part.startIn_of_setup (h : p.holdsJob j) (hr : p.grant j.grant = some r) (hk : j.kind ≠ .release)
    (hgrows : p.isShrink j = false) (hsetup : (p.engine.timings r.cls).setup ≠ 0) (c : Nat) :
    Part.startIn j c p = p.withRun j.id { Run.starting c (p.engine.timings r.cls) with
      left := (p.engine.timings r.cls).setup } := by
  have hbegin := Part.beginSetup_of_run (Part.holdsJob_withRun h (.starting c (p.engine.timings r.cls))) rfl hsetup
  have hgrows' : (p.withRun j.id (.starting c (p.engine.timings r.cls))).isShrink j = false := hgrows
  rw [Part.startIn_eq h hr, Part.firstPhase, if_neg (by simp [hk]), if_neg (by simp [hgrows'])]
  exact hbegin.trans (p.withRun_withRun _ _ _)

end

/-- One start, after which the engine finds no job or no channel. -/
theorem State.jobStart_once {s : State} {j : Job} {c : Nat} {run : Run} (hb : s.part.store.batch = none)
    (hfind : s.part.engine.jobs.find? s.part.eligible = some j) (hchannel : s.part.freeChannel = some c)
    (hstart : Part.startIn j c s.part = s.part.withRun j.id run)
    (hstuck : (s.part.withRun j.id run).freeChannel = none ∨
      (s.part.withRun j.id run).engine.jobs.find? (s.part.withRun j.id run).eligible = none) :
    exec .jobStart s = .next { s with part := s.part.withRun j.id run } := by
  have hnext : s.part.startNext = s.part.withRun j.id run := by
    simp only [Part.startNext, hfind, hchannel, hstart]
    exact Part.progressBatch_of_none hb
  obtain ⟨k, hk⟩ : ∃ k, s.part.engine.jobs.length = k + 1 :=
    Nat.exists_eq_add_one.mpr (List.length_pos_of_mem (List.mem_of_find?_eq_some hfind))
  have hjob : s.part.startJob = s.part.withRun j.id run := by
    rw [Part.startJob, hk, Part.startJobs, hnext, Part.startJobs_of_stuck hstuck.symm]
  change s.act Part.startJob = _
  rw [State.act_eq, hjob, Part.commitTest_of_same (p := s.part) (q := s.part.withRun j.id run) rfl rfl]

/-! ### Every start leaves fewer jobs queued (R105) -/

/-- The number of jobs in phase QUEUED. -/
def Part.queued (p : Part) : Nat := p.engine.jobs.countP (·.run.isNone)

theorem countP_lt_of_mem {α : Type} {l : List α} {f g : α → Bool} (h : ∀ a ∈ l, f a = true → g a = true) {a : α}
    (ha : a ∈ l) (hf : f a = false) (hg : g a = true) : l.countP f < l.countP g := by
  obtain ⟨l₁, l₂, rfl⟩ := List.append_of_mem ha
  have h₁ : l₁.countP f ≤ l₁.countP g := List.countP_mono_left fun b hb => h b (by simp [hb])
  have h₂ : l₂.countP f ≤ l₂.countP g := List.countP_mono_left fun b hb => h b (by simp [hb])
  simp only [List.countP_append, List.countP_cons, hf, hg, Bool.false_eq_true, if_false, if_true]
  omega

theorem Part.queued_congr {p q : Part} (h : q.engine.jobs = p.engine.jobs) : q.queued = p.queued := by
  rw [Part.queued, h, Part.queued]

/-- A change of a job that queues none. -/
theorem Part.queued_mapJob_le (p : Part) (id : Nat) {f : Job → Job} (hf : ∀ j, (f j).run = none → j.run = none) :
    (p.mapJob id f).queued ≤ p.queued := by
  rw [Part.queued, Part.mapJob_engine, List.countP_map]
  refine List.countP_mono_left fun j _ h => ?_
  dsimp only [Function.comp] at h
  split at h
  · simpa using hf j (by simpa using h)
  · exact h

theorem Part.engine_reportEnd (p : Part) (j : Job) (done : Bool) : (p.reportEnd j done).engine = p.engine := by
  unfold Part.reportEnd
  split
  · rfl
  · rfl
  · split <;> rfl

/-- The jobs that remain after DONE run as they ran. -/
theorem Part.jobs_finish (p : Part) (j : Job) : ∃ f : Job → Job, (∀ i, (f i).run = i.run) ∧
    (p.finish j).engine.jobs = (p.engine.jobs.filter fun i => i.id != j.id).map f := by
  cases hr : p.grant j.grant with
  | none =>
    have hdrop : p.finish j = p.dropJob j.id := by simp only [Part.finish, Part.finishWith, hr]
    exact ⟨id, fun _ => rfl, by rw [hdrop, Part.dropJob_engine, List.map_id]⟩
  | some r =>
    obtain ⟨-, hjobs⟩ := p.finishing_keeps j r
    refine ⟨fun i => if i.after == some j.id then { i with after := none } else i, fun i => ?_, ?_⟩
    · dsimp only
      split <;> rfl
    · rw [Part.finish_of_grant hr, Part.engine_reportEnd, Part.jobs_closing, hjobs]

theorem Part.queued_finish_le (p : Part) (j : Job) : (p.finish j).queued ≤ p.queued := by
  obtain ⟨f, hf, hjobs⟩ := p.jobs_finish j
  have hrun : (fun i : Job => i.run.isNone) ∘ f = fun i => i.run.isNone := funext fun i => congrArg Option.isNone (hf i)
  rw [Part.queued, hjobs, List.countP_map, hrun]
  exact List.filter_sublist.countP_le

theorem Part.queued_beginHold_le (p : Part) (id : Nat) : (p.beginHold id).queued ≤ p.queued := by
  have hmap := p.queued_mapJob_le id
    (f := fun j => { j with run := j.run.map fun r => { r with phase := .hold, left := r.timings.hold } }) (by simp)
  unfold Part.beginHold
  dsimp only
  split
  · split
    · exact (Part.queued_finish_le _ _).trans hmap
    · exact hmap
  · exact hmap

theorem Part.queued_beginStrobe_le (p : Part) (id : Nat) : (p.beginStrobe id).queued ≤ p.queued := by
  have hmap := p.queued_mapJob_le id (f := fun j => { j with run := j.run.map fun r =>
    { r with
      phase := .strobe, strobeLeft := r.timings.strobeMin
      lockLeft := lockWait r.timings.lockMax r.timings.strobeMin } }) (by simp)
  unfold Part.beginStrobe
  dsimp only
  split
  · next j _ =>
    split
    · next d _ =>
      refine le_trans (Part.queued_congr ?_).le hmap
      rw [Part.radiate_eq]
      change (Part.mapSlices _ (SliceEntry.radiated j.grant) (List.range' d.first d.width)).engine.jobs = _
      rw [(Part.mapSlices_frame _ _ _).1]
    · exact hmap
  · exact hmap

theorem Part.queued_beginSetup_le (p : Part) (id : Nat) : (p.beginSetup id).queued ≤ p.queued := by
  have hmap := p.queued_mapJob_le id
    (f := fun j => { j with run := j.run.map fun r => { r with phase := .setup, left := r.timings.setup } }) (by simp)
  unfold Part.beginSetup
  dsimp only
  split
  · split
    · exact (Part.queued_beginStrobe_le _ _).trans hmap
    · exact hmap
  · exact hmap

theorem Part.queued_firstPhase_le (j : Job) (p : Part) : (Part.firstPhase j p).queued ≤ p.queued := by
  unfold Part.firstPhase
  split
  · exact p.queued_beginHold_le _
  · split
    · exact p.queued_beginStrobe_le _
    · exact p.queued_beginSetup_le _

/-- A batch that goes on issues and ends no job. -/
theorem Part.engine_progressBatch (p : Part) : p.progressBatch.engine = p.engine := by
  have hsettle : ∀ q : Part, q.settlePhaseB.engine = q.engine := fun q => by
    unfold Part.settlePhaseB Part.endBatch
    split
    · split
      · split <;> rfl
      · rfl
    · rfl
  have hlevel : ∀ (q : Part) (e : LineupEntry), (q.applyLevel e).engine = q.engine := fun q e => by
    unfold Part.applyLevel
    split
    · rfl
    · dsimp only
      split
      · rfl
      · exact (Part.mapOnly_capTest _).engine
  have hlevels : ∀ (es : List LineupEntry) (q : Part), (es.foldl Part.applyLevel q).engine = q.engine := fun es => by
    induction es with
    | nil => exact fun _ => rfl
    | cons e es ih => exact fun q => (ih _).trans (hlevel q e)
  unfold Part.progressBatch
  split
  · rfl
  · split
    · exact (hsettle _).trans (hlevels _ _)
    · exact hsettle _

/-- The engine can start nothing: no channel is free, or no job is eligible. -/
def Part.stuck (p : Part) : Prop := p.freeChannel = none ∨ p.engine.jobs.find? p.eligible = none

theorem Part.run_of_eligible {p : Part} {j : Job} (h : p.eligible j = true) : j.run = none := by
  simp only [Part.eligible, Bool.and_eq_true, Option.isNone_iff_eq_none] at h
  obtain ⟨⟨⟨-, hrun⟩, -⟩, -⟩ := h
  exact hrun

/-- A start takes a job out of phase QUEUED and puts none into it. -/
theorem Part.queued_startNext_lt {p : Part} (h : ¬p.stuck) : p.startNext.queued < p.queued := by
  obtain ⟨hchannel, hfind⟩ := not_or.mp h
  obtain ⟨c, hc⟩ := Option.ne_none_iff_exists'.mp hchannel
  obtain ⟨j, hj⟩ := Option.ne_none_iff_exists'.mp hfind
  have hrun := Part.run_of_eligible (List.find?_some hj)
  have hnext : p.startNext = (Part.startIn j c p).progressBatch := by simp only [Part.startNext, hj, hc]
  rw [hnext, Part.queued_congr (congrArg Engine.jobs (Part.startIn j c p).engine_progressBatch)]
  refine (Part.queued_firstPhase_le _ _).trans_lt ?_
  rw [Part.queued, Part.mapJob_engine, List.countP_map]
  refine countP_lt_of_mem (fun k _ hk => ?_) (List.mem_of_find?_eq_some hj) (by simp) (by simp [hrun])
  dsimp only [Function.comp] at hk
  split at hk
  · simp at hk
  · exact hk

/-- As many starts as jobs are queued leave nothing to start. -/
theorem Part.stuck_startJobs (n : Nat) {p : Part} (h : p.queued ≤ n) : (p.startJobs n).stuck := by
  induction n generalizing p with
  | zero =>
    refine .inr (List.find?_eq_none.mpr fun j hj hel => ?_)
    have hnone := List.countP_eq_zero.mp (Nat.le_zero.mp h) j hj
    simp [Part.run_of_eligible hel] at hnone
  | succ n ih =>
    by_cases hs : p.stuck
    · rwa [Part.startJobs_of_stuck hs.symm]
    · exact ih (Nat.le_of_lt_succ ((Part.queued_startNext_lt hs).trans_le h))

theorem Part.startJob_of_stuck {p : Part} (h : p.stuck) : p.startJob = p := Part.startJobs_of_stuck h.symm _

theorem Part.stuck_startJob (p : Part) : p.startJob.stuck := Part.stuck_startJobs _ List.countP_le_length

/-- The test of an act starts no job and frees no channel. -/
theorem Part.stuck_commitTest {p q : Part} : (p.commitTest q).stuck ↔ q.stuck := by
  obtain ⟨raised, hcommit, -⟩ := p.commitTest_frame q
  rw [hcommit]
  rfl

/-- Settles O56: one start by the kind of its job, and the starts counted by the jobs still queued. -/
theorem jobStartsInLowestChannel : Obligations.JobStartsInLowestChannel := by
  refine ⟨fun s j c r hb hfind hchannel hr huniq => ?_, fun s t h => ?_⟩
  · intro stuck tm started starts
    have hj : s.part.holdsJob j := ⟨List.mem_of_find?_eq_some hfind, huniq⟩
    refine ⟨fun hk hhold hstuck => ?_, fun d hk hd hw hclaimed hstuck => ?_, fun hk hsetup hstuck => ?_⟩
    · exact State.jobStart_once hb hfind hchannel (Part.startIn_of_release hj hr hk hhold c) hstuck
    · exact State.jobStart_once hb hfind hchannel (Part.startIn_of_shrink hj hr hk hd hw hclaimed c) hstuck
    · have hgrows : s.part.isShrink j = false := Bool.eq_false_iff.mpr fun hshrink => by
        rcases hk with hk | hk | ⟨-, d, hd, hw⟩
        · simp [Part.isShrink, hk] at hshrink
        · simp [Part.isShrink, hk] at hshrink
        · obtain ⟨-, hle⟩ := (Part.isShrink_iff hd hr).mp hshrink
          omega
      have hrelease : j.kind ≠ .release := by rcases hk with hk | hk | ⟨hk, -⟩ <;> simp [hk]
      exact State.jobStart_once hb hfind hchannel (Part.startIn_of_setup hj hr hrelease hgrows hsetup c) hstuck
  · cases h
    refine (Part.stuck_commitTest.mpr s.part.stuck_startJob).imp_right fun hnone k hk => ?_
    simpa using List.find?_eq_none.mp hnone k hk

end Sys2Proof.Machine
end

section
/-! QUIET (R120, R121, R128, R174): O54. -/

namespace Sys2Proof.Machine

/-! ### The pointer leaves a dwell (R127, R128, R130) -/

/-- The marks of a sweep join the attempt list in their order, those listed already left out (R63). -/
theorem Part.foldl_markAttempt {ns : List Nat} (hn : ns.Nodup) (p : Part) :
    ns.foldl Part.markAttempt p = { p with alloc := { p.alloc with
      work := p.alloc.work ++ (ns.filter fun g => !p.alloc.work.contains (.attempt g)).map .attempt } } := by
  induction ns generalizing p with
  | nil => simp
  | cons k ns ih =>
    obtain ⟨hk, hn⟩ := List.nodup_cons.mp hn
    rw [List.foldl_cons, ih hn]
    unfold Part.markAttempt
    by_cases h : p.alloc.work.contains (.attempt k) = true
    · rw [if_pos h, List.filter_cons_of_neg (by simpa using h)]
    · rw [if_neg h, List.filter_cons_of_pos (by simpa using h)]
      have hfilter : (ns.filter fun g => !(p.alloc.work ++ [Work.attempt k]).contains (.attempt g)) =
          ns.filter fun g => !p.alloc.work.contains (.attempt g) := by
        refine List.filter_congr fun g hg => ?_
        have hne : g ≠ k := fun e => hk (e ▸ hg)
        simp [hne]
      simp only [hfilter, List.map_cons, List.append_assoc, List.singleton_append]

/-- SWEEP_DONE is raised, and every grant that is relocation-pending and not yet listed joins the attempt list. -/
theorem Part.sweepDone_eq (p : Part) : p.sweepDone = { p with
    events := { p.events with plantRaised := p.events.plantRaised ||| 0x10 }
    alloc := { p.alloc with work := p.alloc.work ++ ((List.range 96).filter fun g =>
      (p.grant g).any (·.relocationPending) && !p.alloc.work.contains (.attempt g)).map .attempt } } := by
  rw [Part.sweepDone, Part.foldl_markAttempt (List.nodup_range.filter _), List.filter_filter]
  simp only [Bool.and_comm]
  rfl

theorem Part.advance_of_ahead {p : Part} {n m : Nat} (h : p.firstMeasurable (n + 1) p.monitor.active.last = some m) :
    p.advance n = p.dwellOn (some m) := by
  simp only [Part.advance, h]

theorem Part.advance_of_wrapped {p : Part} {n m : Nat} (hahead : p.firstMeasurable (n + 1) p.monitor.active.last = none)
    (h : p.firstMeasurable p.monitor.active.first p.monitor.active.last = some m) :
    p.advance n = p.sweepDone.dwellOn (some m) := by
  simp only [Part.advance, hahead, h]

theorem Part.advance_of_idle {p : Part} {n : Nat} (hahead : p.firstMeasurable (n + 1) p.monitor.active.last = none)
    (h : p.firstMeasurable p.monitor.active.first p.monitor.active.last = none) : p.advance n = p.dwellOn none := by
  simp only [Part.advance, hahead, h]

theorem Part.afterDwell_of_advance {p : Part} (h : p.monitor.restartWaiting = false) (n : Nat) :
    p.afterDwell n = p.advance n := by
  simp only [Part.afterDwell, h, Bool.false_eq_true, if_false]

theorem Part.afterDwell_of_restart {p : Part} (h : p.monitor.restartWaiting = true) {m : Nat}
    (hm : p.firstMeasurable p.monitor.waiting.first p.monitor.waiting.last = some m) (n : Nat) :
    p.afterDwell n = { p with monitor := { p.monitor with
      active := p.monitor.waiting, restartWaiting := false, pointer := m,
      dwell := some ⟨m, p.monitor.waiting.dwell⟩ } } := by
  rw [Part.afterDwell, if_pos h, Part.restart, Part.startSweep]
  change Part.dwellOn _ (p.firstMeasurable p.monitor.waiting.first p.monitor.waiting.last) = _
  rw [hm]
  rfl

/-! ### QUIET_ENTER -/

/-- Outside QUIET, with no dwell on a forward slice, only the flag changes. -/
theorem Part.enterQuiet_of_other {p : Part} (hq : p.engine.quiet = false)
    (h : ∀ d, p.monitor.dwell = some d → p.inForward d.slice = false) :
    Part.enterQuiet () p = (p.setQuiet true, doneWith [3]) := by
  have hin : ∀ n, (p.setQuiet true).inForward n = p.inForward n := fun _ => rfl
  simp only [Part.enterQuiet, hq, Bool.false_eq_true, if_false, Part.setQuiet_monitor]
  cases hd : p.monitor.dwell with
  | none => rfl
  | some d => simp only [hin, h d hd, Bool.false_eq_true, if_false]

/-- A dwell on a forward slice is discarded. -/
theorem Part.enterQuiet_of_forward {p : Part} (hq : p.engine.quiet = false) {d : Dwell} (hd : p.monitor.dwell = some d)
    (h : p.inForward d.slice = true) :
    Part.enterQuiet () p = ((p.setQuiet true).afterDwell d.slice, doneWith [3]) := by
  have hin : (p.setQuiet true).inForward d.slice = true := h
  simp only [Part.enterQuiet, hq, Bool.false_eq_true, if_false, Part.setQuiet_monitor, hd, hin, if_true]

theorem Part.enterQuiet_of_quiet {p : Part} (hq : p.engine.quiet = true) :
    Part.enterQuiet () p = (p, doneWith [1]) := by
  simp only [Part.enterQuiet, hq, if_true]

/-- QUIET_ENTER that sets the flag and leaves a part with the tenants and the grants as they were. -/
theorem State.quietEnter_of_forward {s : State} {tag : Byte} (ha : s.awaits (.quietEnter tag (some ())) tag)
    (hq : s.part.engine.quiet = false) {d : Dwell} (hd : s.part.monitor.dwell = some d)
    (h : s.part.inForward d.slice = true) {u : Part} (hu : (s.part.setQuiet true).afterDwell d.slice = u)
    (ht : u.tenants = s.part.tenants) (hg : u.grants = s.part.grants) :
    exec (.quietEnter tag (some ())) s =
      .next (s.answers (.quietEnter tag (some ())) tag 0x72 (doneWith [3]) u) :=
  State.serve_of_same 0x72 (Part.enterQuiet ()) ha (by rw [Part.enterQuiet_of_forward hq hd h, hu]) ht hg

/-! ### The cycles resume at QUIET_LEAVE (R121) -/

/-- A STROBE that begins its lock wait afresh beside what is left of its minimum. -/
def Run.renewed (x : Run) : Run := { x with lockLeft := lockWait x.timings.lockMax x.strobeLeft }

/-- The run of a cycle that goes on from where QUIET paused it. -/
def Run.resumed (x : Run) : Run := if x.phase = .strobe then x.renewed else x

/-- The STROBE of a job ends at the leave. -/
def Part.endsStrobe (p : Part) (j : Job) (x : Run) : Prop :=
  x.strobeLeft = 0 ∧ ((∃ t, p.jobTenant j = some t ∧ p.asserted t = true) ∨ x.timings.lockMax = 0)

theorem Part.strobeSatisfied_renewed {p : Part} {j : Job} {x : Run} (hphase : x.phase = .strobe) :
    p.strobeSatisfied j x.renewed = true ↔ p.endsStrobe j x := by
  have hlock : x.renewed.lockLeft = none ↔ x.timings.lockMax ≤ x.strobeLeft := by
    simp [Run.renewed, lockWait]
  have hphase' : x.renewed.phase = .strobe := hphase
  have hleft : x.renewed.strobeLeft = x.strobeLeft := rfl
  simp only [Part.strobeSatisfied, hphase', hleft, beq_self_eq_true, Bool.true_and, Bool.and_eq_true, beq_iff_eq,
    Bool.or_eq_true, Option.isNone_iff_eq_none, hlock, Option.any_eq_true, Part.endsStrobe]
  refine and_congr_right fun hzero => ?_
  rw [hzero, Nat.le_zero, or_comm]

theorem Part.resumeChannel_of_free {p : Part} {c : Nat} (h : p.jobIn c = none) : p.resumeChannel c = p := by
  simp only [Part.resumeChannel, h]

section

variable {p : Part} {c : Nat} {j : Job} {x : Run}

theorem Part.resumeChannel_of_left (hc : p.jobIn c = some j) (hx : j.run = some x) (hphase : x.phase ≠ .strobe)
    (hleft : x.left ≠ 0) : p.resumeChannel c = p := by
  simp only [Part.resumeChannel, hc, hx, beq_false_of_ne hleft, Bool.false_eq_true, if_false]
  split
  · rfl
  · rfl
  · next h => exact absurd h hphase

theorem Part.resumeChannel_of_setup (hc : p.jobIn c = some j) (hx : j.run = some x) (hphase : x.phase = .setup)
    (hleft : x.left = 0) : p.resumeChannel c = p.beginStrobe j.id := by
  simp only [Part.resumeChannel, hc, hx, hphase, hleft, beq_self_eq_true, if_true]

theorem Part.resumeChannel_of_hold (hc : p.jobIn c = some j) (hx : j.run = some x) (hphase : x.phase = .hold)
    (hleft : x.left = 0) : p.resumeChannel c = p.finish j := by
  simp only [Part.resumeChannel, hc, hx, hphase, hleft, beq_self_eq_true, if_true]

theorem Part.resumeChannel_of_strobe (hc : p.jobIn c = some j) (hx : j.run = some x) (hphase : x.phase = .strobe) :
    let q := p.mapJob j.id fun k => { k with run := some x.renewed }
    p.resumeChannel c = if q.strobeSatisfied j x.renewed then q.beginHold j.id else q := by
  simp only [Part.resumeChannel, hc, hx]
  split
  · next h => simp [hphase] at h
  · next h => simp [hphase] at h
  · rfl

end

/-! ### Every cycle goes on -/

/-- The jobs after the channels `cs` have resumed and no phase has ended. -/
def Part.resumedIn (p : Part) (cs : List Nat) : Part :=
  { p with engine := { p.engine with jobs := p.engine.jobs.map fun k =>
    { k with run := k.run.map fun x => if x.channel ∈ cs then x.resumed else x } } }

theorem Run.channel_resumed (x : Run) : x.resumed.channel = x.channel := by
  unfold Run.resumed
  split <;> rfl

theorem Part.jobIn_resumedIn (p : Part) (cs : List Nat) (c : Nat) : (p.resumedIn cs).jobIn c =
    (p.jobIn c).map fun k => { k with run := k.run.map fun x => if x.channel ∈ cs then x.resumed else x } := by
  have hsame : (fun k : Job =>
      (k.run.map fun x => if x.channel ∈ cs then x.resumed else x).any fun r => r.channel == c) =
      fun k => k.run.any fun r => r.channel == c := by
    funext k
    cases k.run with
    | none => rfl
    | some x =>
      simp only [Option.map_some, Option.any_some]
      split
      · rw [Run.channel_resumed]
      · rfl
  rw [Part.jobIn, Part.resumedIn, List.find?_map]
  exact congrArg (fun f => (p.engine.jobs.find? f).map _) hsame

/-- No two jobs share an id or a channel, and no phase of a running one has come to its end. -/
structure Part.GoesOn (p : Part) : Prop where
  ids : ∀ k ∈ p.engine.jobs, ∀ l ∈ p.engine.jobs, k.id = l.id → k = l
  channels : ∀ k ∈ p.engine.jobs, ∀ l ∈ p.engine.jobs, ∀ x y, k.run = some x → l.run = some y →
    x.channel = y.channel → k = l
  timed : ∀ k ∈ p.engine.jobs, ∀ x, k.run = some x → x.phase ≠ .strobe → x.left ≠ 0
  strobes : ∀ k ∈ p.engine.jobs, ∀ x, k.run = some x → x.phase = .strobe → ¬p.endsStrobe k x

/-- A channel in which nothing of STROBE runs has nothing to resume. -/
theorem Part.resumedIn_cons_of_same {p : Part} {c : Nat} (cs : List Nat)
    (h : ∀ k ∈ p.engine.jobs, ∀ x, k.run = some x → x.channel = c → x.phase ≠ .strobe) :
    p.resumedIn (c :: cs) = p.resumedIn cs := by
  have hjobs : (p.resumedIn (c :: cs)).engine.jobs = (p.resumedIn cs).engine.jobs := by
    refine List.map_congr_left fun k hk => ?_
    cases hx : k.run with
    | none => rfl
    | some x =>
      by_cases hc : x.channel = c
      · simp [hc, Run.resumed, h k hk x hx hc]
      · simp [hc]
  rw [Part.resumedIn] at hjobs ⊢
  exact congrArg (fun js => ({ p with engine := { p.engine with jobs := js } } : Part)) hjobs

/-- The channel of a STROBE that waits on. -/
theorem Part.GoesOn.mapJob_resumedIn {p : Part} (h : p.GoesOn) {c : Nat} (cs : List Nat) {k : Job} {x : Run}
    (hk : k ∈ p.engine.jobs) (hx : k.run = some x) (hchannel : x.channel = c) (hphase : x.phase = .strobe) :
    ((p.resumedIn cs).mapJob k.id fun k => { k with run := some x.renewed }) = p.resumedIn (c :: cs) := by
  have hjobs : ((p.resumedIn cs).mapJob k.id fun k => { k with run := some x.renewed }).engine.jobs =
      (p.resumedIn (c :: cs)).engine.jobs := by
    refine (List.map_map ..).trans (List.map_congr_left fun l hl => ?_)
    by_cases hid : l.id = k.id
    · cases h.ids l hl k hk hid
      simp [hx, hchannel, Run.resumed, hphase]
    · have hother : ∀ y, l.run = some y → y.channel ≠ c := fun y hy e =>
        hid (congrArg Job.id (h.channels l hl k hk y x hy hx (e.trans hchannel.symm)))
      cases hy : l.run with
      | none => simp [hid, hy]
      | some y => simp [hid, hy, hother y hy]
  rw [Part.mapJob, Part.resumedIn] at hjobs ⊢
  exact congrArg (fun js => ({ p with engine := { p.engine with jobs := js } } : Part)) hjobs

/-- A channel resumes after others have. -/
theorem Part.GoesOn.resumeChannel {p : Part} (h : p.GoesOn) {c : Nat} {cs : List Nat} (hc : c ∉ cs) :
    (p.resumedIn cs).resumeChannel c = p.resumedIn (c :: cs) := by
  have hin := p.jobIn_resumedIn cs c
  cases hj : p.jobIn c with
  | none =>
    rw [hj] at hin
    rw [Part.resumeChannel_of_free hin, Part.resumedIn_cons_of_same]
    intro k hk x hx hchannel
    have hnone := List.find?_eq_none.mp hj k hk
    simp [hx, hchannel] at hnone
  | some k =>
    have hk := Part.mem_of_jobIn hj
    obtain ⟨x, hx, hchannel⟩ : ∃ x, k.run = some x ∧ x.channel = c := by
      simpa [Option.any_eq_true] using List.find?_some hj
    have hsame : (k.run.map fun x => if x.channel ∈ cs then x.resumed else x) = k.run := by
      simp [hx, hchannel, hc]
    rw [hj, Option.map_some, hsame] at hin
    by_cases hphase : x.phase = .strobe
    · have hmap := h.mapJob_resumedIn cs hk hx hchannel hphase
      have hends : (p.resumedIn (c :: cs)).strobeSatisfied k x.renewed = false :=
        Bool.eq_false_iff.mpr fun hsat => h.strobes k hk x hx hphase ((Part.strobeSatisfied_renewed hphase).mp hsat)
      have hstrobe := Part.resumeChannel_of_strobe hin hx hphase
      dsimp only at hstrobe
      rw [hmap, hends] at hstrobe
      exact hstrobe
    · rw [Part.resumeChannel_of_left hin hx hphase (h.timed k hk x hx hphase), Part.resumedIn_cons_of_same]
      intro l hl y hy hchannel'
      cases h.channels l hl k hk y x hy hx (hchannel'.trans hchannel.symm)
      cases hx.symm.trans hy
      exact hphase

theorem Part.GoesOn.foldl_resumeChannel {p : Part} (h : p.GoesOn) :
    [0, 1, 2, 3].foldl Part.resumeChannel p = p.resumedIn [3, 2, 1, 0] := by
  have hstart : p = p.resumedIn [] := by
    have hjobs : (p.engine.jobs.map fun k =>
        { k with run := k.run.map fun x => if x.channel ∈ ([] : List Nat) then x.resumed else x }) = p.engine.jobs := by
      simp
    rw [Part.resumedIn, hjobs]
  conv_lhs => rw [hstart]
  simp only [List.foldl_cons, List.foldl_nil]
  rw [h.resumeChannel (by simp), h.resumeChannel (by simp), h.resumeChannel (by simp), h.resumeChannel (by simp)]

/-! ### One cycle resumes -/

/-- No channel but `c` is taken. -/
def Part.onlyRuns (p : Part) (c : Nat) : Prop := ∀ k ∈ p.engine.jobs, ∀ x, k.run = some x → x.channel = c

theorem Part.onlyRuns.resumeChannel {p : Part} {a c : Nat} (h : p.onlyRuns a) (hc : c ≠ a) : p.resumeChannel c = p := by
  refine Part.resumeChannel_of_free (List.find?_eq_none.mpr fun k hk hin => ?_)
  obtain ⟨x, hx, hchannel⟩ : ∃ x, k.run = some x ∧ x.channel = c := by simpa [Option.any_eq_true] using hin
  exact hc (hchannel.symm.trans (h k hk x hx))

/-- With one channel taken before and after, the leave resumes that one. -/
theorem Part.onlyRuns.foldl_resumeChannel {p q : Part} {a : Nat} (hp : p.onlyRuns a) (hq : q.onlyRuns a) (ha : a < 4)
    (h : p.resumeChannel a = q) : [0, 1, 2, 3].foldl Part.resumeChannel p = q := by
  have hfold : ∀ cs : List Nat, cs.Nodup → cs.foldl Part.resumeChannel p = if a ∈ cs then q else p := by
    intro cs
    induction cs using List.reverseRecOn with
    | nil => simp
    | append_singleton cs c ih =>
      intro hn
      obtain ⟨hcs, -, hdisjoint⟩ := List.nodup_append.mp hn
      have hc : c ∉ cs := fun hmem => hdisjoint c hmem c (by simp) rfl
      rw [List.foldl_append, ih hcs, List.foldl_cons, List.foldl_nil]
      by_cases e : a = c
      · subst e
        rw [if_neg hc, if_pos (by simp), h]
      · simp only [List.mem_append, List.mem_singleton, e, or_false]
        split
        · exact hq.resumeChannel (Ne.symm e)
        · exact hp.resumeChannel (Ne.symm e)
  rw [hfold _ (by decide), if_pos (by simp; omega)]

theorem Part.onlyRuns_withRun {p : Part} {c : Nat} (h : p.onlyRuns c) (id : Nat) {x : Run} (hx : x.channel = c) :
    (p.withRun id x).onlyRuns c := by
  intro k hk y hy
  obtain ⟨i, hi, rfl⟩ := List.mem_map.mp hk
  split at hy
  · cases hy
    exact hx
  · exact h i hi y hy

/-- What remains in the list after DONE runs as it ran. -/
theorem Part.onlyRuns.finish {p : Part} {c : Nat} (h : p.onlyRuns c) (j : Job) : (p.finish j).onlyRuns c := by
  obtain ⟨f, hf, hjobs⟩ := p.jobs_finish j
  intro k hk x hx
  rw [hjobs] at hk
  obtain ⟨i, hi, rfl⟩ := List.mem_map.mp hk
  exact h i (List.mem_of_mem_filter hi) x ((hf i).symm.trans hx)

/-! ### QUIET_LEAVE -/

theorem Run.elapse_zero (r : Run) : r.elapse 0 = r := by
  unfold Run.elapse
  split <;> simp

theorem Part.elapse_zero (p : Part) : p.elapse 0 = p := by
  have hslice : SliceEntry.elapse 0 = id := by
    funext e
    unfold SliceEntry.elapse
    split
    · next left fill h => rw [Nat.sub_zero, ← h]; rfl
    · rfl
  have hrun : Run.elapse 0 = id := funext Run.elapse_zero
  have hslices : p.slices.map (SliceEntry.elapse 0) = p.slices := by rw [hslice, List.map_id]
  have hjobs : (if p.engine.quiet then p.engine.jobs
      else p.engine.jobs.map fun j => { j with run := j.run.map (Run.elapse 0) }) = p.engine.jobs := by
    simp [hrun]
  have hturnaround : p.engine.turnaround.map (·.map (· - 0)) = p.engine.turnaround := by simp
  have hdwell : (p.monitor.dwell.map fun d => { d with left := d.left - 0 }) = p.monitor.dwell := by simp
  rw [Part.elapse, hslices, hjobs, hturnaround, hdwell]

/-- The test of an act reads the tenants and the grants that stood before it. -/
theorem Part.commitTest_before {p q : Part} (ht : q.tenants = p.tenants) (hg : q.grants = p.grants) (u : Part) :
    q.commitTest u = p.commitTest u := by
  have hmeets : q.meetsCommit = p.meetsCommit := by
    funext t
    rw [Part.meetsCommit, Part.tenant_congr ht, Part.delivered_congr hg, Part.meetsCommit]
  rw [Part.commitTest, hmeets, Part.commitTest]

theorem Part.resumeSweep_of_dwell {p : Part} (h : p.monitor.dwell.isSome) : p.resumeSweep = p := by
  rw [Part.resumeSweep, if_neg (by simpa [Option.isSome_iff_ne_none] using h)]

theorem Part.resumeSweep_of_idle {p : Part} {n : Nat} (h : p.monitor.dwell = none)
    (hn : p.firstMeasurable p.monitor.active.first p.monitor.active.last = some n) :
    p.resumeSweep = p.dwellOn (some n) := by
  rw [Part.resumeSweep, if_pos (by simp [h]), Part.startSweep, hn]

/-- Channels below 4 have all resumed. -/
theorem Part.resumedIn_all {p : Part} (h : ∀ k ∈ p.engine.jobs, ∀ x, k.run = some x → x.channel < 4) :
    p.resumedIn [3, 2, 1, 0] = { p with engine := { p.engine with
      jobs := p.engine.jobs.map fun k => { k with run := k.run.map Run.resumed } } } := by
  have hjobs : (p.resumedIn [3, 2, 1, 0]).engine.jobs =
      p.engine.jobs.map fun k => { k with run := k.run.map Run.resumed } := by
    refine List.map_congr_left fun k hk => ?_
    cases hx : k.run with
    | none => rfl
    | some x =>
      have hin : x.channel ∈ [3, 2, 1, 0] := by
        have := h k hk x hx
        simp
        omega
      simp only [Option.map_some, if_pos hin]
  rw [Part.resumedIn] at hjobs ⊢
  exact congrArg (fun js => ({ p with engine := { p.engine with jobs := js } } : Part)) hjobs

section

variable {s : State} {tag : Byte} {u : Part}

/-- QUIET_LEAVE: the part with its cycles and its sweep resumed, and then the jobs that start. -/
theorem State.exec_quietLeave_of_quiet (ha : s.awaits (.quietLeave tag (some ())) tag) (hq : s.part.engine.quiet = true)
    (hu : ([0, 1, 2, 3].foldl Part.resumeChannel (s.part.setQuiet false)).resumeSweep.progressBatch = u) :
    exec (.quietLeave tag (some ())) s =
      .next (s.answers (.quietLeave tag (some ())) tag 0x73 (doneWith [2]) (s.part.commitTest u.startJob)) := by
  have howner : Part.leaveQuiet () s.part = (u.startJob, doneWith [2]) := by
    simp only [Part.leaveQuiet, hq, Bool.not_true, Bool.false_eq_true, if_false, hu]
  refine (State.serve_of_awaits 0x73 (Part.leaveQuiet ()) ha).trans ?_
  rw [howner]

/-- QUIET_LEAVE clears the flag and ends in what JOB_START makes of the part `u`. -/
def State.leavesInto (s : State) (tag : Byte) (u : Part) : Prop :=
  ∃ v, exec .jobStart { s with part := u } = .next { s with part := v } ∧ exec (.quietLeave tag (some ())) s =
    .next (s.answers (.quietLeave tag (some ())) tag 0x73 (doneWith [2]) v)

theorem State.leavesInto_of (ha : s.awaits (.quietLeave tag (some ())) tag) (hq : s.part.engine.quiet = true)
    (hb : u.store.batch = none)
    (hu : ([0, 1, 2, 3].foldl Part.resumeChannel (s.part.setQuiet false)).resumeSweep = u)
    (ht : u.tenants = s.part.tenants) (hg : u.grants = s.part.grants) : s.leavesInto tag u := by
  have hbatch := (congrArg Part.progressBatch hu).trans (Part.progressBatch_of_none hb)
  refine ⟨u.commitTest u.startJob, rfl, ?_⟩
  rw [Part.commitTest_before ht hg]
  exact State.exec_quietLeave_of_quiet ha hq hbatch

end

/-! ### The end of a phase at the leave (R120, R121) -/

/-- A part in QUIET with one running job, `j` in the run `x`, and a dwell in progress, and a QUIET_LEAVE that awaits its
service. -/
structure State.LeavesOne (s : State) (tag : Byte) (j : Job) (x : Run) : Prop where
  awaits : s.awaits (.quietLeave tag (some ())) tag
  quiet : s.part.engine.quiet = true
  job : s.part.holdsJob j
  run : j.run = some x
  channel : x.channel < 4
  alone : ∀ k ∈ s.part.engine.jobs, k.run.isSome → k = j
  dwell : s.part.monitor.dwell.isSome

section

variable {s : State} {tag : Byte} {j : Job} {x : Run} {u : Part}

theorem State.LeavesOne.jobIn (h : s.LeavesOne tag j x) : (s.part.setQuiet false).jobIn x.channel = some j := by
  refine find?_eq_some_of_unique h.job.1 (by simp [h.run]) fun k hk hrun => ?_
  obtain ⟨y, hy, -⟩ := (Option.any_eq_true _ _).mp hrun
  exact h.alone k hk (by simp [hy])

theorem State.LeavesOne.onlyRuns (h : s.LeavesOne tag j x) : (s.part.setQuiet false).onlyRuns x.channel := by
  intro k hk y hy
  cases h.alone k hk (by simp [hy])
  cases h.run.symm.trans hy
  rfl

/-- What the one cycle leaves is what jobs then start from. -/
theorem State.LeavesOne.resumes (h : s.LeavesOne tag j x) (hu : (s.part.setQuiet false).resumeChannel x.channel = u)
    (honly : u.onlyRuns x.channel) (hmonitor : u.monitor = s.part.monitor) :
    ([0, 1, 2, 3].foldl Part.resumeChannel (s.part.setQuiet false)).resumeSweep = u := by
  rw [h.onlyRuns.foldl_resumeChannel honly h.channel hu, Part.resumeSweep_of_dwell (by rw [hmonitor]; exact h.dwell)]

/-- A SETUP with no time left ends as at SETUP_END. -/
theorem State.LeavesOne.setup (h : s.LeavesOne tag j x) (hb : s.part.store.batch = none) (hphase : x.phase = .setup)
    (hleft : x.left = 0) : ∃ u, exec (.setupEnd x.channel) { s with part := s.part.setQuiet false } =
      .next { s with part := u } ∧ s.leavesInto tag u := by
  have hresume := (Part.resumeChannel_of_setup h.jobIn h.run hphase hleft).trans
    (Part.beginStrobe_of_run (p := s.part.setQuiet false) h.job h.run)
  have hend := State.exec_setupEnd (s := { s with part := s.part.setQuiet false }) rfl h.jobIn h.job h.run hphase
  dsimp only at hend
  rw [hleft, Part.elapse_zero, Run.elapse_zero] at hend
  refine ⟨_, hend, ?_⟩
  have honly := Part.onlyRuns_withRun h.onlyRuns j.id (x := x.strobing) rfl
  have hframe := ((s.part.setQuiet false).withRun j.id x.strobing).radiating_frame j.grant j.dest
  rw [hframe] at hresume ⊢
  exact State.leavesInto_of h.awaits h.quiet hb (h.resumes hresume honly rfl) rfl rfl

/-- A HOLD with no time left ends as at HOLD_END; where no job can start after it, that is the whole of the leave. -/
theorem State.LeavesOne.hold (h : s.LeavesOne tag j x) (hphase : x.phase = .hold) (hleft : x.left = 0) :
    ∃ u, exec (.holdEnd x.channel) { s with part := s.part.setQuiet false } = .next { s with part := u } ∧
      (u.stuck → exec (.quietLeave tag (some ())) s =
        .next (s.answers (.quietLeave tag (some ())) tag 0x73 (doneWith [2]) u)) := by
  have hresume := Part.resumeChannel_of_hold h.jobIn h.run hphase hleft
  have hin := Part.phaseIn_eq (p := s.part.setQuiet false) rfl h.jobIn h.run
  rw [hphase] at hin
  have hend : Part.endHold x.channel (s.part.setQuiet false) = ((s.part.setQuiet false).finish j).progressBatch := by
    simp only [Part.endHold, hin, hleft, Part.elapse_zero]
  refine ⟨(s.part.setQuiet false).commitTest ((s.part.setQuiet false).finish j).progressBatch, ?_, fun hstuck => ?_⟩
  · rw [← hend]
    rfl
  · have hmonitor : ((s.part.setQuiet false).finish j).monitor = s.part.monitor :=
      ((s.part.setQuiet false).kept_finish j).monitor
    have hleave := State.exec_quietLeave_of_quiet h.awaits h.quiet
      (congrArg Part.progressBatch (h.resumes hresume (h.onlyRuns.finish j) hmonitor))
    rw [Part.startJob_of_stuck (Part.stuck_commitTest.mp hstuck)] at hleave
    rwa [Part.commitTest_before (p := s.part) (q := s.part.setQuiet false) rfl rfl]

/-- A STROBE whose minimum has elapsed, with its input asserted or with no lock wait, passes to HOLD. -/
theorem State.LeavesOne.strobe (h : s.LeavesOne tag j x) (hb : s.part.store.batch = none) (hphase : x.phase = .strobe)
    (hends : s.part.endsStrobe j x) (hhold : x.timings.hold ≠ 0) :
    s.leavesInto tag ((s.part.setQuiet false).withRun j.id x.renewed.held) := by
  have hjob : (s.part.setQuiet false).holdsJob j := h.job
  have hmap := Part.mapJob_eq_withRun hjob (f := fun k => { k with run := some x.renewed }) rfl
  have hsat : ((s.part.setQuiet false).withRun j.id x.renewed).strobeSatisfied j x.renewed = true :=
    (Part.strobeSatisfied_renewed hphase).mpr hends
  have hbegin := Part.beginHold_of_run (Part.holdsJob_withRun hjob x.renewed) rfl hhold
  have hresume := Part.resumeChannel_of_strobe h.jobIn h.run hphase
  dsimp only at hresume
  rw [hmap, hsat, if_pos rfl] at hresume
  have honly := Part.onlyRuns_withRun h.onlyRuns j.id (x := x.renewed.held) rfl
  exact State.leavesInto_of h.awaits h.quiet hb
    (h.resumes (hresume.trans (hbegin.trans (Part.withRun_withRun _ _ _ _))) honly rfl) rfl rfl

end

/-- Settles O54: what the discarded dwell gives way to, and how each phase resumes. -/
theorem quietEntersAndLeaves : Obligations.QuietEntersAndLeaves := by
  intro s tag m p enters leaves
  refine ⟨fun ha => ⟨fun hq => ?_, fun hq => ⟨fun hother => ?_, fun d hd hforward => ?_⟩⟩,
    fun ha => ⟨fun hq => ?_, fun hq hb hids => ?_⟩⟩
  · exact State.serve_of_kept 0x72 (Part.enterQuiet ()) ha (Part.enterQuiet_of_quiet hq)
  · exact State.serve_of_same 0x72 (Part.enterQuiet ()) ha (Part.enterQuiet_of_other hq hother) rfl rfl
  · intro q at_ ahead wrapped
    have discarded := fun {u} => State.quietEnter_of_forward (u := u) ha hq hd hforward
    refine ⟨fun hwait => ?_, fun n hwait hn => discarded (Part.afterDwell_of_restart (p := q) hwait hn d.slice) rfl rfl⟩
    have hadvance := Part.afterDwell_of_advance (p := q) hwait d.slice
    refine ⟨fun n hn => ?_, fun n hahead hn => ?_, fun hahead hn => ?_⟩
    · exact discarded (hadvance.trans (Part.advance_of_ahead hn)) rfl rfl
    · have hwrapped := hadvance.trans (Part.advance_of_wrapped hahead hn)
      rw [Part.sweepDone_eq] at hwrapped
      exact discarded hwrapped rfl rfl
    · exact discarded (hadvance.trans (Part.advance_of_idle hahead hn)) rfl rfl
  · exact State.serve_of_kept 0x73 (Part.leaveQuiet ()) ha (by simp [Part.leaveQuiet, hq])
  · intro starts renewed satisfied
    refine ⟨fun hgoes hchannels => ?_, fun j x hj hx hlt hdwell hone => ?_⟩
    · intro again resumed
      have hon : (p false).GoesOn :=
        { ids := hids
          channels := hchannels
          timed := fun k hk x hx => let ⟨_, htimed, _⟩ := hgoes k hk x hx; htimed
          strobes := fun k hk x hx => let ⟨_, _, hstrobe⟩ := hgoes k hk x hx; hstrobe }
      have hall := hon.foldl_resumeChannel.trans
        (Part.resumedIn_all fun k hk x hx => let ⟨hlt, _, _⟩ := hgoes k hk x hx; hlt)
      refine ⟨fun hdwell => ?_, fun n hdwell hn => ?_⟩
      · exact State.leavesInto_of ha hq hb ((congrArg Part.resumeSweep hall).trans
          (Part.resumeSweep_of_dwell (by exact hdwell))) rfl rfl
      · exact State.leavesInto_of ha hq hb ((congrArg Part.resumeSweep hall).trans
          (Part.resumeSweep_of_idle (by exact hdwell) (by exact hn))) rfl rfl
    · have hone : s.LeavesOne tag j x := ⟨ha, hq, ⟨hj, fun k hk => hids k hk j hj⟩, hx, hlt, hone, hdwell⟩
      exact ⟨hone.setup hb, hone.hold, hone.strobe hb⟩

end Sys2Proof.Machine
end

section
/-! SUPPORT. The end of a dwell (R125 to R133): the estimate by counting mode, with and without a verdict, and the
pointer's goal when time has passed. -/

namespace Sys2Proof.Machine

/-! ### Time passes over the map that the sweep reads -/

theorem SliceEntry.mode_elapse (e : SliceEntry) (ms : Nat) : (e.elapse ms).mode = e.mode := by
  obtain ⟨u, i, q⟩ := e
  cases u <;> rfl

/-- Whether a slice is measurable does not depend on what is left of its parking. -/
theorem Part.measurable_elapse (p : Part) (ms : Nat) : (p.elapse ms).measurable = p.measurable := by
  funext n
  have huse : ((p.elapse ms).slice n).use = .crossover ↔ (p.slice n).use = .crossover := by
    rw [Part.slice_elapse, SliceEntry.use_elapse_iff (by simp)]
  have hcross : (((p.elapse ms).slice n).use != .crossover) = ((p.slice n).use != .crossover) := by
    rw [Bool.eq_iff_iff, bne_iff_ne, bne_iff_ne, ne_eq, huse]
  rw [Part.measurable, hcross]
  rfl

theorem Part.firstMeasurable_elapse (p : Part) (ms first last : Nat) :
    (p.elapse ms).firstMeasurable first last = p.firstMeasurable first last := by
  rw [Part.firstMeasurable, Part.measurable_elapse, Part.firstMeasurable]

/-! ### The estimate at the end of a dwell, by counting mode (R125, R131 to R133) -/

/-- The strikes of a slice after an estimate that may strike (R132). -/
def Part.strikesAfter (p : Part) (n m : Nat) : Nat :=
  if smooth p.monitor.active.shift (p.qualityOf n).smoothed m < p.monitor.qt then min 15 ((p.qualityOf n).strikes + 1)
  else 0

/-- The clears of a slice after an estimate that may clear (R133). -/
def Part.clearsAfter (p : Part) (n m : Nat) : Nat :=
  if p.monitor.rt ≤ smooth p.monitor.active.shift (p.qualityOf n).smoothed m then min 15 ((p.qualityOf n).clears + 1)
  else 0

section
variable {p : Part} {n m : Nat}

theorem Part.applyEstimate_of_crossover (h : (p.slice n).mode = .crossover) : p.applyEstimate n m = p := by
  simp only [Part.applyEstimate, h]

theorem Part.applyEstimate_of_pinned (h : (p.slice n).mode = .pinned) :
    p.applyEstimate n m = (p.setQuality n (p.measuredEntry n m 0 0)).upkeepAll (p.grantsOn (· == n)) := by
  simp only [Part.applyEstimate, h]
  rfl

/-- A slice in strike mode that takes no verdict. -/
theorem Part.applyEstimate_of_strike (h : (p.slice n).mode = .strike) (hlt : p.strikesAfter n m < p.monitor.nq) :
    p.applyEstimate n m =
      (p.setQuality n (p.measuredEntry n m (p.strikesAfter n m) 0)).upkeepAll (p.grantsOn (· == n)) := by
  have hcount := Nat.not_le.mpr hlt
  rw [Part.strikesAfter] at hcount
  simp only [Part.applyEstimate, h, hcount, if_false]
  rfl

/-- A slice in clear mode that takes no verdict. -/
theorem Part.applyEstimate_of_clear (h : (p.slice n).mode = .clear) (hlt : p.clearsAfter n m < p.monitor.nr) :
    p.applyEstimate n m =
      (p.setQuality n (p.measuredEntry n m 0 (p.clearsAfter n m))).upkeepAll (p.grantsOn (· == n)) := by
  have hcount := Nat.not_le.mpr hlt
  rw [Part.clearsAfter] at hcount
  simp only [Part.applyEstimate, h, hcount, if_false]
  rfl

/-- The strike that reaches the limit quarantines the slice (R132). -/
theorem Part.applyEstimate_of_quarantine (h : (p.slice n).mode = .strike) (hle : p.monitor.nq ≤ p.strikesAfter n m) :
    let q := ((p.setQuality n (p.measuredEntry n m 0 0)).quarantineVerdict false n).raisePlant .quarantineSet
    p.applyEstimate n m = q.upkeepAll (q.grantsOn (· == n)) := by
  rw [Part.strikesAfter] at hle
  simp only [Part.applyEstimate, h, hle, if_true]
  rfl

/-- The clear that reaches the limit lifts the quarantine of the slice (R133). -/
theorem Part.applyEstimate_of_lift (h : (p.slice n).mode = .clear) (hle : p.monitor.nr ≤ p.clearsAfter n m) :
    let q := ((p.setQuality n (p.measuredEntry n m 0 0)).liftVerdict false n).raisePlant .quarantineEnded
    p.applyEstimate n m = q.upkeepAll (q.grantsOn (· == n)) := by
  rw [Part.clearsAfter] at hle
  simp only [Part.applyEstimate, h, hle, if_true]
  rfl

/-- An estimate that takes no verdict leaves these quality entries (R125, R131 to R133). -/
def Part.countsInto (p : Part) (n m : Nat) (quality : List QualityEntry) : Prop :=
  let entry := fun strikes clears => p.monitor.quality.set n (p.measuredEntry n m strikes clears)
  let mode := (p.slice n).mode
  (mode = .strike ∧ p.strikesAfter n m < p.monitor.nq ∧ quality = entry (p.strikesAfter n m) 0) ∨
    (mode = .clear ∧ p.clearsAfter n m < p.monitor.nr ∧ quality = entry 0 (p.clearsAfter n m)) ∨
    (mode = .pinned ∧ quality = entry 0 0) ∨ (mode = .crossover ∧ quality = p.monitor.quality)

theorem Part.countsInto_elapse {quality : List QualityEntry} (ms : Nat) :
    (p.elapse ms).countsInto n m quality ↔ p.countsInto n m quality := by
  rw [Part.countsInto, Part.slice_elapse, SliceEntry.mode_elapse]
  rfl

/-- On a slice without a grant it changes nothing else. -/
theorem Part.applyEstimate_of_countsInto {quality : List QualityEntry} (hg : p.grantsOn (· == n) = [])
    (h : p.countsInto n m quality) :
    p.applyEstimate n m = { p with monitor := { p.monitor with quality := quality } } := by
  rcases h with ⟨hmode, hlt, rfl⟩ | ⟨hmode, hlt, rfl⟩ | ⟨hmode, rfl⟩ | ⟨hmode, rfl⟩
  · rw [Part.applyEstimate_of_strike hmode hlt, hg]; rfl
  · rw [Part.applyEstimate_of_clear hmode hlt, hg]; rfl
  · rw [Part.applyEstimate_of_pinned hmode, hg]; rfl
  · exact Part.applyEstimate_of_crossover hmode

end

/-! ### The end of a dwell (R126, R127, R130) -/

theorem Part.endDwell_of_dwell {p : Part} {d : Dwell} (h : p.monitor.dwell = some d) (m : Nat) :
    p.endDwell m = ((p.elapse d.left).applyEstimate d.slice m).afterDwell d.slice := by
  simp only [Part.endDwell, h]

/-- With a restart waiting, the end of a dwell is SWEEP_RESTART_TAKES_EFFECT's. -/
theorem Part.restartTakesEffect_of_dwell {p : Part} {d : Dwell} (hr : p.monitor.restartWaiting = true)
    (h : p.monitor.dwell = some d) (m : Nat) : Part.restartTakesEffect m p = Part.dwellEnd m p := by
  simp [Part.restartTakesEffect, hr, h, Part.dwellEnd]

/-- The part when what was left of a dwell has passed, with these quality entries. -/
def Part.dwelt (p : Part) (d : Dwell) (quality : List QualityEntry) : Part :=
  { p.elapse d.left with monitor := { (p.elapse d.left).monitor with quality := quality } }

/-- The slices that the pointer may go to are those it could before. -/
theorem Part.firstMeasurable_dwelt (p : Part) (d : Dwell) (quality : List QualityEntry) :
    (p.dwelt d quality).firstMeasurable = p.firstMeasurable := by
  funext first last
  exact p.firstMeasurable_elapse d.left first last

/-- A dwell without a verdict, on a slice without a grant: its quality entries, and what follows it. -/
theorem State.dwellEnd_of_countsInto {s : State} {m : Nat} {d : Dwell} {quality : List QualityEntry} {u : Part}
    (hd : s.part.monitor.dwell = some d) (hb : u.store.batch = none) (hg : s.part.grantsOn (· == d.slice) = [])
    (h : s.part.countsInto d.slice m quality) (hu : (s.part.dwelt d quality).afterDwell d.slice = u)
    (ht : u.tenants = s.part.tenants) (hgrants : u.grants = s.part.grants) :
    s.act (Part.dwellEnd m) = .next { s with part := u } := by
  have happly : (s.part.elapse d.left).applyEstimate d.slice m = s.part.dwelt d quality :=
    Part.applyEstimate_of_countsInto hg ((Part.countsInto_elapse d.left).mpr h)
  exact State.act_of_same (by rw [Part.dwellEnd, Part.endDwell_of_dwell hd, happly, hu]) hb ht hgrants

end Sys2Proof.Machine
end

section
/-! SWEEP_SET, SWEEP_RESTART and SWEEP_RESUME (R128 to R130), and a dwell without a verdict (R125 to R128): O40 and
O41. -/

namespace Sys2Proof.Machine

/-! ### SWEEP_SET (R129) -/

/-- The settings that SWEEP_SET stores, where those that stand are in range. -/
theorem storeSweep_eq {m : Monitor} (h : m.inRange) (q : SweepFields) :
    let w := q.window.getD (m.waiting.first, m.waiting.last)
    let qt := min 251 (q.qt.getD m.qt)
    storeSweep q m = { m with
      waiting := ⟨w.1, w.2, max 2 (min 255 (q.dwell.getD m.waiting.dwell)), min 4 (q.shift.getD m.waiting.shift)⟩
      qt := qt
      rt := max (max 4 (min 255 (q.rt.getD m.rt))) (qt + 4)
      nq := max 1 (min 15 (q.nq.getD m.nq))
      nr := max 1 (min 15 (q.nr.getD m.nr)) } := by
  obtain ⟨-, ⟨-, -, hdwell, hdwell', hshift⟩, hqr, hrt, hnq, hnq', hnr, hnr'⟩ := h
  simp only [storeSweep, storedQt, storedRt, storeNat_eq hdwell hdwell', storeNat_eq (Nat.zero_le _) hshift,
    storeNat_eq (Nat.zero_le _) (show m.qt ≤ 251 by omega), storeNat_eq (show 4 ≤ m.rt by omega) hrt,
    storeNat_eq hnq hnq', storeNat_eq hnr hnr', Nat.zero_max]
  split
  · rfl
  · next hnone =>
    obtain ⟨hqt, hrt⟩ : q.qt = none ∧ q.rt = none := by simpa using hnone
    simp only [hqt, hrt, Option.getD_none]
    congr 1 <;> omega

/-- A field was clamped where what is stored differs from what was asked for. -/
theorem outside_iff_stored {lo hi old : Nat} (hlo : lo ≤ old) (hhi : old ≤ hi) (v : Option Nat) :
    outside lo hi v = true ↔ max lo (min hi (v.getD old)) ≠ v.getD old := by
  cases v with
  | none => simp only [outside, Option.any_none, Option.getD_none]; simp; omega
  | some v => simp only [outside, Option.any_some, Option.getD_some, Bool.or_eq_true, decide_eq_true_eq]; omega

/-- CLAMPED is answered where a stored setting differs from what was asked for. -/
theorem sweepClamped_iff {m : Monitor} (h : m.inRange) (q : SweepFields) :
    let qt := min 251 (q.qt.getD m.qt)
    sweepClamped q m = true ↔ qt ≠ q.qt.getD m.qt ∨ max (max 4 (min 255 (q.rt.getD m.rt))) (qt + 4) ≠ q.rt.getD m.rt ∨
      max 2 (min 255 (q.dwell.getD m.waiting.dwell)) ≠ q.dwell.getD m.waiting.dwell ∨
      min 4 (q.shift.getD m.waiting.shift) ≠ q.shift.getD m.waiting.shift ∨
      max 1 (min 15 (q.nq.getD m.nq)) ≠ q.nq.getD m.nq ∨ max 1 (min 15 (q.nr.getD m.nr)) ≠ q.nr.getD m.nr := by
  obtain ⟨-, ⟨-, -, hdwell, hdwell', hshift⟩, hqr, hrt, hnq, hnq', hnr, hnr'⟩ := h
  have hrt' : 4 ≤ m.rt := by omega
  have hqt' : m.qt ≤ 251 := by omega
  have hraised : (outside 4 255 q.rt = true ∨ (q.qt.isSome || q.rt.isSome) = true ∧ storedRt q m < storedQt q m + 4) ↔
      max (max 4 (min 255 (q.rt.getD m.rt))) (min 251 (q.qt.getD m.qt) + 4) ≠ q.rt.getD m.rt := by
    rw [outside_iff_stored hrt' hrt, storedRt, storedQt, storeNat_eq hrt' hrt, storeNat_eq (Nat.zero_le _) hqt']
    cases q.qt <;> cases q.rt <;> simp <;> omega
  have hqt := outside_iff_stored (Nat.zero_le _) hqt' q.qt
  have hshift := outside_iff_stored (Nat.zero_le _) hshift q.shift
  rw [Nat.zero_max] at hqt hshift
  dsimp only
  rw [← hqt, ← hraised, ← outside_iff_stored hdwell hdwell', ← hshift, ← outside_iff_stored hnq hnq',
    ← outside_iff_stored hnr hnr']
  simp only [sweepClamped, Bool.or_eq_true, Bool.and_eq_true, decide_eq_true_eq]
  refine Eq.to_iff ?_
  ac_rfl

theorem exec_sweepSet (tag : Byte) (q : SweepFields) (s : State) :
    exec (.sweepSet tag (some q)) s = s.serve (.sweepSet tag (some q)) tag 0x40 (Part.sweepSet q) := rfl

theorem Part.sweepSet_of_bad {p : Part} {q : SweepFields} (h : p.monitor.waiting.inRange)
    (hw : let w := q.window.getD (p.monitor.waiting.first, p.monitor.waiting.last); w.2 < w.1 ∨ 1023 < w.2) :
    Part.sweepSet q p = (p, refuse .badField) := by
  obtain ⟨hfirst, hlast, -⟩ := h
  cases hq : q.window with
  | none => simp only [hq, Option.getD_none] at hw; omega
  | some w =>
    simp only [hq, Option.getD_some] at hw
    rw [Part.sweepSet, if_pos (by simp [hq]; omega)]

theorem Part.sweepSet_of_good {p : Part} {q : SweepFields}
    (hw : let w := q.window.getD (p.monitor.waiting.first, p.monitor.waiting.last); w.1 ≤ w.2 ∧ w.2 ≤ 1023) :
    Part.sweepSet q p = ({ p with monitor := storeSweep q p.monitor },
      ⟨.done, sweepClamped q p.monitor, sweepPayload (storeSweep q p.monitor)⟩) := by
  rw [Part.sweepSet, if_neg]
  cases hq : q.window with
  | none => simp
  | some w => simpa [hq] using hw

/-! ### SWEEP_RESTART (R130) -/

theorem exec_sweepRestart (tag : Byte) (s : State) :
    exec (.sweepRestart tag (some ())) s = s.serve (.sweepRestart tag (some ())) tag 0x41 (Part.sweepRestart ()) := rfl

theorem Part.sweepRestart_of_dwell {p : Part} (h : p.monitor.dwell.isSome) :
    Part.sweepRestart () p = ({ p with monitor := { p.monitor with restartWaiting := true } }, doneWith [1]) := by
  rw [Part.sweepRestart, if_pos h]

/-- A restart that takes effect where a slice of the pending window is measurable. -/
theorem Part.restart_of_measurable {p : Part} {n : Nat}
    (h : p.firstMeasurable p.monitor.waiting.first p.monitor.waiting.last = some n) :
    p.restart = { p with monitor := { p.monitor with
      active := p.monitor.waiting, restartWaiting := false, pointer := n,
      dwell := some ⟨n, p.monitor.waiting.dwell⟩ } } :=
  Part.afterDwell_of_restart (p := { p with monitor := { p.monitor with restartWaiting := true } }) rfl h 0

theorem Part.sweepRestart_of_idle {p : Part} (h : p.monitor.dwell = none) :
    Part.sweepRestart () p = (p.restart, doneWith [0]) := by
  rw [Part.sweepRestart, h]
  rfl

/-- Settles O40: the clamped fields, the restart at once, and the one that takes the place of the pointer's advance. -/
theorem sweepSetsAndRestarts : Obligations.SweepSetsAndRestarts := by
  refine ⟨fun s tag q ha hrange => ?_, fun s tag => ?_⟩
  · intro m w qt rt waiting nq nr clamped
    obtain ⟨-, hwaiting, -⟩ := id hrange
    refine ⟨fun hw => ?_, fun hfirst hlast => ⟨sweepClamped q m, ?_, ?_⟩⟩
    · exact State.serve_of_kept 0x40 (Part.sweepSet q) ha (Part.sweepSet_of_bad hwaiting hw)
    · exact sweepClamped_iff hrange q
    · have howner := Part.sweepSet_of_good (p := s.part) (q := q) ⟨hfirst, hlast⟩
      rw [storeSweep_eq hrange q] at howner
      exact State.serve_of_same 0x40 (Part.sweepSet q) ha howner rfl rfl
  · intro m
    refine ⟨fun ha hd => ?_, fun n ha hd hn => ?_, fun e d n hd hr hb hmode hg => ?_, fun hd => ?_, fun n hd hn => ?_⟩
    · exact State.serve_of_same 0x41 (Part.sweepRestart ()) ha (Part.sweepRestart_of_dwell hd) rfl rfl
    · have howner := Part.sweepRestart_of_idle hd
      rw [Part.restart_of_measurable hn] at howner
      exact State.serve_of_same 0x41 (Part.sweepRestart ()) ha howner rfl rfl
    · intro old sm strikes hlt hn
      have hafter := Part.afterDwell_of_restart (n := d.slice)
        (p := s.part.dwelt d (m.quality.set d.slice (s.part.measuredEntry d.slice e.toNat strikes 0))) hr
        (by rw [Part.firstMeasurable_dwelt]; exact hn)
      have hact : s.act (Part.restartTakesEffect e.toNat) = s.act (Part.dwellEnd e.toNat) := by
        rw [State.act_eq, Part.restartTakesEffect_of_dwell hr hd, State.act_eq]
      exact hact.trans (State.dwellEnd_of_countsInto hd hb hg (.inl ⟨hmode, hlt, rfl⟩) hafter rfl rfl)
    · exact State.act_of_fixed (Part.resumeSweep_of_dwell hd)
    · have hact : s.act Part.resumeSweep = .next { s with part := s.part.dwellOn (some n) } := by
        rw [State.act_eq, Part.resumeSweep_of_idle hd hn,
          Part.commitTest_of_same (p := s.part) (q := s.part.dwellOn (some n)) rfl rfl]
      exact hact

/-- Settles O41: the quality entries by the counting mode, then the pointer by what is measurable ahead of it. -/
theorem dwellCountsStrikes : Obligations.DwellCountsStrikes := by
  intro s e d quality hd hr hb hg m old sm strikes clears mode becomes hcounts p at_ ahead wrapped
  have ends := fun {u : Part} (hu : (s.part.dwelt d quality).advance d.slice = u) hstore htenants hgrants =>
    State.dwellEnd_of_countsInto (m := e.toNat) hd hstore hg hcounts
      ((Part.afterDwell_of_advance (p := s.part.dwelt d quality) hr d.slice).trans hu) htenants hgrants
  have hmeasurable := s.part.firstMeasurable_dwelt d quality
  refine ⟨fun n hn => ?_, fun n hahead hn => ?_, fun hahead hn => ?_⟩
  · exact ends (Part.advance_of_ahead (by rwa [hmeasurable])) hb rfl rfl
  · have hadvance := Part.advance_of_wrapped (p := s.part.dwelt d quality) (by rwa [hmeasurable]) (by rwa [hmeasurable])
    rw [Part.sweepDone_eq] at hadvance
    exact ends hadvance hb rfl rfl
  · exact ends (Part.advance_of_idle (by rwa [hmeasurable]) (by rwa [hmeasurable])) hb rfl rfl

end Sys2Proof.Machine
end

section
/-! SUPPORT. What follows an estimate (R127, R130, R137): the upkeep of the slice's grants, the pointer's next dwell and
the test of the act; and a QUARANTINE verdict that abandons no job (R12). -/

namespace Sys2Proof.Machine

/-! ### The pointer and the test of the act -/

/-- `q` is `p` but for its Plant Monitor, its placement work and its events: the quality entries stand, and no work and
no event is lost. -/
structure Part.MovedOn (p q : Part) : Prop where
  frame : q = { p with alloc := q.alloc, monitor := q.monitor, events := q.events }
  quality : q.monitor.quality = p.monitor.quality
  work : ∀ w ∈ p.alloc.work, w ∈ q.alloc.work
  plant : ∀ b, p.events.plantRaised &&& b = b → q.events.plantRaised &&& b = b
  raised : ∀ t b, p.events.raised.getD t 0 &&& b = b → q.events.raised.getD t 0 &&& b = b

theorem Part.movedOn_dwellOn (p : Part) (o : Option Nat) : Part.MovedOn p (p.dwellOn o) :=
  ⟨rfl, rfl, fun _ => id, fun _ => id, fun _ _ => id⟩

/-- What follows a dwell keeps the events of the tenants as they are. -/
theorem Part.movedOn_afterDwell (p : Part) (n : Nat) :
    Part.MovedOn p (p.afterDwell n) ∧ (p.afterDwell n).events.raised = p.events.raised := by
  cases hr : p.monitor.restartWaiting with
  | true =>
    have hrestart : p.afterDwell n = p.restart := by rw [Part.afterDwell, if_pos hr]
    rw [hrestart]
    exact ⟨⟨rfl, rfl, fun _ => id, fun _ => id, fun _ _ => id⟩, rfl⟩
  | false =>
    rw [Part.afterDwell_of_advance hr]
    cases hahead : p.firstMeasurable (n + 1) p.monitor.active.last with
    | some k =>
      rw [Part.advance_of_ahead hahead]
      exact ⟨p.movedOn_dwellOn _, rfl⟩
    | none =>
      cases hwrapped : p.firstMeasurable p.monitor.active.first p.monitor.active.last with
      | some k =>
        rw [Part.advance_of_wrapped hahead hwrapped, Part.sweepDone_eq]
        exact ⟨⟨rfl, rfl, fun _ => List.mem_append_left _, fun _ => bitVec_or_and_of_and _, fun _ _ => id⟩, rfl⟩
      | none =>
        rw [Part.advance_of_idle hahead hwrapped]
        exact ⟨p.movedOn_dwellOn _, rfl⟩

theorem Part.MovedOn.commitTest {p q : Part} (h : Part.MovedOn p q) (before : Part) :
    Part.MovedOn p (before.commitTest q) := by
  obtain ⟨raised, htest, hbits⟩ := before.commitTest_raised q
  rw [htest]
  exact ⟨by rw [h.frame], h.quality, h.work, h.plant, fun t b hb => hbits t b (h.raised t b hb)⟩

/-- The end of a dwell goes on from the part that its estimate leaves. -/
theorem State.dwellEnd_movedOn {s : State} {m : Nat} {d : Dwell} {a : Part} (hd : s.part.monitor.dwell = some d)
    (ha : (s.part.elapse d.left).applyEstimate d.slice m = a) (hb : a.store.batch = none) :
    ∃ u, s.act (Part.dwellEnd m) = .next { s with part := u } ∧ Part.MovedOn a u ∧
      (a.tenants = s.part.tenants → a.grants = s.part.grants → u.events.raised = a.events.raised) := by
  obtain ⟨hmoved, hraised⟩ := a.movedOn_afterDwell d.slice
  refine ⟨s.part.commitTest (a.afterDwell d.slice), ?_, hmoved.commitTest _, fun ht hg => ?_⟩
  · have hstore : (a.afterDwell d.slice).store.batch = none := by rw [hmoved.frame]; exact hb
    rw [State.act_eq, Part.dwellEnd, Part.endDwell_of_dwell hd, ha, Part.progressBatch_of_none hstore]
  · rw [Part.commitTest_of_same (by rw [hmoved.frame]; exact ht) (by rw [hmoved.frame]; exact hg), hraised]

/-! ### The upkeep of the grants on a slice -/

theorem Part.grantsOn_congr {p q : Part} (h : q.grants = p.grants) : q.grantsOn = p.grantsOn := by
  funext inRange
  simp only [Part.grantsOn, Part.grant_congr h]

theorem Part.plantRaised_upkeep (p : Part) (g : Nat) : (p.upkeep g).events.plantRaised = p.events.plantRaised := by
  by_cases h : ∃ x t, p.grant g = some x ∧ p.tenant x.tenant = some t ∧ x.state ≠ .leaving
  · obtain ⟨x, t, hx, ht, hs⟩ := h
    rw [Part.upkeep_of_live hx ht hs]
    split
    · unfold Part.markAttempt
      split <;> rfl
    · rfl
  · push Not at h
    rw [Part.upkeep_of_idle h]

/-- Upkeep raises events of tenants only. -/
theorem Part.plantRaised_upkeepAll (gs : List Nat) (p : Part) :
    (p.upkeepAll gs).events.plantRaised = p.events.plantRaised := by
  induction gs generalizing p with
  | nil => rfl
  | cons g gs ih => exact (ih _).trans (p.plantRaised_upkeep g)

theorem Part.judgedAt_elapse (p : Part) (ms : Nat) : (p.elapse ms).judgedAt = p.judgedAt := by
  funext t x
  rw [Part.judgedAt, Part.placeBad_elapse]
  rfl

/-! ### A QUARANTINE verdict (R12, R118) -/

/-- No job in QUEUED or SETUP brings its grant into the slice. -/
def Part.untouched (p : Part) (n : Nat) : Prop := ∀ j ∈ p.engine.jobs, j.silent = true → p.bringsIn j n = false

theorem Part.bringsIn_congr {p q : Part} (h : q.grants = p.grants) : q.bringsIn = p.bringsIn := by
  funext j n
  simp only [Part.bringsIn, Part.grant_congr h]

theorem Part.untouched_congr {p q : Part} (hg : q.grants = p.grants) (hj : q.engine.jobs = p.engine.jobs) (n : Nat) :
    q.untouched n ↔ p.untouched n := by
  rw [Part.untouched, Part.bringsIn_congr hg, hj, Part.untouched]

/-- Where no job is reached, a QUARANTINE verdict changes the map, and the cap is tested. -/
theorem Part.quarantineVerdict_of_untouched {p : Part} {n : Nat} (h : p.untouched n) (pin : Bool) :
    Part.quarantineVerdict pin p n = (p.setSlice n ((p.slice n).quarantine pin)).capTest := by
  have hmap := (p.setSlice n ((p.slice n).quarantine pin)).mapOnly_capTest
  have hjobs := (Part.untouched_congr (p := p) hmap.grants (by rw [hmap.engine, Part.setSlice_engine]) n).mpr h
  have hnone : ((p.setSlice n ((p.slice n).quarantine pin)).capTest.engine.jobs.filter fun j => j.silent &&
      (p.setSlice n ((p.slice n).quarantine pin)).capTest.bringsIn j n) = [] :=
    List.filter_eq_nil_iff.mpr fun j hj => by
      cases hs : j.silent with
      | false => simp
      | true => simp [hjobs j hj hs]
  rw [Part.quarantineVerdict, hnone]
  rfl

end Sys2Proof.Machine
end

section
/-! The verdicts of the counting (R12, R13, R132, R133) and the upkeep of the grant on a measured slice (R137 to R139):
O42 and O43. -/

namespace Sys2Proof.Machine

/-! ### What a verdict makes of a map entry, time having passed -/

theorem SliceEntry.available_elapse (e : SliceEntry) (ms : Nat) : (e.elapse ms).available = e.available := by
  obtain ⟨u, i, q⟩ := e
  cases u <;> rfl

theorem SliceEntry.quarantine_of_available {e : SliceEntry} (h : e.available = true) (pin : Bool) :
    e.quarantine pin = ⟨.quarantined, false, pin⟩ := by
  obtain ⟨u, i, q⟩ := e
  cases u <;> simp_all [SliceEntry.available, SliceEntry.quarantine]

theorem SliceEntry.quarantine_of_keepsState {e : SliceEntry} (h : e.keepsState = true) (pin : Bool) :
    e.quarantine pin = { e with impaired := true, pinned := e.pinned || pin } := by
  obtain ⟨u, i, q⟩ := e
  cases u <;> simp_all [SliceEntry.keepsState, SliceEntry.quarantine]

theorem SliceEntry.lift_of_keepsState {e : SliceEntry} (h : e.keepsState = true) (byHost : Bool) :
    e.lift byHost = { e with impaired := false, pinned := e.pinned && !byHost } := by
  obtain ⟨u, i, q⟩ := e
  cases u <;> simp_all [SliceEntry.keepsState, SliceEntry.lift]

theorem SliceEntry.lift_of_quarantined {e : SliceEntry} (h : e.use = .quarantined) (byHost : Bool) :
    e.lift byHost = ⟨.free, false, false⟩ := by
  simp only [SliceEntry.lift, h]

theorem SliceEntry.elapse_of_keepsState {e : SliceEntry} (h : e.keepsState = true) (ms : Nat) : e.elapse ms = e :=
  SliceEntry.elapse_of_unparked ms fun left fill hu => by simp [SliceEntry.keepsState, hu] at h

/-! ### A verdict of the counting (R12, R13) -/

/-- The part once a verdict has made `after` of a slice's entry, its quality entry taken anew and an event of the PLANT
raised: the cap may have been tested beside it. -/
structure Part.VerdictTaken (p : Part) (n : Nat) (entry : QualityEntry) (after : SliceEntry) (bit : PlantEventSet)
    (q : Part) : Prop where
  frame : q = { (p.setQuality n entry).setSlice n after with level := q.level, events := q.events }
  raised : q.events.raised = p.events.raised
  plant : q.events.plantRaised &&& bit = bit
  level : p.level.overCap = false → q.level = p.level

/-- A strike that reaches the limit, where no job is reached. -/
theorem Part.verdictTaken_quarantine {p : Part} {n : Nat} (h : p.untouched n) (entry : QualityEntry) :
    p.VerdictTaken n entry ((p.slice n).quarantine false) 4
      (((p.setQuality n entry).quarantineVerdict false n).raisePlant .quarantineSet) := by
  rw [Part.quarantineVerdict_of_untouched (p := p.setQuality n entry) h]
  obtain ⟨l, e, hcap, hraised⟩ :=
    ((p.setQuality n entry).setSlice n (((p.setQuality n entry).slice n).quarantine false)).capTest_frame
  refine ⟨by rw [hcap]; rfl, by rw [hcap]; exact hraised, bitVec_or_and _ _, fun hover => ?_⟩
  rw [Part.capTest_of_clear (by exact hover)]
  rfl

/-- A clear that reaches the limit. -/
theorem Part.verdictTaken_lift (p : Part) (n : Nat) (entry : QualityEntry) :
    p.VerdictTaken n entry ((p.slice n).lift false) 8
      (((p.setQuality n entry).liftVerdict false n).raisePlant .quarantineEnded) :=
  ⟨rfl, rfl, bitVec_or_and _ _, fun _ => rfl⟩

/-- What stands at the end of a dwell whose estimate takes a verdict on its slice. -/
theorem State.dwellEnd_of_verdict {s : State} {m : Nat} {d : Dwell} {entry : QualityEntry} {after : SliceEntry}
    {bit : PlantEventSet} {q : Part} (hs : s.part.shaped) (hd : s.part.monitor.dwell = some d)
    (hb : s.part.store.batch = none) (hn : d.slice < 1024)
    (hq : (s.part.elapse d.left).VerdictTaken d.slice entry after bit q)
    (ha : (s.part.elapse d.left).applyEstimate d.slice m = q.upkeepAll (q.grantsOn (· == d.slice))) :
    ∃ u, s.act (Part.dwellEnd m) = .next { s with part := u } ∧ u.slice d.slice = after ∧
      u.qualityOf d.slice = entry ∧ u.events.plantRaised &&& bit = bit ∧
      (∀ n, n ≠ d.slice → u.slice n = (s.part.slice n).elapse d.left) ∧
      (∀ n, n ≠ d.slice → u.qualityOf n = s.part.qualityOf n) ∧
      (s.part.grantsOn (· == d.slice) = [] → u.events.raised = s.part.events.raised ∧ u.grants = s.part.grants ∧
        u.tenants = s.part.tenants ∧ (s.part.level.overCap = false → u.level = s.part.level)) := by
  obtain ⟨-, -, hslices, -, -, hquality, -⟩ := hs
  have hup := Part.upkept_upkeepAll (q.grantsOn (· == d.slice)) q
  have hplant := Part.plantRaised_upkeepAll (q.grantsOn (· == d.slice)) q
  have hnone : s.part.grantsOn (· == d.slice) = [] → q.upkeepAll (q.grantsOn (· == d.slice)) = q := fun h => by
    rw [Part.grantsOn_congr (p := s.part) (by rw [hq.frame]; rfl), h]
    rfl
  generalize q.upkeepAll (q.grantsOn (· == d.slice)) = a at ha hup hplant hnone
  obtain ⟨u, hexec, hmoved, hraised⟩ := State.dwellEnd_movedOn hd ha (by rw [hup.frame, hq.frame]; exact hb)
  have hmap : u.slices = (s.part.elapse d.left).slices.set d.slice after := by
    rw [hmoved.frame, hup.frame, hq.frame]
    rfl
  have hentries : u.monitor.quality = s.part.monitor.quality.set d.slice entry := by
    rw [hmoved.quality, hup.frame, hq.frame]
    rfl
  have hslice := Part.slice_congr (q := u) (p := (s.part.elapse d.left).setSlice d.slice after) hmap
  refine ⟨u, hexec, ?_, ?_, hmoved.plant _ (by rw [hplant]; exact hq.plant), fun k hk => ?_, fun k hk => ?_,
    fun hg => ?_⟩
  · rw [hslice, Part.slice_setSlice_self _ _ _ (by simpa [hslices] using hn)]
  · simp [Part.qualityOf, hentries, hquality, hn]
  · rw [hslice, Part.slice_setSlice_ne _ _ _ _ hk, Part.slice_elapse]
  · simp [Part.qualityOf, hentries, List.getD_eq_getElem?_getD, List.getElem?_set_ne (Ne.symm hk)]
  · rw [hnone hg] at hmoved hraised
    have hgrants : q.grants = s.part.grants := by rw [hq.frame]; rfl
    have htenants : q.tenants = s.part.tenants := by rw [hq.frame]; rfl
    exact ⟨(hraised htenants hgrants).trans hq.raised, by rw [hmoved.frame]; exact hgrants,
      by rw [hmoved.frame]; exact htenants, fun hover => by rw [hmoved.frame]; exact hq.level hover⟩

/-- Settles O42: each verdict, on a slice that it takes out of use or gives back, and on one in use. -/
theorem strikesQuarantine : Obligations.StrikesQuarantine := by
  intro s m d hs hd hb hn e old sm ends
  have hslice : (s.part.elapse d.left).slice d.slice = e.elapse d.left := s.part.slice_elapse _ _
  have hmode : ((s.part.elapse d.left).slice d.slice).mode = e.mode := by rw [hslice, SliceEntry.mode_elapse]
  refine ⟨fun hstrike hjobs hlow hlimit => ?_, fun hclear hhigh hlimit => ?_⟩
  · have huntouched : (s.part.elapse d.left).untouched d.slice := fun j hj => by
      simp [Part.elapse, hjobs] at hj
    have hcount : (s.part.elapse d.left).monitor.nq ≤ (s.part.elapse d.left).strikesAfter d.slice m.toNat := by
      rw [Part.strikesAfter]
      exact hlimit.trans_eq (if_pos hlow).symm
    have verdict := fun after (h : (e.elapse d.left).quarantine false = after) => by
      have htaken := Part.verdictTaken_quarantine huntouched ((s.part.elapse d.left).measuredEntry d.slice m.toNat 0 0)
      rw [hslice, h] at htaken
      exact State.dwellEnd_of_verdict hs hd hb hn htaken
        (Part.applyEstimate_of_quarantine (hmode.trans hstrike) hcount)
    refine ⟨fun h => verdict _ ?_, fun h => verdict _ ?_⟩
    · rw [SliceEntry.quarantine_of_available (by rwa [SliceEntry.available_elapse])]
    · rw [SliceEntry.elapse_of_keepsState h, SliceEntry.quarantine_of_keepsState h, Bool.or_false]
  · have hcount : (s.part.elapse d.left).monitor.nr ≤ (s.part.elapse d.left).clearsAfter d.slice m.toNat := by
      rw [Part.clearsAfter]
      exact hlimit.trans_eq (if_pos hhigh).symm
    have verdict := fun after (h : (e.elapse d.left).lift false = after) => by
      have htaken := Part.verdictTaken_lift (s.part.elapse d.left) d.slice
        ((s.part.elapse d.left).measuredEntry d.slice m.toNat 0 0)
      rw [hslice, h] at htaken
      exact State.dwellEnd_of_verdict hs hd hb hn htaken (Part.applyEstimate_of_lift (hmode.trans hclear) hcount)
    refine ⟨fun h => verdict _ ?_, fun h => verdict _ ?_⟩
    · exact SliceEntry.lift_of_quarantined ((SliceEntry.use_elapse_iff (by simp) _).mpr h) _
    · rw [SliceEntry.elapse_of_keepsState h, SliceEntry.lift_of_keepsState h, Bool.not_false, Bool.and_true]

/-- Settles O43: the upkeep of the one grant, which what follows the dwell leaves as it is. -/
theorem upkeepJudgesGrants : Obligations.UpkeepJudgesGrants := by
  intro s e d g r t hs hd hb hn hmode hg hr hlt ht m old sm strikes hcount measured bad
  obtain ⟨-, -, -, -, -, -, hraised, -⟩ := hs
  have hone : (s.part.elapse d.left).grantsOn (· == d.slice) = [g] := hg
  have happly : (s.part.elapse d.left).applyEstimate d.slice e.toNat = (measured.elapse d.left).upkeep g := by
    rw [Part.applyEstimate_of_strike (p := s.part.elapse d.left) (by rwa [Part.slice_elapse, SliceEntry.mode_elapse])
      hcount, hone]
    rfl
  have hup := (measured.elapse d.left).upkept_upkeep g
  obtain ⟨u, hexec, hmoved, -⟩ := State.dwellEnd_movedOn hd happly (by rw [hup.frame]; exact hb)
  have hgrant := Part.grant_congr (p := (measured.elapse d.left).upkeep g) (q := u) (by rw [hmoved.frame])
  refine ⟨u, hexec, ?_, fun hleaving => ?_, fun hlive => ?_, fun h hne => ?_⟩
  · rw [hmoved.quality, hup.frame]
    rfl
  · rw [hgrant]
    exact Part.grant_upkeepAll_of_leaving hleaving [g] _ hr
  · obtain ⟨hself, hturn⟩ := Part.upkeep_self (p := measured.elapse d.left) hr ht hlive
    rw [Part.judgedAt_elapse] at hself
    rw [Part.placeBad_elapse] at hturn
    refine ⟨(hgrant g).trans hself, fun hbad hgood => ?_⟩
    obtain ⟨hevent, hwork⟩ := hturn hbad hgood (by rw [← hraised] at hlt; exact hlt)
    exact ⟨hmoved.raised _ _ hevent, hmoved.work _ hwork⟩
  · rw [hgrant, Part.grant_upkeep_ne _ hne]
    rfl

end Sys2Proof.Machine
end

section
/-! SUPPORT. Verdicts over a range of slices (R12, R13, R135, R136): what they leave of the map and of the quality
entries, and the upkeep of the range's grants after them. -/

namespace Sys2Proof.Machine

/-! ### What a verdict of the host makes of a map entry -/

theorem SliceEntry.quarantine_of_crossover {e : SliceEntry} (h : e.use = .crossover) (pin : Bool) :
    e.quarantine pin = e := by
  simp only [SliceEntry.quarantine, h]

/-- The forced entry, by the slice's state. -/
theorem SliceEntry.quarantine_host (e : SliceEntry) : e.quarantine true = if e.use = .crossover then e
    else if e.available then ⟨.quarantined, false, true⟩
    else if e.use = .quarantined then { e with pinned := true }
    else { e with impaired := true, pinned := true } := by
  obtain ⟨u, i, q⟩ := e
  cases u <;> simp [SliceEntry.quarantine, SliceEntry.available]

/-- A slice that is let go and then forced ends QUARANTINED and pinned. -/
theorem SliceEntry.quarantine_released (e : SliceEntry) : e.released.quarantine true = ⟨.quarantined, false, true⟩ := by
  unfold SliceEntry.released
  split <;> simp [SliceEntry.quarantine]

/-- So does a claimed slice that is forced and then let go. -/
theorem SliceEntry.released_quarantine {e : SliceEntry} {g : Nat} (h : e.use = .claimed g) :
    (e.quarantine true).released = ⟨.quarantined, false, true⟩ := by
  rw [SliceEntry.quarantine_of_keepsState (by simp [SliceEntry.keepsState, h])]
  simp [SliceEntry.released]

/-- The lifted entry, by the slice's state. -/
theorem SliceEntry.lift_host {e : SliceEntry} (h : e.sound = true) : e.lift true =
    if e.use = .quarantined then ⟨.free, false, false⟩ else { e with impaired := false, pinned := false } := by
  obtain ⟨u, i, q⟩ := e
  cases u <;> simp_all [SliceEntry.lift, SliceEntry.sound]

theorem SliceEntry.pinned_of_unmarked {e : SliceEntry} (h : e.sound = true) (hu : e.use ≠ .quarantined)
    (hi : e.impaired = false) : e.pinned = false := by
  obtain ⟨u, i, q⟩ := e
  rcases u with _ | _ | _ | _ | ⟨_, _ | _⟩ | _ | _ | _ <;> simp_all [SliceEntry.sound]

/-- The host's lift changes an entry that is QUARANTINED or carries the impaired mark. -/
theorem SliceEntry.lift_host_ne {e : SliceEntry} (h : e.sound = true) :
    (e.lift true != e) = (e.use == .quarantined || e.impaired) := by
  rw [SliceEntry.lift_host h]
  by_cases hu : e.use = .quarantined
  · have hne : (⟨.free, false, false⟩ : SliceEntry) ≠ e := fun he => by simp [← he] at hu
    simp [hu, hne]
  · rw [if_neg hu, beq_false_of_ne hu, Bool.false_or]
    cases hi : e.impaired with
    | false =>
      have hsame : { e with impaired := false, pinned := false } = e := by
        have hp := SliceEntry.pinned_of_unmarked h hu hi
        cases e
        simp_all
      simp [hsame]
    | true =>
      have hne : { e with impaired := false, pinned := false } ≠ e := fun he => by
        rw [← he] at hi
        simp at hi
      simp [hne]

/-! ### Verdicts over several slices -/

/-- Between `p` and `q` the slices `ns` have taken `f`, and the counts of those whose entry `ends` them are 0; but for
the test of the cap nothing else changes. -/
structure Part.Verdicts (f : SliceEntry → SliceEntry) (ends : SliceEntry → Prop) (ns : List Nat) (p q : Part) :
    Prop where
  frame : q = { p with
    slices := q.slices, level := q.level, events := q.events
    monitor := { p.monitor with quality := q.monitor.quality } }
  slices : q.slices.length = p.slices.length
  quality : q.monitor.quality.length = p.monitor.quality.length
  slice : ∀ i, q.slice i = if i ∈ ns then f (p.slice i) else p.slice i
  counts : ∀ i ∈ ns, ends (p.slice i) → (q.qualityOf i).strikes = 0 ∧ (q.qualityOf i).clears = 0
  others : ∀ i, i ∉ ns → q.qualityOf i = p.qualityOf i
  raised : q.events.raised = p.events.raised
  clear : p.level.overCap = false → q.level = p.level ∧ q.events = p.events

theorem Part.qualityOf_clearCounts {p : Part} {n : Nat} (hn : n < p.monitor.quality.length) (i : Nat) :
    (p.clearCounts n).qualityOf i =
      if i = n then { p.qualityOf n with strikes := 0, clears := 0 } else p.qualityOf i := by
  unfold Part.clearCounts Part.qualityOf
  by_cases h : i = n
  · subst h
    simp [List.getD_eq_getElem?_getD, hn]
  · simp [List.getD_eq_getElem?_getD, h, List.getElem?_set_ne (Ne.symm h)]

section
variable {f : SliceEntry → SliceEntry} {ends : SliceEntry → Prop} {p q r : Part} {n : Nat} {ns ms : List Nat}

/-- No slice has taken a verdict yet. -/
theorem Part.Verdicts.refl (f : SliceEntry → SliceEntry) (ends : SliceEntry → Prop) (p : Part) :
    Part.Verdicts f ends [] p p :=
  ⟨rfl, rfl, rfl, fun _ => by simp, fun _ h => by simp at h, fun _ _ => rfl, rfl, fun _ => ⟨rfl, rfl⟩⟩

theorem Part.Verdicts.append (h : Part.Verdicts f ends ns p q) (k : Part.Verdicts f ends ms q r) (hd : ns.Disjoint ms) :
    Part.Verdicts f ends (ns ++ ms) p r where
  frame := by rw [k.frame, h.frame]
  slices := k.slices.trans h.slices
  quality := k.quality.trans h.quality
  slice i := by
    rw [k.slice, h.slice]
    by_cases hm : i ∈ ms
    · have hn : i ∉ ns := fun hn => hd hn hm
      simp [hn, hm]
    · simp [hm]
  counts i hi he := by
    by_cases hm : i ∈ ms
    · exact k.counts i hm (by rwa [h.slice, if_neg fun hn => hd hn hm])
    · rw [k.others i hm]
      exact h.counts i ((List.mem_append.mp hi).resolve_right hm) he
  others i hi := by
    obtain ⟨hn, hm⟩ := not_or.mp (mt List.mem_append.mpr hi)
    rw [k.others i hm, h.others i hn]
  raised := k.raised.trans h.raised
  clear hover := by
    obtain ⟨hlevel, hevents⟩ := h.clear hover
    obtain ⟨klevel, kevents⟩ := k.clear (by rwa [hlevel])
    exact ⟨klevel.trans hlevel, kevents.trans hevents⟩

/-- The counts that end may be fewer. -/
theorem Part.Verdicts.withoutCounts (h : Part.Verdicts f ends ns p q) : Part.Verdicts f (fun _ => False) ns p q :=
  { h with counts := fun _ _ => False.elim }

/-- One slice takes its verdict, before its counts end. -/
theorem Part.verdicts_setSlice (hn : n < p.slices.length) :
    Part.Verdicts f (fun _ => False) [n] p (p.setSlice n (f (p.slice n))) where
  frame := rfl
  slices := by simp
  quality := rfl
  slice i := by simp only [Part.slice_setSlice, hn, and_true, List.mem_singleton]; split <;> simp_all
  counts _ _ := False.elim
  others _ _ := rfl
  raised := rfl
  clear _ := ⟨rfl, rfl⟩

/-- The cap is tested after the verdict. -/
theorem Part.Verdicts.capTest (h : Part.Verdicts f (fun _ => False) ns p q) :
    Part.Verdicts f (fun _ => False) ns p q.capTest := by
  obtain ⟨l, e, hcap, hraised⟩ := q.capTest_frame
  have hclear : p.level.overCap = false → q.capTest.level = p.level ∧ q.capTest.events = p.events := fun hover => by
    obtain ⟨hlevel, hevents⟩ := h.clear hover
    rw [Part.capTest_of_clear (by rwa [hlevel])]
    exact ⟨hlevel, hevents⟩
  rw [hcap] at hclear ⊢
  exact { h with
    frame := by rw [h.frame]
    raised := hraised.trans h.raised
    clear := hclear }

/-- The counts of the slice end. -/
theorem Part.Verdicts.clearCounts (h : Part.Verdicts f (fun _ => False) [n] p q) (hn : n < p.monitor.quality.length) :
    Part.Verdicts f ends [n] p (q.clearCounts n) := by
  have hentry := Part.qualityOf_clearCounts (p := q) (n := n) (by rwa [h.quality])
  exact { h with
    frame := by rw [h.frame]; rfl
    quality := by simpa [Part.clearCounts] using h.quality
    counts := fun i hi _ => by simp [hentry, List.mem_singleton.mp hi]
    others := fun i hi => by
      rw [hentry, if_neg (by simpa using hi)]
      exact h.others i hi }

/-- A verdict step repeated over several slices, under a condition that a step on another slice keeps. -/
theorem Part.verdicts_foldl {step : Part → Nat → Part} {may : Part → Nat → Prop}
    (hstep : ∀ p n, n < p.slices.length → n < p.monitor.quality.length → may p n →
      Part.Verdicts f ends [n] p (step p n))
    (hmay : ∀ p q m n, Part.Verdicts f ends [m] p q → n ≠ m → may p n → may q n) (hns : ns.Nodup)
    (hslices : ∀ n ∈ ns, n < p.slices.length) (hquality : ∀ n ∈ ns, n < p.monitor.quality.length)
    (h : ∀ n ∈ ns, may p n) : Part.Verdicts f ends ns p (ns.foldl step p) := by
  induction ns generalizing p with
  | nil => exact .refl f ends p
  | cons n ns ih =>
    obtain ⟨hnot, hnodup⟩ := List.nodup_cons.mp hns
    have hfirst := hstep p n (hslices n (by simp)) (hquality n (by simp)) (h n (by simp))
    refine hfirst.append (ih hnodup (fun k hk => ?_) (fun k hk => ?_) fun k hk => ?_) (by simpa using hnot)
    · rw [hfirst.slices]
      exact hslices k (by simp [hk])
    · rw [hfirst.quality]
      exact hquality k (by simp [hk])
    · exact hmay _ _ _ k hfirst (fun e => hnot (e ▸ hk)) (h k (by simp [hk]))

end

/-! ### QUARANTINE_FORCE and QUARANTINE_LIFT slice by slice (R135, R136) -/

/-- A forced slice, where no job is reached. -/
theorem Part.verdicts_forceSlice {p : Part} {n : Nat} (hn : n < p.slices.length) (hq : n < p.monitor.quality.length)
    (h : (p.slice n).use ≠ .crossover → p.untouched n) :
    Part.Verdicts (SliceEntry.quarantine true) (·.use ≠ .crossover) [n] p (p.forceSlice n) := by
  unfold Part.forceSlice
  split
  · next hcross =>
    have hcross : (p.slice n).use = .crossover := by simpa using hcross
    exact { Part.Verdicts.refl (SliceEntry.quarantine true) (·.use ≠ .crossover) p with
      slice := fun i => by
        split
        · next hi => rw [List.mem_singleton.mp hi, SliceEntry.quarantine_of_crossover hcross]
        · rfl
      counts := fun i hi he => absurd (List.mem_singleton.mp hi ▸ hcross) he
      others := fun _ _ => rfl }
  · next hcross =>
    rw [Part.quarantineVerdict_of_untouched (h (by simpa using hcross))]
    exact (Part.verdicts_setSlice hn).capTest.clearCounts hq

/-- A range forced, where no job is reached. -/
theorem Part.verdicts_force {p : Part} {ns : List Nat} (hs : p.slices.length = 1024)
    (hq : p.monitor.quality.length = 1024) (hns : ns.Nodup) (hlt : ∀ n ∈ ns, n < 1024)
    (h : ∀ n ∈ ns, (p.slice n).use ≠ .crossover → p.untouched n) :
    Part.Verdicts (SliceEntry.quarantine true) (·.use ≠ .crossover) ns p (ns.foldl Part.forceSlice p) := by
  refine Part.verdicts_foldl (may := fun p n => (p.slice n).use ≠ .crossover → p.untouched n)
    (fun p n => Part.verdicts_forceSlice) (fun p q m n hv hne hmay hcross => ?_) hns (by rwa [hs]) (by rwa [hq]) h
  rw [hv.slice, if_neg (by simpa using hne)] at hcross
  exact (Part.untouched_congr (by rw [hv.frame]) (by rw [hv.frame]) n).mpr (hmay hcross)

/-- A range lifted. -/
theorem Part.verdicts_lift {p : Part} {ns : List Nat} (hs : p.slices.length = 1024)
    (hq : p.monitor.quality.length = 1024) (hns : ns.Nodup) (hlt : ∀ n ∈ ns, n < 1024) :
    Part.Verdicts (SliceEntry.lift true) (fun _ => True) ns p (ns.foldl Part.liftSlice p) :=
  Part.verdicts_foldl (may := fun _ _ => True) (fun _ _ hn hq _ => (Part.verdicts_setSlice hn).clearCounts hq)
    (fun _ _ _ _ _ _ => id) hns (by rwa [hs]) (by rwa [hq]) fun _ _ => trivial

/-- A lift tests no cap. -/
theorem Part.events_lift (ns : List Nat) (p : Part) : (ns.foldl Part.liftSlice p).events = p.events := by
  induction ns generalizing p with
  | nil => rfl
  | cons n ns ih => exact ih _

/-! ### The upkeep after the verdicts (R135, R136) -/

/-- What an act leaves that began in `p` and whose verdicts left `v`: the grants of the range have had their upkeep, and
the test of the act has been made. -/
def Part.afterVerdicts (p v : Part) (q : RangeFields) : Part :=
  p.commitTest (v.upkeepAll (v.grantsOn fun n => (rangeSlices q).contains n))

section
variable {p v : Part} {q : RangeFields} {g : Nat} {r : Grant}

theorem Part.upkept_afterVerdicts (p v : Part) (q : RangeFields) : Part.Upkept v (p.afterVerdicts v q) :=
  (Part.upkept_upkeepAll _ v).trans (.commitTest p _)

theorem Part.slice_afterVerdicts (p v : Part) (q : RangeFields) (n : Nat) :
    (p.afterVerdicts v q).slice n = v.slice n :=
  Part.slice_congr (by rw [(p.upkept_afterVerdicts v q).frame]) n

theorem Part.qualityOf_afterVerdicts (p v : Part) (q : RangeFields) (n : Nat) :
    (p.afterVerdicts v q).qualityOf n = v.qualityOf n := by
  rw [(p.upkept_afterVerdicts v q).frame]
  rfl

theorem Part.grant_afterVerdicts (p v : Part) (q : RangeFields) (g : Nat) : (p.afterVerdicts v q).grant g =
    (v.upkeepAll (v.grantsOn fun n => (rangeSlices q).contains n)).grant g :=
  Part.grant_congr (p.commitTest_grants _) g

theorem Part.mem_grantsOn_range : g ∈ (v.grantsOn fun n => (rangeSlices q).contains n) ↔
    g < 96 ∧ ∃ r, v.grant g = some r ∧ ∃ n ∈ r.carrier, q.first ≤ n ∧ n < q.first + q.count := by
  simp [Part.grantsOn, Option.any_eq_true, mem_rangeSlices]

/-- A record that is free stays free. -/
theorem Part.grant_afterVerdicts_of_free (h : v.grant g = none) : (p.afterVerdicts v q).grant g = none := by
  rw [Part.grant_afterVerdicts, Part.grant_upkeepAll_of_not_mem, h]
  intro hmem
  obtain ⟨-, r, hr, -⟩ := Part.mem_grantsOn_range.mp hmem
  simp [h] at hr

/-- A record in use keeps its place and its state. -/
theorem Part.grant_afterVerdicts_of_used {t : TenantRecord} (hr : v.grant g = some r)
    (ht : v.tenant r.tenant = some t) :
    ∃ x, (p.afterVerdicts v q).grant g = some x ∧ x.state = r.state ∧ x.first = r.first ∧ x.width = r.width := by
  rw [Part.grant_afterVerdicts]
  by_cases hmem : g ∈ v.grantsOn fun n => (rangeSlices q).contains n
  · by_cases hstate : r.state = .leaving
    · exact ⟨r, Part.grant_upkeepAll_of_leaving hstate _ v hr, rfl, rfl, rfl⟩
    · exact ⟨_, Part.grant_upkeepAll_of_live hstate hmem v hr ht, rfl, rfl, rfl⟩
  · exact ⟨r, (Part.grant_upkeepAll_of_not_mem hmem v).trans hr, rfl, rfl, rfl⟩

/-- A live grant with a marked carrier slice in the range is judged bad (R138, R139). -/
theorem Part.grant_afterVerdicts_of_marked {t : TenantRecord} {n : Nat} (hg : g < 96) (hr : v.grant g = some r)
    (ht : v.tenant r.tenant = some t) (hlive : r.state ≠ .leaving) (hlt : r.tenant < v.events.raised.length)
    (hin : q.first ≤ n ∧ n < q.first + q.count) (hn : n ∈ r.carrier) (hmark : (v.slice n).impaired = true) :
    let u := p.afterVerdicts v q
    ∃ x, u.grant g = some x ∧ x.impaired = true ∧ (r.impaired = false → x.relocationPending = true ∧
      u.events.raised.getD r.tenant 0 &&& 8 = 8 ∧ .attempt g ∈ u.alloc.work) := by
  have hmem := Part.mem_grantsOn_range (v := v) (q := q).mpr ⟨hg, r, hr, n, hn, hin⟩
  obtain ⟨hlo, hhi⟩ : r.first ≤ n ∧ n < r.first + r.width := by simpa [Grant.carrier] using hn
  have hbad : v.placeBad r.cls t ⟨r.first, r.width⟩ = true := (v.placeBad_iff _ _ _).mpr (.inl ⟨n, hlo, hhi, hmark⟩)
  have htest := Part.Upkept.commitTest p (v.upkeepAll (v.grantsOn fun n => (rangeSlices q).contains n))
  refine ⟨v.judgedAt t r, ?_, ?_, fun hgood => ⟨?_, ?_⟩⟩
  · rw [Part.grant_afterVerdicts, Part.grant_upkeepAll_of_live hlive hmem v hr ht]
  · exact hbad
  · simp [Part.judgedAt, Grant.judged, hbad, hgood]
  · obtain ⟨hevent, hwork⟩ := Part.upkeepAll_of_bad hlive hgood hmem v hr ht hbad hlt
    exact ⟨htest.raised _ _ hevent, htest.work _ hwork⟩

/-- With no grant in the range there is no upkeep, and no relation turns. -/
theorem Part.afterVerdicts_of_bare (ht : v.tenants = p.tenants) (hg : v.grants = p.grants)
    (h : ∀ g r, p.grant g = some r → ∀ n, q.first ≤ n ∧ n < q.first + q.count → n ∉ r.carrier) :
    p.afterVerdicts v q = v := by
  have hnone : (v.grantsOn fun n => (rangeSlices q).contains n) = [] :=
    List.eq_nil_iff_forall_not_mem.mpr fun g hmem => by
      obtain ⟨-, r, hr, n, hn, hin⟩ := Part.mem_grantsOn_range.mp hmem
      exact h g r (by rwa [← Part.grant_congr hg]) n hin hn
  rw [Part.afterVerdicts, hnone]
  exact Part.commitTest_of_same ht hg

end

end Sys2Proof.Machine
end

section
/-! SUPPORT. A job that a verdict reaches is abandoned (R38, R118, R119), and a forced range that reaches the only job
of the list. -/

namespace Sys2Proof.Machine

/-! ### One job is abandoned (R118, R119) -/

/-- The event that the abandonment of a job raises for its tenant (R119). -/
def Job.lostEvent (j : Job) : TenantEvent :=
  if j.kind = .move ∧ j.relocation = true then .relocateFailed else .grantFailed

/-- The part once an abandoned job has left the list: the turnaround of its tenant begun where it had started, and its
event raised. -/
def Part.losing (p : Part) (j : Job) (k : Nat) : Part :=
  ((p.turnaroundIfStarted j).dropJob j.id).abandonEvents j k .impaired

/-- Between `p` and `q` a job of the tenant `k` has left the list, and its event stands. -/
structure Part.Lost (p : Part) (j : Job) (k : Nat) (q : Part) : Prop where
  slices : q.slices = p.slices
  grants : q.grants = p.grants
  jobs : q.engine.jobs = p.engine.jobs.filter fun i => i.id != j.id
  store : q.store = p.store
  raised : q.events.raised.getD k 0 &&& j.lostEvent.bit = j.lostEvent.bit

/-- Between `p` and `q` a job of the tenant `k` has been abandoned: its event stands, its grant's record is `x`, and the
claimed slices of the grant outside `keep` are let go. -/
structure Part.Abandoned (p : Part) (j : Job) (k : Nat) (x : Option Grant) (keep : Nat → Bool) (q : Part) : Prop where
  grants : q.grants = p.grants.set j.grant x
  jobs : q.engine.jobs = p.engine.jobs.filter fun i => i.id != j.id
  store : q.store = p.store
  raised : q.events.raised.getD k 0 &&& j.lostEvent.bit = j.lostEvent.bit
  slice : ∀ n, (p.slice n).use = .claimed j.grant → keep n = false → q.slice n = (p.slice n).released

theorem Part.slice_letGo_of_claimed {p : Part} {g n : Nat} (hlen : p.slices.length = 1024) (level : Option Int)
    {keep : Nat → Bool} (h : (p.slice n).use = .claimed g) (hkeep : keep n = false) :
    (p.letGo g level none keep).slice n = (p.slice n).released := by
  obtain ⟨-, -, hgoes⟩ := Part.letGoSince_letGo hlen (ended := none) (g := g) rfl level keep
  exact (hgoes n hkeep).1 (.inl h)

section
variable {p : Part} {j : Job} {r : Grant} {t : TenantRecord}

theorem Part.lost_losing (hr : p.grant j.grant = some r) (ht : p.tenant r.tenant = some t)
    (hlt : r.tenant < p.events.raised.length) :
    p.Lost j r.tenant (p.losing j r.tenant) ∧ (p.losing j r.tenant).tenants = p.tenants := by
  have hturn := Part.turnaroundIfStarted_eq (show p.jobTenant j = some r.tenant by simp [Part.jobTenant, hr]) ht
  have hevent : p.losing j r.tenant = ((p.turnaroundIfStarted j).dropJob j.id).raise r.tenant j.lostEvent := by
    rw [Part.losing, Part.abandonEvents, Job.lostEvent, if_neg (by simp)]
    by_cases h : j.kind = .move ∧ j.relocation = true
    · rw [if_pos h, if_pos (by simpa using h)]
    · rw [if_neg h, if_neg (by simpa using h)]
  rw [hevent, hturn]
  exact ⟨⟨rfl, rfl, rfl, rfl, Part.raised_raise_self _ _ hlt⟩, rfl⟩

/-- What the grant holds outside `keep` is let go, its new record in place. -/
theorem Part.Lost.letGo {k : Nat} {q : Part} (h : p.Lost j k q) (hlen : p.slices.length = 1024) (x : Option Grant)
    (level : Option Int) (keep : Nat → Bool) :
    p.Abandoned j k x keep ((q.setGrant j.grant x).letGo j.grant level none keep) := by
  have hmap := (q.setGrant j.grant x).mapOnly_letGo j.grant level keep
  have hslice := Part.slice_congr (q := q.setGrant j.grant x) h.slices
  refine ⟨?_, ?_, hmap.store.trans h.store, ?_, fun n hn hkeep => ?_⟩
  · rw [hmap.grants, Part.setGrant_grants, h.grants]
  · rw [hmap.engine]
    exact h.jobs
  · rw [Part.letGo_raised]
    exact h.raised
  · rw [Part.slice_letGo_of_claimed (by rw [← hlen, ← h.slices]; rfl) level (by rwa [hslice]) hkeep, hslice]

/-- The grant of an abandoned ACTIVATE is freed once its tenant has kept why. -/
theorem Part.abandonOne_frees (hlt : r.tenant < p.events.raised.length) (hr : p.grant j.grant = some r)
    (ht : p.tenant r.tenant = some t) (hk : j.kind = .activate) :
    ∃ q, p.abandonOne j .impaired = (q.freeGrant j.grant none).reportEnd j false ∧ p.Lost j r.tenant q ∧
      q.tenant r.tenant = some { t with lastFailure := some (j.grant, .impaired) } := by
  obtain ⟨hlost, htenants⟩ := Part.lost_losing hr ht hlt
  have hstands : (p.losing j r.tenant).tenant r.tenant = some t := (Part.tenant_congr htenants _).trans ht
  have hone : p.abandonOne j .impaired =
      (((p.losing j r.tenant).recordFailure r.tenant j.grant .impaired).freeGrant j.grant none).reportEnd j false := by
    simp only [Part.abandonOne, hr, hk]
    rfl
  simp only [Part.recordFailure, hstands] at hone
  exact ⟨_, hone, ⟨hlost.slices, hlost.grants, hlost.jobs, hlost.store, hlost.raised⟩,
    Part.tenant_setTenant_self _ hstands⟩

/-- An ACTIVATE that is abandoned frees its grant, and its tenant keeps why. -/
theorem Part.abandonOne_of_activate (hlen : p.slices.length = 1024) (hlt : r.tenant < p.events.raised.length)
    (hb : p.store.batch = none) (hr : p.grant j.grant = some r) (ht : p.tenant r.tenant = some t)
    (hs : t.status ≠ .retiring) (hk : j.kind = .activate) :
    p.Abandoned j r.tenant none (fun _ => false) (p.abandonOne j .impaired) ∧
      (p.abandonOne j .impaired).tenant r.tenant = some { t with
        grants := t.grants.filter fun k => k != j.grant, lastFailure := some (j.grant, .impaired) } := by
  obtain ⟨q, hone, hlost, hfailed⟩ := Part.abandonOne_frees hlt hr ht hk
  have hgone := hlost.letGo hlen none r.level fun _ => false
  have hkept := ((q.setGrant j.grant none).mapOnly_letGo j.grant r.level fun _ => false).tenants
  rw [hone, Part.freeGrant_of_standing ((Part.grant_congr hlost.grants _).trans hr) hfailed hs]
  generalize (q.setGrant j.grant none).letGo j.grant r.level none (fun _ => false) = v at hgone hkept
  rw [Part.reportEnd_of_no_batch (by rw [Part.setTenant_store, hgone.store]; exact hb)]
  exact ⟨⟨hgone.grants, hgone.jobs, hgone.store, hgone.raised, hgone.slice⟩,
    Part.tenant_setTenant_self _ ((Part.tenant_congr hkept _).trans hfailed)⟩

/-- A MOVE that is abandoned leaves its grant ACTIVE at its origin. -/
theorem Part.abandonOne_of_move (hlen : p.slices.length = 1024) (hlt : r.tenant < p.events.raised.length)
    (hb : p.store.batch = none) (hr : p.grant j.grant = some r) (ht : p.tenant r.tenant = some t)
    (hk : j.kind = .move) :
    p.Abandoned j r.tenant (some { r with state := .active }) r.covers (p.abandonOne j .impaired) ∧
      (p.abandonOne j .impaired).tenants = p.tenants := by
  obtain ⟨hlost, htenants⟩ := Part.lost_losing hr ht hlt
  have hgone := hlost.letGo hlen (some { r with state := .active }) r.level r.covers
  have hone : p.abandonOne j .impaired = (((p.losing j r.tenant).setGrant j.grant
      (some { r with state := .active })).letGo j.grant r.level none r.covers).reportEnd j false := by
    simp only [Part.abandonOne, hr, hk]
    rfl
  rw [hone, Part.reportEnd_of_no_batch (by rw [hgone.store]; exact hb)]
  exact ⟨hgone, (Part.mapOnly_letGo _ _ _ _).tenants.trans htenants⟩

end

/-! ### A forced range that reaches the only job of the list (R118, R135) -/

/-- The only job of the list is abandoned alone: nothing waits on it but at most itself, and it is gone. -/
theorem Part.abandon_of_only {p : Part} {j : Job} {why : FailureReason} (hjobs : p.engine.jobs = [j])
    (h : (p.abandonOne j why).engine.jobs = []) : p.abandon j.id why = p.abandonOne j why := by
  have hjob : p.job j.id = some j := by simp [Part.job, hjobs]
  have hgone : ∀ i, (p.abandonOne j why).job i = none := by simp [Part.job, h]
  simp only [Part.abandon, hjob, hjobs]
  by_cases hself : j.after = some j.id
  · simp [hself, hgone]
  · simp [hself]

/-- A verdict that reaches the only job changes the map, and the job is abandoned. -/
theorem Part.quarantineVerdict_of_reached {p v : Part} {j : Job} {n : Nat} {pin : Bool}
    (hv : (p.setSlice n ((p.slice n).quarantine pin)).capTest = v) (hjobs : p.engine.jobs = [j])
    (hsilent : j.silent = true) (hin : p.bringsIn j n = true) (hgone : (v.abandonOne j .impaired).engine.jobs = []) :
    Part.quarantineVerdict pin p n = v.abandonOne j .impaired := by
  have hmap := (p.setSlice n ((p.slice n).quarantine pin)).mapOnly_capTest
  rw [hv] at hmap
  have hjobs' : v.engine.jobs = [j] := by rw [hmap.engine]; exact hjobs
  have hin' : v.bringsIn j n = true := by rw [Part.bringsIn_congr (p := p) hmap.grants]; exact hin
  simp only [Part.quarantineVerdict, hv, hjobs', List.filter_cons, hsilent, hin', Bool.and_self, if_true,
    List.filter_nil, List.foldl_cons, List.foldl_nil]
  exact Part.abandon_of_only hjobs' hgone

/-- The first element of a list that meets a condition which some element meets. -/
theorem exists_first {α : Type} {l : List α} {f : α → Bool} (h : ∃ n ∈ l, f n = true) :
    ∃ before m after, l = before ++ m :: after ∧ f m = true ∧ ∀ n ∈ before, f n = false := by
  obtain ⟨n, hn, hf⟩ := h
  obtain ⟨m, hm⟩ := Option.isSome_iff_exists.mp (List.find?_isSome.mpr ⟨n, hn, hf⟩)
  obtain ⟨hfm, before, after, rfl, hbefore⟩ := List.find?_eq_some_iff_append.mp hm
  exact ⟨before, m, after, rfl, hfm, fun n hn => by simpa using hbefore n hn⟩

/-- The lower slices of the range take their verdicts, then the first slice that reaches the job takes its own, and the
job is abandoned before the higher ones take theirs. -/
theorem Part.force_split {p : Part} {j : Job} {ns : List Nat} (hs : p.slices.length = 1024)
    (hq : p.monitor.quality.length = 1024) (hns : ns.Nodup) (hlt : ∀ n ∈ ns, n < 1024) (hjobs : p.engine.jobs = [j])
    (hsilent : j.silent = true) (hreach : ∃ n ∈ ns, (p.slice n).use ≠ .crossover ∧ p.bringsIn j n = true) :
    ∃ before m after v, ns = before ++ m :: after ∧
      Part.Verdicts (SliceEntry.quarantine true) (fun _ => False) (before ++ [m]) p v ∧
      ((v.abandonOne j .impaired).engine.jobs = [] → ns.foldl Part.forceSlice p =
        after.foldl Part.forceSlice ((v.abandonOne j .impaired).clearCounts m)) := by
  obtain ⟨before, m, after, rfl, hm, hbefore⟩ := exists_first
    (f := fun n => (p.slice n).use != .crossover && p.bringsIn j n) (by simpa using hreach)
  obtain ⟨hcross, hin⟩ : (p.slice m).use ≠ .crossover ∧ p.bringsIn j m = true := by simpa using hm
  obtain ⟨hlower, -, hapart⟩ := List.nodup_append.mp hns
  have hnotBefore : m ∉ before := fun h => hapart m h m (by simp) rfl
  have hfirst := Part.verdicts_force hs hq hlower (fun n hn => hlt n (by simp [hn])) fun n hn hne i hi _ => by
    have hout := hbefore n hn
    rw [hjobs, List.mem_singleton] at hi
    rw [Bool.and_eq_false_iff, bne_eq_false_iff_eq] at hout
    exact hi ▸ hout.resolve_left hne
  rw [List.foldl_append, List.foldl_cons]
  generalize before.foldl Part.forceSlice p = lower at hfirst
  have hslice : lower.slice m = p.slice m := by rw [hfirst.slice, if_neg hnotBefore]
  have hjobs' : lower.engine.jobs = [j] := by rw [hfirst.frame]; exact hjobs
  have hin' : lower.bringsIn j m = true := by rw [Part.bringsIn_congr (p := p) (by rw [hfirst.frame])]; exact hin
  refine ⟨before, m, after, _, rfl, hfirst.withoutCounts.append
    (Part.verdicts_setSlice (by rw [hfirst.slices, hs]; exact hlt m (by simp))).capTest (by simpa using hnotBefore),
    fun hgone => ?_⟩
  rw [Part.forceSlice, if_neg (by simpa [hslice] using hcross),
    Part.quarantineVerdict_of_reached rfl hjobs' hsilent hin' hgone]

/-- The slices claimed for the abandoned job end QUARANTINED and pinned, be they forced before they are let go or
after. -/
theorem Part.force_of_reached {p : Part} {j : Job} {k : Nat} {x : Option Grant} {keep : Nat → Bool} {ns : List Nat}
    (hs : p.slices.length = 1024) (hq : p.monitor.quality.length = 1024) (hns : ns.Nodup) (hlt : ∀ n ∈ ns, n < 1024)
    (hjobs : p.engine.jobs = [j]) (hsilent : j.silent = true)
    (hreach : ∃ n ∈ ns, (p.slice n).use ≠ .crossover ∧ p.bringsIn j n = true)
    (habandon : ∀ v ms, Part.Verdicts (SliceEntry.quarantine true) (fun _ => False) ms p v →
      v.Abandoned j k x keep (v.abandonOne j .impaired)) :
    let u := ns.foldl Part.forceSlice p
    ∃ v ms, Part.Verdicts (SliceEntry.quarantine true) (fun _ => False) ms p v ∧
      u = { v.abandonOne j .impaired with
        slices := u.slices, level := u.level, monitor := u.monitor, events := u.events } ∧
      u.events.raised = (v.abandonOne j .impaired).events.raised ∧
      ∀ n ∈ ns, (p.slice n).use = .claimed j.grant → keep n = false → u.slice n = ⟨.quarantined, false, true⟩ := by
  obtain ⟨before, m, after, v, rfl, hturn, hfold⟩ := Part.force_split hs hq hns hlt hjobs hsilent hreach
  obtain ⟨-, htail, hapart⟩ := List.nodup_append.mp hns
  obtain ⟨hnotAfter, hupper⟩ := List.nodup_cons.mp htail
  have hgone := habandon v _ hturn
  have hkept := v.kept_abandonOne j .impaired
  have hnone : (v.abandonOne j .impaired).engine.jobs = [] := by
    rw [hgone.jobs, hturn.frame]
    simp [hjobs]
  rw [hfold hnone]
  generalize hw : v.abandonOne j .impaired = w at hgone hkept hnone
  have hlast := Part.verdicts_force (p := w.clearCounts m) (hkept.slices.trans (hturn.slices.trans hs))
    (by simp [Part.clearCounts, hkept.monitor, hturn.quality, hq]) hupper (fun n hn => hlt n (by simp [hn]))
    fun n _ _ i hi => by simp [Part.clearCounts, hnone] at hi
  generalize after.foldl Part.forceSlice (w.clearCounts m) = u at hlast
  refine ⟨v, _, hturn, by rw [hw, hlast.frame]; rfl, by rw [hw]; exact hlast.raised, fun n hn hclaimed hkeep => ?_⟩
  have hlet : (v.slice n).use = .claimed j.grant → (w.clearCounts m).slice n = (v.slice n).released := fun h =>
    hgone.slice n h hkeep
  rw [hturn.slice] at hlet
  by_cases hmem : n ∈ before ++ [m]
  · have hnot : n ∉ after := fun h => by
      rcases List.mem_append.mp hmem with hb | hb
      · exact hapart n hb n (by simp [h]) rfl
      · exact hnotAfter (List.mem_singleton.mp hb ▸ h)
    rw [if_pos hmem, SliceEntry.released_quarantine hclaimed,
      SliceEntry.quarantine_of_keepsState (by simp [SliceEntry.keepsState, hclaimed])] at hlet
    rw [hlast.slice, if_neg hnot, hlet hclaimed]
  · have hmem' : n ∈ after := by
      simp only [List.mem_append, List.mem_cons, List.not_mem_nil, or_false, not_or] at hn hmem
      tauto
    rw [if_neg hmem] at hlet
    rw [hlast.slice, if_pos hmem', hlet hclaimed, SliceEntry.quarantine_released]

end Sys2Proof.Machine
end

section
/-! QUARANTINE_FORCE and QUARANTINE_LIFT (R135, R136): O44. -/

namespace Sys2Proof.Machine

section
variable {s : State} {tag : Byte} {q : RangeFields}

/-! ### The requests -/

theorem exec_quarantineForce (tag : Byte) (q : RangeFields) (s : State) :
    exec (.quarantineForce tag (some q)) s =
      s.serve (.quarantineForce tag (some q)) tag 0x42 (Part.quarantineForce q) := rfl

theorem exec_quarantineLift (tag : Byte) (q : RangeFields) (s : State) :
    exec (.quarantineLift tag (some q)) s =
      s.serve (.quarantineLift tag (some q)) tag 0x43 (Part.quarantineLift q) := rfl

theorem Part.quarantineForce_of_bad (p : Part) (h : rangeOk 64 q = false) :
    Part.quarantineForce q p = (p, refuse .badField) := by
  simp [Part.quarantineForce, h]

theorem Part.quarantineLift_of_bad (p : Part) (h : rangeOk 64 q = false) :
    Part.quarantineLift q p = (p, refuse .badField) := by
  simp [Part.quarantineLift, h]

theorem lt_of_mem_rangeSlices (hok : rangeOk 64 q = true) : ∀ n ∈ rangeSlices q, n < 1024 := fun n hn => by
  obtain ⟨-, -, htop⟩ := rangeOk_iff.mp hok
  obtain ⟨-, hlt⟩ := mem_rangeSlices.mp hn
  omega

/-- QUARANTINE_FORCE is answered with the number of its slices outside the crossover, and leaves the part `u`. -/
def State.forcesInto (s : State) (tag : Byte) (q : RangeFields) (u : Part) : Prop :=
  exec (.quarantineForce tag (some q)) s = .next (s.answers (.quarantineForce tag (some q)) tag 0x42
    (doneWith [byte ((rangeSlices q).countP fun n => (s.part.slice n).use != .crossover)]) u)

/-- A forced range outside a restore: its verdicts, and what follows them. -/
theorem State.forcesInto_of (ha : s.awaits (.quarantineForce tag (some q)) tag) (hok : rangeOk 64 q = true)
    {v : Part} (hv : (rangeSlices q).foldl Part.forceSlice s.part = v) (hb : v.store.batch = none) :
    s.forcesInto tag q (s.part.afterVerdicts v q) := by
  have hup := (Part.upkept_upkeepAll (v.grantsOn fun n => (rangeSlices q).contains n) v).frame
  have hbatch : (v.upkeepAll (v.grantsOn fun n => (rangeSlices q).contains n)).store.batch = none := by
    rw [hup]
    exact hb
  rw [State.forcesInto, exec_quarantineForce, State.serve_of_awaits _ _ ha]
  simp only [Part.quarantineForce, hok, Bool.not_true, Bool.false_eq_true, if_false, hv,
    Part.progressBatch_of_none hbatch]
  rfl

/-- A lifted range: its verdicts, what follows them, and the number of slices that they changed. -/
theorem State.quarantineLift_of_ok (ha : s.awaits (.quarantineLift tag (some q)) tag) (hok : rangeOk 64 q = true)
    {v : Part} (hv : (rangeSlices q).foldl Part.liftSlice s.part = v)
    (hmap : ∀ n ∈ rangeSlices q, (s.part.slice n).sound = true) :
    exec (.quarantineLift tag (some q)) s = .next (s.answers (.quarantineLift tag (some q)) tag 0x43
      (doneWith [byte ((rangeSlices q).countP fun n =>
        (s.part.slice n).use == .quarantined || (s.part.slice n).impaired)]) (s.part.afterVerdicts v q)) := by
  have hcount : ((rangeSlices q).countP fun n => (s.part.slice n).lift true != s.part.slice n) =
      (rangeSlices q).countP fun n => (s.part.slice n).use == .quarantined || (s.part.slice n).impaired :=
    List.countP_congr fun n hn => by rw [SliceEntry.lift_host_ne (hmap n hn)]
  rw [exec_quarantineLift, State.serve_of_awaits _ _ ha]
  simp only [Part.quarantineLift, hok, Bool.not_true, Bool.false_eq_true, if_false, hv, hcount]
  rfl

/-! ### A forced range that reaches the only job (R118) -/

variable {j : Job} {r : Grant} {t : TenantRecord} {d : Place} {n : Nat}

/-- QUARANTINE_FORCE outside a restore, with one job in the list: it waits or is in SETUP, for a grant of a tenant that
is not RETIRING, and a slice of the range lies in its destination. -/
structure State.ForcesJob (s : State) (tag : Byte) (q : RangeFields) (j : Job) (r : Grant) (t : TenantRecord)
    (d : Place) (n : Nat) : Prop where
  shaped : s.part.shaped
  batch : s.part.store.batch = none
  ok : rangeOk 64 q = true
  awaits : s.awaits (.quarantineForce tag (some q)) tag
  jobs : s.part.engine.jobs = [j]
  dest : j.dest = some d
  silent : ∀ x, j.run = some x → x.phase = .setup
  grant : s.part.grant j.grant = some r
  source : r.tenant < 16
  tenant : s.part.tenant r.tenant = some t
  standing : t.status ≠ .retiring
  inside : n ∈ rangeSlices q
  low : d.first ≤ n
  high : n < d.first + d.width
  use : (s.part.slice n).use ≠ .crossover

/-- An ACTIVATE is abandoned in the same way after any verdicts. -/
theorem State.ForcesJob.abandonOne_activate (h : s.ForcesJob tag q j r t d n) (hk : j.kind = .activate) {v : Part}
    {ms : List Nat} (hv : Part.Verdicts (SliceEntry.quarantine true) (fun _ => False) ms s.part v) :
    v.Abandoned j r.tenant none (fun _ => false) (v.abandonOne j .impaired) ∧
      (v.abandonOne j .impaired).tenant r.tenant = some { t with
        grants := t.grants.filter fun k => k != j.grant, lastFailure := some (j.grant, .impaired) } := by
  obtain ⟨-, -, hslices, -, -, -, hraised, -⟩ := h.shaped
  exact Part.abandonOne_of_activate (hv.slices.trans hslices) (by rw [hv.raised, hraised]; exact h.source)
    (by rw [hv.frame]; exact h.batch) (by rw [hv.frame]; exact h.grant) (by rw [hv.frame]; exact h.tenant) h.standing hk

/-- So is a MOVE, its grant ACTIVE again. -/
theorem State.ForcesJob.abandonOne_move (h : s.ForcesJob tag q j r t d n) (hk : j.kind = .move) {v : Part}
    {ms : List Nat} (hv : Part.Verdicts (SliceEntry.quarantine true) (fun _ => False) ms s.part v) :
    v.Abandoned j r.tenant (some { r with state := .active }) r.covers (v.abandonOne j .impaired) ∧
      (v.abandonOne j .impaired).tenants = v.tenants := by
  obtain ⟨-, -, hslices, -, -, -, hraised, -⟩ := h.shaped
  exact Part.abandonOne_of_move (hv.slices.trans hslices) (by rw [hv.raised, hraised]; exact h.source)
    (by rw [hv.frame]; exact h.batch) (by rw [hv.frame]; exact h.grant) (by rw [hv.frame]; exact h.tenant) hk

/-- The job is gone, its event stands, and the slices claimed for it are QUARANTINED and pinned. -/
theorem State.ForcesJob.forced {x : Option Grant} {keep : Nat → Bool} (h : s.ForcesJob tag q j r t d n)
    (hk : j.kind = .activate ∨ j.kind = .move)
    (habandon : ∀ v ms, Part.Verdicts (SliceEntry.quarantine true) (fun _ => False) ms s.part v →
      v.Abandoned j r.tenant x keep (v.abandonOne j .impaired)) :
    ∃ v ms u, Part.Verdicts (SliceEntry.quarantine true) (fun _ => False) ms s.part v ∧
      s.forcesInto tag q (s.part.afterVerdicts u q) ∧
      u.grants = s.part.grants.set j.grant x ∧ u.tenants = (v.abandonOne j .impaired).tenants ∧
      (s.part.afterVerdicts u q).engine.jobs = [] ∧
      (s.part.afterVerdicts u q).events.raised.getD r.tenant 0 &&& j.lostEvent.bit = j.lostEvent.bit ∧
      ∀ k ∈ rangeSlices q, (s.part.slice k).use = .claimed j.grant → keep k = false →
        (s.part.afterVerdicts u q).slice k = ⟨.quarantined, false, true⟩ := by
  obtain ⟨-, -, hslices, -, -, hquality, -⟩ := h.shaped
  have hin : s.part.bringsIn j n = true := by
    rcases hk with hk | hk <;> simp [Part.bringsIn, hk, h.dest, h.low, h.high]
  obtain ⟨v, ms, hv, hframe, hevents, hclaimed⟩ := Part.force_of_reached hslices hquality (nodup_rangeSlices q)
    (lt_of_mem_rangeSlices h.ok) h.jobs (Job.silent_iff.mpr h.silent) ⟨n, h.inside, h.use, hin⟩ habandon
  have hgone := habandon v ms hv
  generalize hfold : (rangeSlices q).foldl Part.forceSlice s.part = u at hframe hevents hclaimed
  have hup := s.part.upkept_afterVerdicts u q
  refine ⟨v, ms, u, hv, State.forcesInto_of h.awaits h.ok hfold ?_, ?_, by rw [hframe], ?_, hup.raised _ _ ?_,
    fun k hk huse hkeep => ?_⟩
  · rw [hframe, hgone.store, hv.frame]
    exact h.batch
  · rw [hframe, hgone.grants, hv.frame]
  · rw [hup.frame, hframe, hgone.jobs, hv.frame]
    simp [h.jobs]
  · rw [hevents]
    exact hgone.raised
  · rw [Part.slice_afterVerdicts]
    exact hclaimed k hk huse hkeep

/-- The grant of an abandoned ACTIVATE is free, and its tenant keeps why. -/
theorem State.ForcesJob.activate (h : s.ForcesJob tag q j r t d n) (hk : j.kind = .activate) :
    ∃ u, s.forcesInto tag q u ∧ u.grant j.grant = none ∧ u.engine.jobs = [] ∧
      u.tenant r.tenant = some { t with
        grants := t.grants.filter fun k => k != j.grant, lastFailure := some (j.grant, .impaired) } ∧
      u.events.raised.getD r.tenant 0 &&& 2 = 2 ∧
      ∀ k ∈ rangeSlices q, (s.part.slice k).use = .claimed j.grant → u.slice k = ⟨.quarantined, false, true⟩ := by
  obtain ⟨v, ms, u, hv, hexec, hfreed, htenants, hnone, hevent, hclaimed⟩ := h.forced (.inl hk) fun v ms hv => by
    obtain ⟨hgone, -⟩ := h.abandonOne_activate hk hv
    exact hgone
  obtain ⟨-, hfailed⟩ := h.abandonOne_activate hk hv
  refine ⟨_, hexec, Part.grant_afterVerdicts_of_free ?_, hnone, ?_, ?_, fun k hk huse => hclaimed k hk huse rfl⟩
  · rw [Part.grant_congr (p := s.part.setGrant j.grant none) hfreed, Part.grant_setGrant_self _ h.grant]
  · rw [(s.part.upkept_afterVerdicts u q).tenant, Part.tenant_congr htenants, hfailed]
  · rwa [Job.lostEvent, if_neg (by simp [hk])] at hevent

/-- The grant of an abandoned MOVE is ACTIVE at its origin. -/
theorem State.ForcesJob.move (h : s.ForcesJob tag q j r t d n) (hk : j.kind = .move) :
    ∃ u x, s.forcesInto tag q u ∧ u.grant j.grant = some x ∧ x.state = .active ∧ x.first = r.first ∧
      x.width = r.width ∧ u.engine.jobs = [] ∧
      (let bit : TenantEventSet := if j.relocation then 0x20 else 0x02; u.events.raised.getD r.tenant 0 &&& bit = bit) ∧
      ∀ k ∈ rangeSlices q, (s.part.slice k).use = .claimed j.grant → r.covers k = false →
        u.slice k = ⟨.quarantined, false, true⟩ := by
  obtain ⟨v, ms, u, hv, hexec, hactive, htenants, hnone, hevent, hclaimed⟩ := h.forced (.inr hk) fun v ms hv => by
    obtain ⟨hgone, -⟩ := h.abandonOne_move hk hv
    exact hgone
  obtain ⟨-, hkept⟩ := h.abandonOne_move hk hv
  have hstands : u.tenants = s.part.tenants := by rw [htenants, hkept, hv.frame]
  obtain ⟨x, hx, hstate, hfirst, hwidth⟩ := Part.grant_afterVerdicts_of_used (p := s.part) (v := u) (q := q)
    (g := j.grant) (r := { r with state := .active }) (t := t)
    (by rw [Part.grant_congr (p := s.part.setGrant j.grant _) hactive, Part.grant_setGrant_self _ h.grant])
    ((Part.tenant_congr hstands _).trans h.tenant)
  have hbit : j.lostEvent.bit = if j.relocation then 0x20 else 0x02 := by
    simp only [Job.lostEvent, hk, true_and]
    split <;> rfl
  rw [hbit] at hevent
  exact ⟨_, x, hexec, hx, hstate, hfirst, hwidth, hnone, hevent, hclaimed⟩

end

/-- Settles O44: the verdicts of a range slice by slice, the job that the forced range reaches, and the upkeep after
them. -/
theorem hostQuarantineForcesAndLifts : Obligations.HostQuarantineForcesAndLifts := by
  intro s tag q hs hb ok inside bare forces
  have hrange : rangeOk 64 q = true ↔ ok := rangeOk_iff
  have hmem : ∀ {n}, n ∈ rangeSlices q ↔ inside n := mem_rangeSlices
  obtain ⟨-, -, hslices, -, -, hquality, hraised, -⟩ := id hs
  refine ⟨fun hbad => ?_, fun hok ha hjobs => ?_,
    fun j r t d n hok ha hjobs hd hrun hr hlt ht hstands hin hlo hhi hcross => ?_, fun hok ha hmap => ?_⟩
  · have hbad : rangeOk 64 q = false := by simpa using mt hrange.mp hbad
    exact ⟨fun ha => State.serve_of_kept 0x42 (Part.quarantineForce q) ha (Part.quarantineForce_of_bad _ hbad),
      fun ha => State.serve_of_kept 0x43 (Part.quarantineLift q) ha (Part.quarantineLift_of_bad _ hbad)⟩
  · have hok := hrange.mpr hok
    have hv := Part.verdicts_force hslices hquality (nodup_rangeSlices q) (lt_of_mem_rangeSlices hok)
      fun n _ _ j hj => by simp [hjobs] at hj
    generalize hfold : (rangeSlices q).foldl Part.forceSlice s.part = v at hv
    refine ⟨_, State.forcesInto_of ha hok hfold (by rw [hv.frame]; exact hb), fun n => ?_, fun n hn hne => ?_,
      fun hbare => ?_, fun g r t n hg hr hlive hlt ht hin hn huse => ?_⟩
    · rw [Part.slice_afterVerdicts, hv.slice]
      by_cases hn : inside n
      · rw [if_pos (hmem.mpr hn), SliceEntry.quarantine_host]
        by_cases hcross : (s.part.slice n).use = .crossover <;> simp [hn, hcross]
      · rw [if_neg (mt hmem.mp hn), if_pos (.inl hn)]
    · rw [Part.qualityOf_afterVerdicts]
      exact hv.counts n (hmem.mpr hn) hne
    · rw [Part.afterVerdicts_of_bare (by rw [hv.frame]) (by rw [hv.frame]) hbare]
      exact ⟨by rw [hv.frame], fun hover => (hv.clear hover).2⟩
    · refine Part.grant_afterVerdicts_of_marked hg (by rw [hv.frame]; exact hr) (by rw [hv.frame]; exact ht) hlive
        (by rw [hv.raised, hraised]; exact hlt) hin hn ?_
      rw [hv.slice, if_pos (hmem.mpr hin), SliceEntry.quarantine_of_keepsState (by simp [SliceEntry.keepsState, huse])]
  · have hone : s.ForcesJob tag q j r t d n :=
      ⟨hs, hb, hrange.mpr hok, ha, hjobs, hd, hrun, hr, hlt, ht, hstands, hmem.mpr hin, hlo, hhi, hcross⟩
    refine ⟨fun hk => ?_, fun hk => ?_⟩
    · obtain ⟨u, hforces, hfree, hnone, hfailed, hevent, hclaimed⟩ := hone.activate hk
      exact ⟨u, hforces, hfree, hnone, hfailed, hevent, fun k hk => hclaimed k (hmem.mpr hk)⟩
    · obtain ⟨u, x, hforces, hx, hstate, hfirst, hwidth, hnone, hevent, hclaimed⟩ := hone.move hk
      exact ⟨u, x, hforces, hx, hstate, hfirst, hwidth, hnone, hevent,
        fun k hk hkeep huse => hclaimed k (hmem.mpr hk) huse hkeep⟩
  · have hlt := lt_of_mem_rangeSlices (hrange.mpr hok)
    have hv := Part.verdicts_lift hslices hquality (nodup_rangeSlices q) hlt
    have hevents := Part.events_lift (rangeSlices q) s.part
    have hsound : ∀ n ∈ rangeSlices q, (s.part.slice n).sound = true := fun n hn => (hmap n (hlt n hn)).1
    generalize hfold : (rangeSlices q).foldl Part.liftSlice s.part = v at hv hevents
    refine ⟨_, State.quarantineLift_of_ok ha (hrange.mpr hok) hfold hsound, fun n => ?_, fun n hn => ?_,
      fun hbare => ?_⟩
    · rw [Part.slice_afterVerdicts, hv.slice]
      by_cases hn : inside n
      · rw [if_pos (hmem.mpr hn), if_neg (not_not.mpr hn), SliceEntry.lift_host (hsound n (hmem.mpr hn))]
      · rw [if_neg (mt hmem.mp hn), if_pos hn]
    · rw [Part.qualityOf_afterVerdicts]
      exact hv.counts n (hmem.mpr hn) trivial
    · rw [Part.afterVerdicts_of_bare (by rw [hv.frame]) (by rw [hv.frame]) hbare]
      exact ⟨by rw [hv.frame], hevents⟩

end Sys2Proof.Machine
end

section
/-! The saving and the turning of lineups (8.2, 8.3): O45 and O46. -/

namespace Sys2Proof.Machine

/-! ### The present arrangement (R145) -/

/-- The entry of a grant: the record's fields, at the place that its cycle will give it. -/
theorem Part.lineupEntry_fields {p : Part} {g : Nat} {e : LineupEntry} (h : p.lineupEntry g = some e) :
    e.grant = g ∧ ∃ r, p.grant g = some r ∧ r.state ≠ .leaving ∧ e.tenant = r.tenant ∧
      e.generation = p.generation r.tenant ∧ e.cls = r.cls ∧ e.dir = r.dir ∧ e.floor = r.floor ∧ e.level = r.level ∧
      (r.state = .arriving ∨ r.state = .active → e.first = r.first ∧ e.width = r.width) ∧
      ∀ j d, r.state = .moving ∨ r.state = .resizing → p.jobOf g = some j → j.dest = some d →
        e.first = d.first ∧ e.width = d.width := by
  unfold Part.lineupEntry at h
  cases hr : p.grant g with
  | none => simp [hr] at h
  | some r =>
    by_cases hs : r.state = .leaving
    · simp [hr, hs] at h
    · simp only [hr, beq_iff_eq, hs, if_false, Option.some.injEq] at h
      subst h
      refine ⟨rfl, r, rfl, hs, rfl, rfl, rfl, rfl, rfl, rfl, fun hstate => ?_, fun j d hstate hj hd => ?_⟩
      · rcases hstate with hstate | hstate <;> simp [hstate]
      · rcases hstate with hstate | hstate <;> simp [hstate, hj, hd]

/-- Every grant in use that is not LEAVING has an entry. -/
theorem Part.isSome_lineupEntry {p : Part} {g : Nat} {r : Grant} (hr : p.grant g = some r) (hs : r.state ≠ .leaving) :
    (p.lineupEntry g).isSome := by
  simp [Part.lineupEntry, hr, hs]

theorem Part.mem_lineupEntries {p : Part} {e : LineupEntry} :
    e ∈ p.lineupEntries ↔ ∃ g < 96, p.lineupEntry g = some e := by
  simp [Part.lineupEntries]

/-- The entries stand in ascending grant id. -/
theorem Part.lineupEntries_sorted (p : Part) : (p.lineupEntries.map (·.grant)).Pairwise (· < ·) := by
  rw [List.pairwise_map, Part.lineupEntries, List.pairwise_filterMap]
  refine List.pairwise_lt_range.imp fun {g k} hlt e he f hf => ?_
  rw [(Part.lineupEntry_fields he).1, (Part.lineupEntry_fields hf).1]
  exact hlt

/-! ### LINEUP_PUSH (R146) -/

theorem Slot.exists_saved {x : Slot} (h : x ≠ .empty) : ∃ stale split es, x = .saved stale split es := by
  cases x with
  | empty => exact absurd rfl h
  | saved stale split es => exact ⟨stale, split, es, rfl⟩

/-- The slot above TOP is EMPTY: the arrangement is saved there. -/
theorem Part.lineupPush_of_empty {p : Part} (h : p.store.slot ((p.store.top + 3) % 4) = .empty) :
    Part.lineupPush () p = (p.saveInto ((p.store.top + 3) % 4),
      doneWith [byte ((p.store.top + 3) % 4), byte p.lineupEntries.length, 0]) := by
  simp only [Part.lineupPush, h]

/-- The slot above TOP is in use: it is overwritten under the mask, and the push is refused without it. -/
theorem Part.lineupPush_of_used {p : Part} (h : p.store.slot ((p.store.top + 3) % 4) ≠ .empty) :
    Part.lineupPush () p = if p.store.overflowMasked then (p.saveInto ((p.store.top + 3) % 4),
        doneWith [byte ((p.store.top + 3) % 4), byte p.lineupEntries.length, 0x10])
      else (p, ⟨.overflow, false, [0x10]⟩) := by
  obtain ⟨stale, split, es, hslot⟩ := Slot.exists_saved h
  simp only [Part.lineupPush, hslot]
  rfl

/-- Settles O45: the slot above TOP empty, in use under the mask, in use without it; and the entries one by one. -/
theorem lineupPushSaves : Obligations.LineupPushSaves := by
  refine ⟨fun s tag ha => ?_, fun p => ⟨fun e he => ?_, fun g r hg hr hs => ?_, p.lineupEntries_sorted⟩⟩
  · intro n saved count
    refine ⟨fun hempty => ?_, fun hused hmasked => ?_, fun hused hmasked => ?_⟩
    · exact State.serve_of_same 0x50 (Part.lineupPush ()) ha (Part.lineupPush_of_empty hempty) rfl rfl
    · exact State.serve_of_same 0x50 (Part.lineupPush ()) ha
        ((Part.lineupPush_of_used hused).trans (if_pos hmasked)) rfl rfl
    · exact State.serve_of_kept 0x50 (Part.lineupPush ()) ha
        ((Part.lineupPush_of_used hused).trans (if_neg (by simp [hmasked])))
  · obtain ⟨g, hg, he⟩ := Part.mem_lineupEntries.mp he
    obtain ⟨rfl, hfields⟩ := Part.lineupEntry_fields he
    exact ⟨hg, hfields⟩
  · obtain ⟨e, he⟩ := Option.isSome_iff_exists.mp (Part.isSome_lineupEntry hr hs)
    exact ⟨e, Part.mem_lineupEntries.mpr ⟨g, hg, he⟩, (Part.lineupEntry_fields he).1⟩

/-! ### LINEUP_ROTATE, LINEUP_DROP, and a pop of an EMPTY slot (R147) -/

theorem exec_lineupPop (tag : Byte) (s : State) : exec (.lineupPop tag (some ())) s =
    s.serve (.lineupPop tag (some ())) tag 0x51 (Part.lineupPop ()) := rfl

/-- To empty a slot that is EMPTY changes nothing. -/
theorem LineupStore.set_empty {u : LineupStore} {n : Nat} (h : u.slot n = .empty) : u.slots.set n .empty = u.slots := by
  refine List.ext_getElem? fun i => ?_
  rw [List.getElem?_set]
  by_cases hi : n = i
  · subst hi
    by_cases hn : n < u.slots.length
    · have hget : u.slots[n] = .empty := by simpa [LineupStore.slot, List.getD_eq_getElem?_getD, hn] using h
      simp [hn, hget]
    · simp [hn]
  · simp [hi]

/-- Settles O46: each request by its range of slots. -/
theorem lineupRotateAndDrop : Obligations.LineupRotateAndDrop := by
  intro s tag
  refine ⟨fun ha => ?_, fun top htop => by omega, fun n ha => ?_, fun ha hempty => ?_⟩
  · exact State.serve_of_same 0x52 (Part.lineupRotate ()) ha rfl rfl rfl
  · refine ⟨fun hn => ?_, fun hempty => ?_, fun hn => ?_⟩
    · exact State.serve_of_same 0x53 (Part.lineupDrop n) ha (if_neg (Nat.not_le.mpr hn)) rfl rfl
    · rw [LineupStore.set_empty hempty]
    · exact State.serve_of_kept 0x53 (Part.lineupDrop n) ha (if_pos hn)
  · exact State.serve_of_kept 0x51 (Part.lineupPop ()) ha (by simp only [Part.lineupPop, hempty])

end Sys2Proof.Machine
end

section
/-! The restore plan and the checks of a pop (8.4): O47. -/

namespace Sys2Proof.Machine

section Plan

variable {p : Part} {es : List LineupEntry}

/-! ### The entries of a plan (R150) -/

theorem Part.entryStands_iff {e : LineupEntry} : p.entryStands e = true ↔
    (∃ t, p.tenant e.tenant = some t ∧ t.status ≠ .retiring) ∧ p.generation e.tenant = e.generation := by
  simp [Part.entryStands, Option.any_eq_true]

theorem Part.listedGrant_eq_some {e : LineupEntry} {r : Grant} : p.listedGrant e = some r ↔
    p.grant e.grant = some r ∧ r.tenant = e.tenant ∧ r.dir = e.dir ∧ r.state ≠ .leaving := by
  simp [Part.listedGrant, Option.filter_eq_some_iff, and_assoc]

theorem Part.plan_items (p : Part) (es : List LineupEntry) :
    (p.plan es).items = (p.plan es).entries.filterMap p.planItem := rfl

theorem Part.plan_levels (p : Part) (es : List LineupEntry) :
    (p.plan es).levels = (p.plan es).entries.filter p.needsLevel := rfl

theorem Part.mem_plan_listed {e : LineupEntry} :
    e ∈ (p.plan es).listed ↔ e ∈ (p.plan es).entries ∧ ∃ r, p.listedGrant e = some r := by
  simp only [Part.plan, List.mem_filter, Option.isSome_iff_exists]

/-! ### Its items (R150) -/

/-- A listed live grant that stands elsewhere is moved. -/
theorem Part.planItem_eq_move {e f : LineupEntry} : p.planItem e = some (.move f) ↔
    e = f ∧ ∃ r, p.listedGrant e = some r ∧ ¬(r.first = e.first ∧ r.width = e.width) := by
  unfold Part.planItem
  cases hr : p.listedGrant e with
  | none => simp
  | some r =>
    by_cases hplace : r.first = e.first ∧ r.width = e.width
    · simp [hplace]
    · simpa [hplace] using fun _ => not_and.mp hplace

/-- An entry with no listed live grant is re-created. -/
theorem Part.planItem_eq_activate {e f : LineupEntry} :
    p.planItem e = some (.activate f) ↔ e = f ∧ p.listedGrant e = none := by
  unfold Part.planItem
  cases hr : p.listedGrant e <;> simp

theorem Part.entry_planItem {e : LineupEntry} {i : BatchItem} (h : p.planItem e = some i) : i.entry = e := by
  cases i with
  | move f => exact (Part.planItem_eq_move.mp h).1.symm
  | activate f => exact (Part.planItem_eq_activate.mp h).1.symm

theorem Part.move_mem_plan_items {e : LineupEntry} : .move e ∈ (p.plan es).items ↔ e ∈ (p.plan es).entries ∧
    ∃ r, p.listedGrant e = some r ∧ ¬(r.first = e.first ∧ r.width = e.width) := by
  simp only [Part.plan_items, List.mem_filterMap, Part.planItem_eq_move]
  exact ⟨fun ⟨_, he, rfl, h⟩ => ⟨he, h⟩, fun ⟨he, h⟩ => ⟨e, he, rfl, h⟩⟩

theorem Part.activate_mem_plan_items {e : LineupEntry} : .activate e ∈ (p.plan es).items ↔
    e ∈ (p.plan es).entries ∧ p.listedGrant e = none := by
  simp only [Part.plan_items, List.mem_filterMap, Part.planItem_eq_activate]
  exact ⟨fun ⟨_, he, rfl, h⟩ => ⟨he, h⟩, fun ⟨he, h⟩ => ⟨e, he, rfl, h⟩⟩

/-- The items stand in the order of the entries, no more than one for each. -/
theorem Part.plan_items_sublist (p : Part) (es : List LineupEntry) :
    ((p.plan es).items.map BatchItem.entry).Sublist (p.plan es).entries := by
  rw [Part.plan_items]
  generalize (p.plan es).entries = l
  induction l with
  | nil => exact .slnil
  | cons e l ih =>
    cases hi : p.planItem e with
    | none => simpa [hi] using ih.cons e
    | some i => simpa [hi, Part.entry_planItem hi] using ih

/-! ### Its level items and its releases (R150) -/

theorem Part.needsLevel_iff {e : LineupEntry} : p.needsLevel e = true ↔
    ∃ r, p.listedGrant e = some r ∧ r.first = e.first ∧ r.width = e.width ∧ r.level ≠ e.level := by
  simp [Part.needsLevel, Option.any_eq_true, and_assoc]

theorem Part.mem_plan_levels {e : LineupEntry} : e ∈ (p.plan es).levels ↔ e ∈ (p.plan es).entries ∧
    ∃ r, p.listedGrant e = some r ∧ r.first = e.first ∧ r.width = e.width ∧ r.level ≠ e.level := by
  rw [Part.plan_levels, List.mem_filter, Part.needsLevel_iff]

/-- What is released: the grants that no entry lists, of a tenant that the entries name or in the way of an item. -/
theorem Part.mem_plan_releases {g : Nat} : g ∈ (p.plan es).releases ↔ g < 96 ∧ ∃ r, p.grant g = some r ∧
    (∀ e x, e ∈ (p.plan es).entries → e.grant = g → p.listedGrant e ≠ some x) ∧
      ((∃ e ∈ (p.plan es).entries, e.tenant = r.tenant) ∨
        ∃ n i, n < 1024 ∧ i ∈ (p.plan es).items ∧ (p.slice n).heldBy g = true ∧ i.covers n = true) := by
  have hunlisted : (!((p.plan es).listed.any fun e => e.grant == g)) = true ↔
      ∀ e x, e ∈ (p.plan es).entries → e.grant = g → p.listedGrant e ≠ some x := by
    simp only [Bool.not_eq_true', List.any_eq_false, Part.mem_plan_listed, beq_iff_eq]
    exact ⟨fun h e x he hg hx => h e ⟨he, x, hx⟩ hg, fun h e ⟨he, x, hx⟩ hg => h e x he hg hx⟩
  have hreleases : g ∈ (p.plan es).releases ↔ g < 96 ∧ (!((p.plan es).listed.any fun e => e.grant == g)) = true ∧
      (p.grant g).any (fun r => ((p.plan es).entries.any fun e => e.tenant == r.tenant) ||
        (List.range 1024).any fun n => (p.slice n).heldBy g && (p.plan es).items.any fun i => i.covers n) = true := by
    rw [← Bool.and_eq_true, ← List.mem_range]
    exact List.mem_filter
  rw [hreleases, hunlisted]
  simp only [Option.any_eq_true, Bool.or_eq_true, List.any_eq_true, Bool.and_eq_true, List.mem_range, beq_iff_eq]
  constructor
  · rintro ⟨hg, hlist, r, hr, hwhy⟩
    exact ⟨hg, r, hr, hlist, hwhy.imp_right fun ⟨n, hn, hheld, i, hi, hcovers⟩ => ⟨n, i, hn, hi, hheld, hcovers⟩⟩
  · rintro ⟨hg, r, hr, hlist, hwhy⟩
    exact ⟨hg, hlist, r, hr, hwhy.imp_right fun ⟨n, i, hn, hi, hheld, hcovers⟩ => ⟨n, hn, hheld, i, hi, hcovers⟩⟩

theorem Part.plan_releases_sorted (p : Part) (es : List LineupEntry) : (p.plan es).releases.Pairwise (· < ·) :=
  List.pairwise_lt_range.filter _

/-! ### The tests of a plan (R149 to R151) -/

/-- Check 4: a listed live grant is in a cycle. -/
theorem Part.planBusy_iff : p.planBusy (p.plan es) = true ↔
    ∃ e r, e ∈ (p.plan es).entries ∧ p.listedGrant e = some r ∧ r.state ≠ .active := by
  simp only [Part.planBusy, List.any_eq_true, Option.any_eq_true, Part.mem_plan_listed, bne_iff_ne]
  exact ⟨fun ⟨e, ⟨he, _⟩, r, hr, hs⟩ => ⟨e, r, he, hr, hs⟩, fun ⟨e, r, he, hr, hs⟩ => ⟨e, ⟨he, r, hr⟩, r, hr, hs⟩⟩

/-- Check 5 at one slice for one item. -/
theorem Part.itemFailsAt_iff {n : Nat} {i : BatchItem} : p.itemFailsAt (p.plan es) n i = true ↔ i.covers n = true ∧
    ((p.slice n).use = .reserved ∨ (p.slice n).use = .quarantined ∨ (p.slice n).use = .crossover ∨
      (∃ h r, h ∈ (p.plan es).entries ∧ p.listedGrant h = some r ∧ h.grant ≠ i.entry.grant ∧
        (p.slice n).heldBy h.grant = true ∧ windowCovers h.cls h.first h.width n = false) ∨
      ((p.slice n).impaired = true ∧ ∃ g ∈ (p.plan es).releases, (p.slice n).heldBy g = true) ∨
      ∃ e r, i = .move e ∧ e.cls ≠ .data ∧ p.grant e.grant = some r ∧ r.covers n = true) := by
  have hlisted : ((p.plan es).listed.any fun h => (p.slice n).heldBy h.grant && h.grant != i.entry.grant &&
      !windowCovers h.cls h.first h.width n) = true ↔
      ∃ h r, h ∈ (p.plan es).entries ∧ p.listedGrant h = some r ∧ h.grant ≠ i.entry.grant ∧
        (p.slice n).heldBy h.grant = true ∧ windowCovers h.cls h.first h.width n = false := by
    simp only [List.any_eq_true, Part.mem_plan_listed, Bool.and_eq_true, bne_iff_ne, Bool.not_eq_true']
    exact ⟨fun ⟨h, ⟨hh, r, hr⟩, ⟨hheld, hne⟩, hout⟩ => ⟨h, r, hh, hr, hne, hheld, hout⟩,
      fun ⟨h, r, hh, hr, hne, hheld, hout⟩ => ⟨h, ⟨hh, r, hr⟩, ⟨hheld, hne⟩, hout⟩⟩
  rw [← hlisted]
  cases i with
  | move m => simp [Part.itemFailsAt, Option.any_eq_true, or_assoc]
  | activate m => simp [Part.itemFailsAt, or_assoc]

/-- Check 5 finds the lowest slice that fails for some item. -/
theorem Part.planConflict_eq_some {plan : Plan} {n : Nat} : p.planConflict plan = some n ↔
    (n < 1024 ∧ ∃ i ∈ plan.items, p.itemFailsAt plan n i = true) ∧
      ∀ k < n, ¬∃ i ∈ plan.items, p.itemFailsAt plan k i = true := by
  rw [Part.planConflict, List.find?_range_eq_some, and_left_comm, and_assoc]
  simp

theorem Part.planConflict_eq_none {plan : Plan} : p.planConflict plan = none ↔
    ∀ n < 1024, ¬∃ i ∈ plan.items, p.itemFailsAt plan n i = true := by
  simp [Part.planConflict]

theorem Part.entryWeight_eq (p : Part) (e : LineupEntry) : p.entryWeight e =
    if e.dir = .ret then 0 else e.width * weight (e.level.getD 0 + p.offset (e.first + e.width / 2)) := by
  unfold Part.entryWeight
  cases e.dir <;> rfl

/-- The composite of the power test: what leaves and what enters, summed. -/
theorem Part.planComposite_eq (p : Part) (plan : Plan) : p.planComposite plan = p.composite -
    ((plan.releases.map p.contribution).sum + ((plan.levels ++ plan.moves).map fun e => p.contribution e.grant).sum) +
      ((plan.levels ++ plan.items.map BatchItem.entry).map p.entryWeight).sum := by
  rw [← Nat.sub_sub, List.map_append (f := p.entryWeight), List.sum_append, List.map_map, ← Nat.add_assoc]
  rfl

theorem Part.planAddsPower_iff {plan : Plan} : p.planAddsPower plan = true ↔
    (∃ i ∈ plan.items, i.entry.dir = .forward) ∨
      ∃ e r, e ∈ plan.levels ∧ p.grant e.grant = some r ∧ r.level.getD 0 < e.level.getD 0 := by
  simp [Part.planAddsPower, List.any_eq_true, Option.any_eq_true]

/-- The power test, under OVER_CAP and without it. -/
theorem Part.planPowerOk_iff {plan : Plan} : p.planPowerOk plan = true ↔
    (p.level.overCap = true → ¬p.planAddsPower plan = true) ∧
      (p.level.overCap = false → p.planComposite plan ≤ p.level.cap) := by
  unfold Part.planPowerOk
  cases p.level.overCap <;> simp

theorem Part.planRecordsOk_iff {plan : Plan} : p.planRecordsOk plan = true ↔
    plan.activations.length ≤ 96 - p.grants.countP (·.isSome) + plan.releases.length ∧
      ∀ t r, t < 16 → p.tenant t = some r → (r.grants.filter fun g => !plan.releases.contains g).length +
        (plan.activations.filter fun e => e.tenant == t).length ≤ classLimit r.cls := by
  rw [Part.planRecordsOk, Bool.and_eq_true, decide_eq_true_eq, List.all_eq_true]
  refine and_congr_right fun _ => forall_congr' fun t => ?_
  rw [List.mem_range]
  cases ht : p.tenant t with
  | none => simp
  | some r => simp

/-! ### LINEUP_POP check by check (R149) -/

/-- The slot under TOP holds these entries, saved under the present split, and no batch runs. -/
structure Part.Pops (p : Part) (stale : Bool) (es : List LineupEntry) : Prop where
  slot : p.store.slot p.store.top = .saved stale p.split es
  batch : p.store.batch = none

/-- A pop whose plan passes every check. -/
structure Part.Restores (p : Part) (stale : Bool) (es : List LineupEntry) : Prop extends Part.Pops p stale es where
  idle : p.planBusy (p.plan es) = false
  clear : p.planConflict (p.plan es) = none
  power : p.planPowerOk (p.plan es) = true
  records : p.planRecordsOk (p.plan es) = true

variable {stale : Bool} {split : Nat}

theorem Part.lineupPop_of_batch (hslot : p.store.slot p.store.top = .saved stale split es)
    (h : p.store.batch.isSome) : Part.lineupPop () p = (p, refuse .busy) := by
  simp only [Part.lineupPop, hslot, h, if_true]

theorem Part.lineupPop_of_split (hslot : p.store.slot p.store.top = .saved stale split es)
    (hb : p.store.batch = none) (h : split ≠ p.split) :
    Part.lineupPop () p = (p, ⟨.conflict, false, [byte split]⟩) := by
  simp only [Part.lineupPop, hslot, hb, Option.isSome_none, Bool.false_eq_true, if_false, bne_iff_ne, ne_eq, h,
    not_false_eq_true, if_true]

theorem Part.Pops.busy (h : p.Pops stale es) (hbusy : p.planBusy (p.plan es) = true) :
    Part.lineupPop () p = (p, refuse .busy) := by
  simp [Part.lineupPop, h.slot, h.batch, hbusy]

theorem Part.Pops.conflict (h : p.Pops stale es) (hidle : p.planBusy (p.plan es) = false) {n : Nat}
    (hn : p.planConflict (p.plan es) = some n) : Part.lineupPop () p = (p, ⟨.conflict, false, be2 n⟩) := by
  simp [Part.lineupPop, h.slot, h.batch, hidle, hn]

theorem Part.Pops.power (h : p.Pops stale es) (hidle : p.planBusy (p.plan es) = false)
    (hclear : p.planConflict (p.plan es) = none) (hpower : p.planPowerOk (p.plan es) = false) :
    Part.lineupPop () p = (p, refuse .power) := by
  simp [Part.lineupPop, h.slot, h.batch, hidle, hclear, hpower]

theorem Part.Pops.records (h : p.Pops stale es) (hidle : p.planBusy (p.plan es) = false)
    (hclear : p.planConflict (p.plan es) = none) (hpower : p.planPowerOk (p.plan es) = true)
    (hrecords : p.planRecordsOk (p.plan es) = false) : Part.lineupPop () p = (p, refuse .noRecord) := by
  simp [Part.lineupPop, h.slot, h.batch, hidle, hclear, hpower, hrecords]

theorem Part.Restores.lineupPop (h : p.Restores stale es) : Part.lineupPop () p =
    (p.startBatch (p.plan es), ⟨.accepted, false, (p.plan es).payload p.store.top⟩) := by
  simp [Part.lineupPop, h.slot, h.batch, h.idle, h.clear, h.power, h.records]

end Plan

/-- Settles O47: the checks of R149 in their order, each by what it asks of the plan; and the lists of the plan. -/
theorem lineupPopChecksItsPlan : Obligations.LineupPopChecksItsPlan := by
  unfold Obligations.LineupPopChecksItsPlan
  intro covers live
  have hlive : ∀ p e r, live p e r ↔ p.listedGrant e = some r := fun p e r => Part.listedGrant_eq_some.symm
  refine ⟨fun s tag stale split es ha hslot => ?_, fun p es => ?_⟩
  · intro p plan refused busy fails weighs left entered adds power records
    have hbusy : busy ↔ p.planBusy plan = true := by
      simp only [busy, hlive]
      exact Part.planBusy_iff.symm
    have hfails : ∀ n, fails n ↔ n < 1024 ∧ ∃ i ∈ plan.items, p.itemFailsAt plan n i = true := fun n => by
      simp only [fails, hlive, plan, Part.itemFailsAt_iff]
      rfl
    have hpower : power ↔ p.planPowerOk plan = true := by
      have hweighs : p.entryWeight = weighs := funext p.entryWeight_eq
      rw [Part.planPowerOk_iff, Part.planAddsPower_iff, Part.planComposite_eq, hweighs]
    have hrecords : records ↔ p.planRecordsOk plan = true := Part.planRecordsOk_iff.symm
    have refuses : ∀ {r}, Part.lineupPop () p = (p, r) → refused r := State.serve_of_kept 0x51 (Part.lineupPop ()) ha
    clear_value busy fails power records
    refine ⟨fun hb => refuses (Part.lineupPop_of_batch hslot hb),
      fun hb => ⟨fun hsplit => refuses (Part.lineupPop_of_split hslot hb hsplit), fun hsplit => ?_⟩⟩
    subst hsplit
    have hpops : p.Pops stale es := ⟨hslot, hb⟩
    refine ⟨fun h => refuses (hpops.busy (hbusy.mp h)), fun h => ?_⟩
    have hidle : p.planBusy plan = false := by simpa [hbusy] using h
    refine ⟨fun n hn hlower => refuses (hpops.conflict hidle (Part.planConflict_eq_some.mpr ⟨(hfails n).mp hn,
      fun k hk hfail => hlower k hk ((hfails k).mpr ⟨hk.trans ((hfails n).mp hn).1, hfail⟩)⟩)), fun hnone => ?_⟩
    have hclear : p.planConflict plan = none :=
      Part.planConflict_eq_none.mpr fun n hn hfail => hnone n ((hfails n).mpr ⟨hn, hfail⟩)
    refine ⟨fun h => refuses (hpops.power hidle hclear (by simpa [hpower] using h)),
      fun hok h => refuses (hpops.records hidle hclear (hpower.mp hok) (by simpa [hrecords] using h)),
      fun hok hfree => ?_⟩
    have hrestores : p.Restores stale es := ⟨hpops, hidle, hclear, hpower.mp hok, hrecords.mp hfree⟩
    exact ⟨_, by rw [exec_lineupPop, State.serve_of_awaits _ _ ha, hrestores.lineupPop]; rfl⟩
  · intro plan
    simp only [hlive]
    exact ⟨fun e => Part.entryStands_iff, rfl, rfl, fun e => Part.move_mem_plan_items,
      fun e => Part.activate_mem_plan_items.trans (and_congr_right' Option.eq_none_iff_forall_ne_some),
      p.plan_items_sublist es, fun e => Part.mem_plan_levels, List.filter_sublist,
      fun g => Part.mem_plan_releases, p.plan_releases_sorted es⟩

end Sys2Proof.Machine
end

section
/-! SUPPORT. How a restore batch goes on (8.5): when phase A and phase B end, what the end of a batch leaves, and what a
level item does. -/

namespace Sys2Proof.Machine

variable {p q r : Part} {b : Batch}

/-! ### The ends of the phases (R153, R155) -/

theorem Part.hasBatchJob_iff {m : BatchMark} : p.hasBatchJob m = true ↔ ∃ j ∈ p.engine.jobs, j.batch = some m := by
  simp [Part.hasBatchJob, List.any_eq_true]

theorem Part.hasBatchJob_eq_false {m : BatchMark} :
    p.hasBatchJob m = false ↔ ∀ j ∈ p.engine.jobs, j.batch ≠ some m := by
  simp [Part.hasBatchJob]

theorem Part.mapBatch_of_batch (hb : p.store.batch = some b) (f : Batch → Batch) :
    p.mapBatch f = { p with store := { p.store with batch := some (f b) } } := by
  rw [Part.mapBatch, hb]
  rfl

theorem Part.endBatch_of_batch (hb : p.store.batch = some b) (byReset : Bool) : p.endBatch byReset = ({ p with
    store := { p.store with batch := none, last := some ⟨b.counts, byReset⟩ }
    alloc := { p.alloc with restoreHold := false } } : Part).raisePlant .lineupDone := by
  simp only [Part.endBatch, hb]

theorem Part.endBatch_frame (p : Part) (byReset : Bool) : p.endBatch byReset = { p with
    store := (p.endBatch byReset).store
    alloc := (p.endBatch byReset).alloc
    events := (p.endBatch byReset).events } := by
  unfold Part.endBatch
  split <;> rfl

theorem Part.settlePhaseB_of_batch (hb : p.store.batch = some b) : p.settlePhaseB =
    if b.phase = .b ∧ b.items = [] ∧ p.hasBatchJob .b = false then p.endBatch false else p := by
  simp [Part.settlePhaseB, hb, and_assoc]

/-- A batch in phase A goes on while a grant or a job of the phase remains. -/
theorem Part.progressBatch_of_phaseA (hb : p.store.batch = some b) (hphase : b.phase = .a)
    (h : b.releases ≠ [] ∨ p.hasBatchJob .a = true) : p.progressBatch = p := by
  have hgoes : (b.phase == .a && b.releases.isEmpty && !p.hasBatchJob .a) = false := by
    rcases h with h | h <;> simp [h]
  simp only [Part.progressBatch, hb, hgoes, Bool.false_eq_true, if_false]
  rw [Part.settlePhaseB_of_batch hb, if_neg (by simp [hphase])]

/-- Phase B begins in the act in which phase A ends. -/
theorem Part.progressBatch_of_released (hb : p.store.batch = some b) (hphase : b.phase = .a) (hr : b.releases = [])
    (hj : p.hasBatchJob .a = false) : p.progressBatch = (p.beginPhaseB b.levels).settlePhaseB := by
  simp [Part.progressBatch, hb, hphase, hr, hj]

/-- A batch in phase B ends when no item and no job of the phase remains. -/
theorem Part.progressBatch_of_phaseB (hb : p.store.batch = some b) (hphase : b.phase = .b) : p.progressBatch =
    if b.items = [] ∧ p.hasBatchJob .b = false then p.endBatch false else p := by
  have hnot : (b.phase == .a && b.releases.isEmpty && !p.hasBatchJob .a) = false := by simp [hphase]
  simp only [Part.progressBatch, hb, hnot, Bool.false_eq_true, if_false]
  rw [Part.settlePhaseB_of_batch hb]
  simp only [hphase, true_and]

/-! ### Level items (R150, R154) -/

theorem Part.activeFor_eq_some {e : LineupEntry} {x : Grant} : p.activeFor e = some x ↔ p.grant e.grant = some x ∧
    x.state = .active ∧ x.tenant = e.tenant ∧ x.dir = e.dir ∧ p.entryStands e = true := by
  simp [Part.activeFor, Option.filter_eq_some_iff, and_assoc]

/-- The test of the cap reads nothing of the Lineup Store. -/
theorem Part.capTest_withStore (p : Part) (u : LineupStore) :
    ({ p with store := u } : Part).capTest = { p.capTest with store := u } := by
  have hc : ({ p with store := u } : Part).composite = p.composite := Part.composite_congr rfl rfl rfl rfl
  unfold Part.capTest
  rw [hc]
  dsimp only
  split <;> rfl

/-- The record that a level item leaves. -/
def Grant.relevelled (x : Grant) (e : LineupEntry) : Grant :=
  { x with level := some (e.level.getD 0), floor := if x.cls = .data then e.floor else x.floor }

/-- A level item that lowers, or that fits, is applied; one that does neither is not. -/
theorem Part.applyLevel_eq {e : LineupEntry} {x : Grant} (h : p.activeFor e = some x) : p.applyLevel e =
    if e.level.getD 0 ≤ x.level.getD 0 ∨ p.fits (p.composite - p.contribution e.grant + p.entryWeight e) = true
    then (p.setGrant e.grant (some (x.relevelled e))).capTest.countDone else p.countFailed := by
  simp only [Part.applyLevel, h]
  by_cases hv : e.level.getD 0 ≤ x.level.getD 0
  · simp [hv, Grant.relevelled]
  · by_cases hf : p.fits (p.composite - p.contribution e.grant + p.entryWeight e) = true
    · simp [hf, Grant.relevelled]
    · simp [hf, hv]

/-- Between `p` and `q` level items have been applied: grants have other levels and floor widths, the cap has been
tested, and of the batch only the counts have changed. -/
structure Part.Relevelled (p q : Part) : Prop where
  frame : q = { p with
    grants := q.grants, level := q.level, events := q.events, store := { p.store with batch := q.store.batch } }
  batch : ∀ b, p.store.batch = some b → ∃ c, q.store.batch = some { b with counts := c }
  delivered : ∀ k, q.delivered k = p.delivered k

theorem Part.Relevelled.refl (p : Part) : Part.Relevelled p p := ⟨rfl, fun b hb => ⟨b.counts, hb⟩, fun _ => rfl⟩

theorem Part.Relevelled.trans (h : Part.Relevelled p q) (k : Part.Relevelled q r) : Part.Relevelled p r where
  frame := by rw [k.frame, h.frame]
  batch b hb := by
    obtain ⟨c, hc⟩ := h.batch b hb
    obtain ⟨d, hd⟩ := k.batch _ hc
    exact ⟨d, hd⟩
  delivered i := (k.delivered i).trans (h.delivered i)

theorem Part.relevelled_countDone (p : Part) : Part.Relevelled p p.countDone where
  frame := rfl
  batch b hb := ⟨{ b.counts with done := b.counts.done + 1 }, by simp [Part.countDone, hb]⟩
  delivered _ := Part.delivered_congr rfl _

theorem Part.relevelled_countFailed (p : Part) : Part.Relevelled p p.countFailed where
  frame := rfl
  batch b hb := ⟨{ b.counts with failed := b.counts.failed + 1 }, by simp [Part.countFailed, hb]⟩
  delivered _ := Part.delivered_congr rfl _

theorem Part.relevelled_capTest (p : Part) : Part.Relevelled p p.capTest := by
  obtain ⟨l, e, h, -⟩ := p.capTest_frame
  rw [h]
  exact ⟨rfl, fun b hb => ⟨b.counts, hb⟩, fun _ => Part.delivered_congr rfl _⟩

theorem Part.relevelled_applyLevel (p : Part) (e : LineupEntry) : Part.Relevelled p (p.applyLevel e) := by
  cases hx : p.activeFor e with
  | none =>
    have hfailed : p.applyLevel e = p.countFailed := by simp only [Part.applyLevel, hx]
    rw [hfailed]
    exact p.relevelled_countFailed
  | some x =>
    obtain ⟨hgrant, -⟩ := Part.activeFor_eq_some.mp hx
    have hset : Part.Relevelled p (p.setGrant e.grant (some (x.relevelled e))) :=
      ⟨rfl, fun b hb => ⟨b.counts, hb⟩, Part.delivered_of_set rfl fun k => by rw [hgrant]; rfl⟩
    rw [Part.applyLevel_eq hx]
    split
    · exact (hset.trans (Part.relevelled_capTest _)).trans (Part.relevelled_countDone _)
    · exact p.relevelled_countFailed

theorem Part.relevelled_foldl (es : List LineupEntry) (p : Part) : Part.Relevelled p (es.foldl Part.applyLevel p) := by
  induction es generalizing p with
  | nil => exact .refl p
  | cons e es ih => exact (p.relevelled_applyLevel e).trans (ih _)

/-- An act that leaves the tenants, and what each is delivered, raises no UNDER_COMMIT. -/
theorem Part.commitTest_of_same_delivered (ht : q.tenants = p.tenants) (hd : ∀ k, q.delivered k = p.delivered k) :
    p.commitTest q = q :=
  Part.commitTest_of_no_turn p q fun k _ => Part.no_turn_of_same (Part.tenant_congr ht k) (hd k).ge

/-! ### Phase-A releases of ACTIVE grants (R52, R153) -/

/-- The part with an ACTIVE grant of the phase-A list released: its RELEASE job carries mark A, and it has left the
list. -/
def Part.releasingListed (p : Part) (b : Batch) (g : Nat) (x : Grant) : Part :=
  { p with
    store := { p.store with batch := some { b with releases := b.releases.filter (· != g) } }
    grants := p.grants.set g (some x.released)
    engine := p.engine.withJob { p.newJob g .release none with batch := some .a } }

variable {g : Nat} {x : Grant}

theorem Part.releaseActive_of_listed (hb : p.store.batch = some b) (hg : g ∈ b.releases) (hx : p.grant g = some x) :
    p.releaseActive g = p.releasingListed b g x := by
  have hlisted : (p.store.batch.any fun b => b.releases.contains g) = true := by simp [hb, hg]
  have hx' : (p.mapBatch fun b => { b with releases := b.releases.filter (· != g) }).grant g = some x := hx
  simp only [Part.releaseActive, hlisted, if_true, Part.enterLeaving, hx']
  rw [Part.mapBatch_of_batch hb]
  rfl

/-- With an entry free an ACTIVE grant of the list is released, and with none it stays. -/
theorem Part.releasePhaseA_of_active (hb : p.store.batch = some b) (hg : g ∈ b.releases) (hx : p.grant g = some x)
    (hs : x.state = .active) :
    p.releasePhaseA g = if p.engine.jobs.length < 24 then p.releasingListed b g x else p := by
  simp only [Part.releasePhaseA, hx, hs, Part.hasJobEntry, decide_eq_true_eq, Part.releaseActive_of_listed hb hg hx]

theorem Part.releaseListed_of_batch (hb : p.store.batch = some b) (g : Nat) :
    p.releaseListed g = if g ∈ b.releases then p.releasePhaseA g else p := by
  simp [Part.releaseListed, hb]

end Sys2Proof.Machine
end

section
/-! A pop that starts its batch (8.4, 8.5): O48. -/

namespace Sys2Proof.Machine

/-! ### The releases of a pop, in list order (R153) -/

/-- Grants that a pass takes leave the part where none of them stands in the phase-A list. -/
theorem Part.foldl_releaseListed_of_unlisted {p : Part} {b : Batch} (hb : p.store.batch = some b) {gs : List Nat}
    (h : ∀ g ∈ gs, g ∉ b.releases) : gs.foldl Part.releaseListed p = p := by
  induction gs with
  | nil => rfl
  | cons g gs ih =>
    rw [List.foldl_cons, Part.releaseListed_of_batch hb, if_neg (h g (by simp))]
    exact ih fun k hk => h k (by simp [hk])

/-- With the job list full no ACTIVE grant of the list is released. -/
theorem Part.releaseListed_of_full {p : Part} {b : Batch} (hb : p.store.batch = some b)
    (hfull : ¬p.engine.jobs.length < 24)
    (hactive : ∀ g ∈ b.releases, ∃ x, p.grant g = some x ∧ x.state = .active) (g : Nat) : p.releaseListed g = p := by
  rw [Part.releaseListed_of_batch hb]
  split
  · next hg =>
    obtain ⟨x, hx, hs⟩ := hactive g hg
    rw [Part.releasePhaseA_of_active hb hg hx hs, if_neg hfull]
  · rfl

theorem Part.releaseInOrder_of_fixed {p : Part} (h : ∀ g, p.releaseListed g = p) (gs taken : List Nat) :
    Part.releaseInOrder taken gs p = p := by
  have hfold : ∀ ks : List Nat, ks.foldl Part.releaseListed p = p := fun ks => by
    induction ks with
    | nil => rfl
    | cons k ks ih => rw [List.foldl_cons, h, ih]
  induction gs generalizing taken with
  | nil => rfl
  | cons g gs ih => rw [Part.releaseInOrder, h, hfold, ih]

/-- What the statements say of a job: all but its id and the kind that it was queued as. -/
def Job.summary (k : Job) : Nat × JobKind × Option Place × Option Nat × Option BatchMark × Option Run :=
  (k.grant, k.kind, k.dest, k.after, k.batch, k.run)

/-- Between `p`, whose batch is `b`, and `u` the ACTIVE grants `gs` have taken RELEASE jobs with mark A, and `rest` are
left in the phase-A list. -/
structure Part.ReleasesListed (b : Batch) (gs rest : List Nat) (p u : Part) : Prop where
  frame : u = { p with
    grants := u.grants, engine := u.engine, store := { p.store with batch := some { b with releases := rest } } }
  jobs : ∃ new, u.engine.jobs = p.engine.jobs ++ new ∧
    new.map Job.summary = gs.map fun g => (g, .release, none, none, some .a, none)
  released : ∀ g x, g ∈ gs → p.grant g = some x → u.grant g = some x.released
  others : ∀ g, g ∉ gs → u.grant g = p.grant g

theorem Part.ReleasesListed.refl {p : Part} {b : Batch} (hb : p.store.batch = some b) :
    Part.ReleasesListed b [] b.releases p p where
  frame := by rw [← hb]
  jobs := ⟨[], by simp, rfl⟩
  released _ _ h := by simp at h
  others _ _ := rfl

/-- One more release before the others. -/
theorem Part.ReleasesListed.cons {p u : Part} {b : Batch} {g : Nat} {gs rest listed : List Nat} {x : Grant}
    (hx : p.grant g = some x) (hg : g ∉ gs) (hlisted : b.releases.filter (· != g) = listed)
    (h : Part.ReleasesListed { b with releases := listed } gs rest (p.releasingListed b g x) u) :
    Part.ReleasesListed b (g :: gs) rest p u where
  frame := by rw [h.frame]; rfl
  jobs := by
    obtain ⟨new, hjobs, hnew⟩ := h.jobs
    refine ⟨{ p.newJob g .release none with batch := some .a } :: new, ?_, ?_⟩
    · rw [hjobs]
      simp [Part.releasingListed, Engine.withJob]
    · rw [List.map_cons, List.map_cons, hnew]
      rfl
  released k y hk hy := by
    by_cases e : k = g
    · subst e
      cases hx.symm.trans hy
      exact (h.others k hg).trans (Part.grant_setGrant_self _ hx)
    · exact h.released k y ((List.mem_cons.mp hk).resolve_left e) ((p.grant_setGrant_ne _ _ _ e).trans hy)
  others k hk := by
    obtain ⟨hne, hk⟩ := not_or.mp (mt List.mem_cons.mpr hk)
    exact (h.others k hk).trans (p.grant_setGrant_ne _ _ _ hne)

/-- The ACTIVE grants of the phase-A list take the free entries in list order. -/
theorem Part.releaseInOrder_of_active {gs taken : List Nat} {p : Part} {b : Batch} (hb : p.store.batch = some b)
    (hgs : b.releases = gs) (hnodup : gs.Nodup) (htaken : ∀ g ∈ taken, g ∉ gs)
    (hactive : ∀ g ∈ gs, ∃ x, p.grant g = some x ∧ x.state = .active) :
    Part.ReleasesListed b (gs.take (24 - p.engine.jobs.length)) (gs.drop (24 - p.engine.jobs.length)) p
      (Part.releaseInOrder taken gs p) := by
  induction gs generalizing taken p b with
  | nil =>
    have hrefl := Part.ReleasesListed.refl hb
    rw [hgs] at hrefl
    simpa [Part.releaseInOrder] using hrefl
  | cons g gs ih =>
    obtain ⟨hg, hnodup⟩ := List.nodup_cons.mp hnodup
    by_cases hfree : p.engine.jobs.length < 24
    · obtain ⟨x, hx, hs⟩ := hactive g (by simp)
      have hmem : g ∈ b.releases := by simp [hgs]
      have hlisted : b.releases.filter (· != g) = gs := by
        rw [hgs, List.filter_cons_of_neg (by simp), List.filter_eq_self.mpr]
        exact fun k hk => by simpa using fun e : k = g => hg (e ▸ hk)
      have hstep : p.releaseListed g = p.releasingListed b g x := by
        rw [Part.releaseListed_of_batch hb, if_pos hmem, Part.releasePhaseA_of_active hb hmem hx hs, if_pos hfree]
      have hb' : (p.releasingListed b g x).store.batch = some { b with releases := gs } := by
        simp only [Part.releasingListed, hlisted]
      have hlen : 24 - p.engine.jobs.length = 24 - (p.releasingListed b g x).engine.jobs.length + 1 := by
        simp only [Part.releasingListed, Engine.withJob, List.length_append, List.length_singleton]
        omega
      rw [Part.releaseInOrder, hstep,
        Part.foldl_releaseListed_of_unlisted hb' fun k hk hgk => htaken k hk (List.mem_cons_of_mem g hgk), hlen,
        List.take_succ_cons, List.drop_succ_cons]
      refine .cons hx (fun h => hg (List.mem_of_mem_take h)) hlisted
        (ih hb' rfl hnodup (fun k hk hgk => ?_) fun k hk => ?_)
      · rcases List.mem_append.mp hk with h | h
        · exact htaken k h (List.mem_cons_of_mem g hgk)
        · exact hg (List.mem_singleton.mp h ▸ hgk)
      · have hne : k ≠ g := fun e => hg (e ▸ hk)
        obtain ⟨y, hy, hys⟩ := hactive k (List.mem_cons_of_mem g hk)
        exact ⟨y, (p.grant_setGrant_ne _ _ _ hne).trans hy, hys⟩
    · rw [Part.releaseInOrder_of_fixed (Part.releaseListed_of_full hb hfree (by rwa [hgs])),
        Nat.sub_eq_zero_of_le (Nat.not_lt.mp hfree), List.take_zero, List.drop_zero, ← hgs]
      exact .refl hb

/-! ### The start of the batch (R152) -/

/-- The part as the batch of a plan is set up, in phase A. -/
def Part.started (p : Part) (plan : Plan) : Part :=
  { p with
    store := { p.store with
      slots := p.store.slots.set p.store.top .empty
      top := (p.store.top + 1) % 4
      batch := some ⟨.a, plan.releases, plan.levels, plan.items, false, false, ⟨0, 0, 0, 0⟩⟩ }
    alloc := { p.alloc with restoreHold := true } }

theorem Part.startBatch_eq (p : Part) (plan : Plan) :
    p.startBatch plan = (Part.releaseInOrder [] plan.releases (p.started plan)).progressBatch := rfl

/-- The part in phase B of a plan, before its level items. -/
def Part.startedB (p : Part) (plan : Plan) : Part :=
  (p.started plan).mapBatch fun b => { b with phase := .b, levels := [] }

/-- The level items of a plan applied, decreases first. -/
def Part.levelled (p : Part) (plan : Plan) : Part :=
  ((plan.levels.filter fun e => !p.levelRaises e) ++ plan.levels.filter p.levelRaises).foldl Part.applyLevel
    (p.startedB plan)

theorem Part.relevelled_levelled (p : Part) (plan : Plan) : Part.Relevelled (p.startedB plan) (p.levelled plan) :=
  Part.relevelled_foldl _ _

/-- A plan that releases nothing is in phase B in the act, and over in it where it has no item. -/
theorem Part.startBatch_of_no_releases {p : Part} {plan : Plan} (hjobs : ∀ j ∈ p.engine.jobs, j.batch = none)
    (hr : plan.releases = []) : p.startBatch plan =
      if plan.items = [] then (p.levelled plan).endBatch false else p.levelled plan := by
  have hlevelled := p.relevelled_levelled plan
  obtain ⟨c, hbatch⟩ := hlevelled.batch _ rfl
  have hnone : ∀ m, (p.levelled plan).hasBatchJob m = false := fun m => Part.hasBatchJob_eq_false.mpr fun j hj => by
    rw [hlevelled.frame] at hj
    simp [hjobs j hj]
  have hphase : (p.started plan).progressBatch = (p.levelled plan).settlePhaseB :=
    Part.progressBatch_of_released (p := p.started plan) rfl rfl hr
      (Part.hasBatchJob_eq_false.mpr fun j hj => by simp [hjobs j hj])
  rw [Part.startBatch_eq, hr, Part.releaseInOrder, hphase, Part.settlePhaseB_of_batch hbatch]
  simp only [hnone, and_true, true_and]

section
variable {s : State} {tag : Byte} {stale : Bool} {es : List LineupEntry}

/-- LINEUP_POP is accepted with the counts of its plan, and leaves the part `u`. -/
def State.popsInto (s : State) (tag : Byte) (es : List LineupEntry) (u : Part) : Prop :=
  exec (.lineupPop tag (some ())) s = .next (s.answers (.lineupPop tag (some ())) tag 0x51
    ⟨.accepted, false, (s.part.plan es).payload s.part.store.top⟩ u)

theorem State.popsInto_of (ha : s.awaits (.lineupPop tag (some ())) tag) (h : s.part.Restores stale es) :
    s.popsInto tag es (s.part.commitTest (s.part.startBatch (s.part.plan es))) := by
  rw [State.popsInto, exec_lineupPop, State.serve_of_awaits _ _ ha, h.lineupPop]

/-- A pop that releases nothing. -/
theorem State.popsInto_of_no_releases (ha : s.awaits (.lineupPop tag (some ())) tag) (h : s.part.Restores stale es)
    (hjobs : ∀ j ∈ s.part.engine.jobs, j.batch = none) (hr : (s.part.plan es).releases = []) :
    s.popsInto tag es (if (s.part.plan es).items = [] then (s.part.levelled (s.part.plan es)).endBatch false
      else s.part.levelled (s.part.plan es)) := by
  have hpops := State.popsInto_of ha h
  have hlevelled := s.part.relevelled_levelled (s.part.plan es)
  have htenants : (s.part.levelled (s.part.plan es)).tenants = s.part.tenants := by rw [hlevelled.frame]; rfl
  rw [Part.startBatch_of_no_releases hjobs hr, Part.commitTest_of_same_delivered] at hpops
  · exact hpops
  · split
    · rw [Part.endBatch_frame]
      exact htenants
    · exact htenants
  · intro k
    split
    · rw [Part.endBatch_frame]
      exact hlevelled.delivered k
    · exact hlevelled.delivered k

/-- A pop whose releases are all of ACTIVE grants. -/
theorem State.popsInto_of_active (ha : s.awaits (.lineupPop tag (some ())) tag) (h : s.part.Restores stale es)
    (hr : (s.part.plan es).releases ≠ [])
    (hactive : ∀ g ∈ (s.part.plan es).releases, ∃ x, s.part.grant g = some x ∧ x.state = .active) :
    let k := 24 - s.part.engine.jobs.length
    ∃ u raised, s.popsInto tag es { u with events := { u.events with raised := raised } } ∧
      Part.ReleasesListed ⟨.a, (s.part.plan es).releases, (s.part.plan es).levels, (s.part.plan es).items, false, false,
        ⟨0, 0, 0, 0⟩⟩ ((s.part.plan es).releases.take k) ((s.part.plan es).releases.drop k)
        (s.part.started (s.part.plan es)) u := by
  intro k
  have hlisted := Part.releaseInOrder_of_active (taken := []) (p := s.part.started (s.part.plan es)) rfl rfl
    ((s.part.plan_releases_sorted es).imp ne_of_lt) (by simp) hactive
  have hbatch := congrArg (·.store.batch) hlisted.frame
  obtain ⟨new, hjobs, hnew⟩ := hlisted.jobs
  have hpops := State.popsInto_of ha h
  rw [Part.startBatch_eq, Part.progressBatch_of_phaseA hbatch rfl] at hpops
  · obtain ⟨raised, hcommit, -⟩ := s.part.commitTest_frame
      (Part.releaseInOrder [] (s.part.plan es).releases (s.part.started (s.part.plan es)))
    rw [hcommit] at hpops
    exact ⟨_, raised, hpops, hlisted⟩
  · refine or_iff_not_imp_left.mpr fun hrest => ?_
    have hdrop : (s.part.plan es).releases.drop k = [] := not_not.mp hrest
    have hall : (s.part.plan es).releases.take k = (s.part.plan es).releases := by
      have happend := List.take_append_drop k (s.part.plan es).releases
      rwa [hdrop, List.append_nil] at happend
    obtain ⟨g, hg⟩ := List.exists_mem_of_ne_nil _ hr
    have hmem : (g, JobKind.release, none, none, some BatchMark.a, none) ∈ new.map Job.summary := by
      rw [hnew]
      exact List.mem_map.mpr ⟨g, by rw [← hall] at hg; exact hg, rfl⟩
    obtain ⟨j, hj, hsummary⟩ := List.mem_map.mp hmem
    refine Part.hasBatchJob_iff.mpr ⟨j, by rw [hjobs]; exact List.mem_append_right _ hj, ?_⟩
    exact congrArg (fun y => y.2.2.2.2.1) hsummary

end

/-- Settles O48: nothing to release, ACTIVE grants to release, and one level item. -/
theorem lineupPopStartsBatch : Obligations.LineupPopStartsBatch := by
  unfold Obligations.LineupPopStartsBatch
  refine ⟨fun s tag stale es ha hslot hb hjobs => ?_, fun p b e r t hb hr hs htenant hdir ht hstands hgen => ?_⟩
  · intro plan hidle hclear hpower hrecords popped starts running
    have hrestores : s.part.Restores stale es := ⟨⟨hslot, hb⟩, hidle, hclear, hpower, hrecords⟩
    refine ⟨fun hr hl hi => ?_, fun hr => ?_, fun hr hactive => ?_⟩
    · have hpops := State.popsInto_of_no_releases ha hrestores hjobs hr
      have hlevelled : s.part.levelled (s.part.plan es) = s.part.startedB plan := by
        have hl : (s.part.plan es).levels = [] := hl
        simp only [Part.levelled, hl]
        rfl
      rw [if_pos hi, hlevelled, Part.endBatch_of_batch rfl] at hpops
      exact hpops
    · have hpops := State.popsInto_of_no_releases ha hrestores hjobs hr
      have hstarted : s.part.startedB (s.part.plan es) =
          running ⟨.b, [], [], plan.items, false, false, ⟨0, 0, 0, 0⟩⟩ := by
        rw [← show (s.part.plan es).releases = [] from hr]
        rfl
      rw [Part.levelled, hstarted] at hpops
      intro levelled
      exact hpops
    · obtain ⟨u, raised, hpops, hlisted⟩ := State.popsInto_of_active ha hrestores hr hactive
      obtain ⟨new, hnew⟩ := hlisted.jobs
      have hframe := hlisted.frame
      exact ⟨_, new, hpops, congrArg (·.store) hframe, congrArg (·.alloc) hframe, hnew.1, hnew.2, hlisted.released,
        hlisted.others, congrArg (·.slices) hframe⟩
  · intro v counted fits
    have hactive : p.activeFor e = some r :=
      Part.activeFor_eq_some.mpr ⟨hr, hs, htenant, hdir, Part.entryStands_iff.mpr ⟨⟨t, ht, hstands⟩, hgen⟩⟩
    have happly := Part.applyLevel_eq hactive
    refine ⟨fun h => ?_, fun hv hf => ?_⟩
    · have hstore : (p.setGrant e.grant (some (r.relevelled e))).capTest.store = p.store :=
        (Part.mapOnly_capTest _).store
      have hdone : (p.setGrant e.grant (some (r.relevelled e))).capTest.countDone =
          { (p.setGrant e.grant (some (r.relevelled e))).capTest with
            store := counted { b.counts with done := b.counts.done + 1 } } := by
        rw [Part.countDone, Part.mapBatch_of_batch (by rw [hstore, hb]), hstore]
      rw [happly, if_pos h, hdone, ← Part.capTest_withStore]
      rfl
    · rw [happly, if_neg (not_or.mpr ⟨not_le.mpr hv, by simpa using hf⟩), Part.countFailed,
        Part.mapBatch_of_batch hb]

end Sys2Proof.Machine
end

section
/-! The releases of phase A (8.5, R116): O49. -/

namespace Sys2Proof.Machine

/-! ### A cycle cut short by phase A is that of a job with mark A (R153) -/

/-- The job with batch mark A. -/
def Job.markedA (j : Job) : Job := { j with batch := some .a }

/-- Phase A cuts a cycle short as an ordinary release does, the job having mark A. -/
theorem Part.cutShort_phaseA (p : Part) (j : Job) (x : Grant) :
    p.cutShort j x true = p.cutShort j.markedA x false := rfl

variable {p q u v : Part} {b : Batch} {g : Nat} {rest : List Nat} {x : Grant} {j : Job}

/-- After the turn every job with the id is the turned one. -/
theorem Part.holdsJob_turned_of_mem {k : Job} (hk : k ∈ p.engine.jobs) (hid : k.id = j.id) {dest : Option Place}
    {run : Option Run} (hq : q.engine = (p.turning j x dest run).engine) : q.holdsJob (j.turned dest run) := by
  rw [Part.holdsJob, hq]
  refine ⟨List.mem_map.mpr ⟨k, hk, if_pos hid⟩, fun i hi hsame => ?_⟩
  obtain ⟨i, -, rfl⟩ := List.mem_map.mp hi
  by_cases e : i.id = j.id
  · exact if_pos e
  · rw [if_neg e] at hsame
    exact absurd hsame e

/-- HOLD begins in full for the turned job. -/
theorem Part.beginHold_turned_of_mem {k : Job} (hk : k ∈ p.engine.jobs) (hid : k.id = j.id) {dest : Option Place}
    {run : Run} (hq : q.engine = (p.turning j x dest (some run)).engine) (hhold : run.timings.hold ≠ 0) :
    q.beginHold j.id = { q with engine := (p.turning j x dest (some run.held)).engine } := by
  have hbegin := Part.beginHold_of_run (j := j.turned dest (some run)) (Part.holdsJob_turned_of_mem hk hid hq) rfl hhold
  rw [← Part.engine_withRun_turned hq run.held]
  exact hbegin

/-- A cycle in STROBE or HOLD, cut short by phase A. -/
theorem Part.cutShort_phaseA_of_radiating {run : Run} (hx : p.grant j.grant = some x) (hmem : j ∈ p.engine.jobs)
    (hrun : j.run = some run) (hphase : run.phase ≠ .setup) (hhold : run.phase ≠ .hold → run.timings.hold ≠ 0) :
    p.cutShort j x true = p.turning j.markedA x (if x.state = .arriving then none else j.dest)
      (some (if run.phase = .strobe then run.held else run)) := by
  have hcut := Part.cutShort_of_radiating (j := j.markedA) hx hrun hphase
  dsimp only at hcut
  rw [Part.cutShort_phaseA, hcut]
  by_cases hstrobe : run.phase = .strobe
  · rw [if_pos hstrobe, if_pos hstrobe]
    exact Part.beginHold_turned_of_mem (j := j.markedA) hmem rfl
      (congrArg (fun r => (p.turning j.markedA x _ r).engine) hrun) (hhold (by simp [hstrobe]))
  · rw [if_neg hstrobe, if_neg hstrobe, ← hrun]
    rfl

/-- A silent cycle that does not arrive, cut short by phase A. -/
theorem Part.cutShort_phaseA_of_silent (hx : p.grant j.grant = some x) (hmem : j ∈ p.engine.jobs)
    (hs : x.state = .moving ∨ x.state = .resizing) (hj : j.silent = true)
    (hhold : ∀ run, j.run = some run → run.timings.hold ≠ 0) :
    p.cutShort j x true = { (p.turning j.markedA x none j.run).letGo j.grant x.level none x.covers with
      engine := (p.turning j.markedA x none (j.run.map Run.held)).engine } := by
  have hmap := (p.turning j.markedA x none j.run).mapOnly_letGo j.grant x.level x.covers
  have hcut := Part.cutShort_of_silent (j := j.markedA) hx hs hj
  dsimp only at hcut
  rw [Part.cutShort_phaseA, hcut]
  change (if j.run.isSome then ((p.turning j.markedA x none j.run).letGo j.grant x.level none x.covers).beginHold j.id
    else (p.turning j.markedA x none j.run).letGo j.grant x.level none x.covers) = _
  generalize (p.turning j.markedA x none j.run).letGo j.grant x.level none x.covers = q at hmap
  have hengine := hmap.engine
  cases hrun : j.run with
  | none =>
    rw [hrun] at hengine
    rw [Option.map_none, ← hengine]
    rfl
  | some run =>
    rw [hrun] at hengine
    exact Part.beginHold_turned_of_mem (j := j.markedA) hmem rfl hengine (hhold run hrun)

/-! ### What is let go does not turn on the runs -/

/-- What counts of a carrier is read from the job's destination and the kind that it was queued as (R90). -/
theorem Grant.counted_congr {a c : Option Job} (h : a.map (fun k => (k.dest, k.queuedAs)) = c.map fun k =>
    (k.dest, k.queuedAs)) : x.counted a = x.counted c := by
  cases a with
  | none =>
    cases c with
    | none => rfl
    | some c => simp at h
  | some a =>
    cases c with
    | none => simp at h
    | some c =>
      simp only [Option.map_some, Option.some.injEq, Prod.mk.injEq] at h
      obtain ⟨hdest, hkind⟩ := h
      simp [Grant.counted, hdest, hkind]

/-- The composite reads of the jobs only the destinations and the kinds. -/
theorem Part.composite_congr_counted (hoffset : q.offset = p.offset) (hslices : q.slices = p.slices)
    (hgrants : q.grants = p.grants) (hjobs : ∀ k, (q.jobOf k).map (fun i => (i.dest, i.queuedAs)) =
      (p.jobOf k).map fun i => (i.dest, i.queuedAs)) : q.composite = p.composite := by
  have hcarriers : q.carriersWeight = p.carriersWeight := by
    have hone : q.carrierWeight = p.carrierWeight := by
      funext l c
      simp only [Part.carrierWeight, hoffset]
    funext l cs
    rw [Part.carriersWeight, Part.carriersWeight, hone]
  have hcontribution : q.contribution = p.contribution := by
    funext k
    simp only [Part.contribution, Part.grant_congr hgrants, hcarriers, Grant.counted_congr (hjobs k)]
  rw [Part.composite, Part.composite, hcontribution, Part.fillsWeight_congr hoffset, hslices]

/-- The job of a grant in the turned list: that of a turn to another run but for the run. -/
theorem Part.jobOf_turning (p : Part) (j : Job) (x : Grant) (dest : Option Place) (run next : Option Run) (k : Nat) :
    ((p.turning j x dest next).jobOf k).map (fun i => (i.dest, i.queuedAs)) =
      ((p.turning j x dest run).jobOf k).map fun i => (i.dest, i.queuedAs) := by
  have hfind : ∀ r, (p.turning j x dest r).jobOf k = (p.engine.jobs.find? fun i =>
      (if i.id = j.id then j.grant else i.grant) == k).map fun i => if i.id = j.id then j.turned dest r else i := by
    intro r
    rw [Part.jobOf, Part.turning, List.find?_map]
    congr 2
    funext i
    simp only [Function.comp]
    split <;> rfl
  rw [hfind, hfind, Option.map_map, Option.map_map]
  congr 1
  funext i
  simp only [Function.comp]
  split <;> rfl

/-- Letting go, told of a part with the same slices and level, whose grants and jobs give the same composites. -/
theorem Part.letGoSince_congr {level : Option Int} {keep : Nat → Bool} (h : p.letGoSince u g level keep)
    (hslices : v.slices = u.slices) (hlevel : v.level = u.level)
    (hcomposite : ∀ s, ({ p with grants := v.grants, engine := v.engine, slices := s } : Part).composite =
      ({ p with grants := u.grants, engine := u.engine, slices := s } : Part).composite) :
    p.letGoSince v g level keep := by
  unfold Part.letGoSince at h ⊢
  simpa only [hslices, hlevel, hcomposite, Part.slice_congr hslices] using h

/-! ### A grant that leaves the phase-A list -/

/-- The batch without a grant in its phase-A list. -/
def Batch.without (b : Batch) (g : Nat) : Batch := { b with releases := b.releases.filter (· != g) }

theorem Batch.without_head (h : b.releases = g :: rest) (hg : g ∉ rest) :
    b.without g = { b with releases := rest } := by
  rw [Batch.without, h, List.filter_cons_of_neg (by simp), List.filter_eq_self.mpr fun k hk => by
    simpa using fun e : k = g => hg (e ▸ hk)]

/-- A grant with a cycle in flight is cut short and leaves the list. -/
theorem Part.releasePhaseA_of_cycle (hx : p.grant g = some x)
    (hs : x.state = .arriving ∨ x.state = .moving ∨ x.state = .resizing) (hj : p.jobOf g = some j) :
    p.releasePhaseA g = (p.cutShort j x true).mapBatch fun b => b.without g := by
  rw [← Part.releaseGrant_of_cycle hx hs hj true]
  rcases hs with hs | hs | hs <;> simp only [Part.releasePhaseA, hx, hs] <;> rfl

/-- The part with a LEAVING grant's job marked A, and the grant out of the list. -/
theorem Part.releasePhaseA_of_leaving (hx : p.grant g = some x) (hs : x.state = .leaving) (hj : p.jobOf g = some j) :
    p.releasePhaseA g = (p.mapJob j.id Job.markedA).mapBatch fun b => b.without g := by
  simp only [Part.releasePhaseA, hx, hs, hj]
  rfl

/-- PHASE_A_RELEASE takes the first grant of the list, and the batch goes on. -/
theorem Part.phaseARelease_of_head (hb : p.store.batch = some b) (hr : b.releases = g :: rest) :
    p.phaseARelease = (p.releasePhaseA g).progressBatch := by
  simp only [Part.phaseARelease, hb, hr]

theorem Part.store_turning (p : Part) (j : Job) (x : Grant) (dest : Option Place) (run : Option Run) :
    (p.turning j x dest run).store = p.store := rfl

/-- A turned job with mark A holds phase A. -/
theorem Part.hasBatchJob_turning (hmem : j ∈ p.engine.jobs) (dest : Option Place) (run : Option Run)
    (hq : q.engine = (p.turning j.markedA x dest run).engine) : q.hasBatchJob .a = true := by
  refine Part.hasBatchJob_iff.mpr ⟨j.markedA.turned dest run, ?_, rfl⟩
  rw [hq]
  exact List.mem_map.mpr ⟨j, hmem, if_pos rfl⟩

/-! ### The first grant of the list, by its state (R153, R116) -/

/-- The first grant of a phase-A list. -/
structure Part.FirstListed (p : Part) (b : Batch) (g : Nat) (rest : List Nat) (x : Grant) : Prop where
  batch : p.store.batch = some b
  phase : b.phase = .a
  releases : b.releases = g :: rest
  fresh : g ∉ rest
  grant : p.grant g = some x

/-- The store once the first grant has left the list. -/
def Part.listed (p : Part) (b : Batch) (rest : List Nat) : LineupStore :=
  { p.store with batch := some { b with releases := rest } }

theorem Part.FirstListed.mapBatch (h : p.FirstListed b g rest x) (hq : q.store = p.store) :
    (q.mapBatch fun b => b.without g) = { q with store := p.listed b rest } := by
  rw [Part.mapBatch_of_batch (by rw [hq, h.batch]), Batch.without_head h.releases h.fresh, hq]
  rfl

/-- With no entry free nothing happens to an ACTIVE grant. -/
theorem Part.FirstListed.phaseARelease_of_full (h : p.FirstListed b g rest x) (hs : x.state = .active)
    (hfull : 24 ≤ p.engine.jobs.length) : p.phaseARelease = p := by
  have hmem : g ∈ b.releases := by simp [h.releases]
  rw [Part.phaseARelease_of_head h.batch h.releases, Part.releasePhaseA_of_active h.batch hmem h.grant hs,
    if_neg (Nat.not_lt.mpr hfull), Part.progressBatch_of_phaseA h.batch h.phase (.inl (by simp [h.releases]))]

/-- With an entry free an ACTIVE grant takes a RELEASE job with mark A. -/
theorem Part.FirstListed.phaseARelease_of_active (h : p.FirstListed b g rest x) (hs : x.state = .active)
    (hfree : p.engine.jobs.length < 24) : p.phaseARelease = { p with
      store := p.listed b rest
      grants := p.grants.set g (some x.released)
      engine := p.engine.withJob { p.newJob g .release none with batch := some .a } } := by
  have hmem : g ∈ b.releases := by simp [h.releases]
  have hrelease : p.releasePhaseA g = { p with
      store := p.listed b rest
      grants := p.grants.set g (some x.released)
      engine := p.engine.withJob { p.newJob g .release none with batch := some .a } } := by
    rw [Part.releasePhaseA_of_active h.batch hmem h.grant hs, if_pos hfree, Part.releasingListed, Part.listed,
      ← Batch.without_head h.releases h.fresh]
    rfl
  rw [Part.phaseARelease_of_head h.batch h.releases, hrelease]
  refine Part.progressBatch_of_phaseA rfl h.phase (.inr (Part.hasBatchJob_iff.mpr ?_))
  exact ⟨_, List.mem_append_right _ (List.mem_singleton_self _), rfl⟩

/-- A LEAVING grant's job takes mark A. -/
theorem Part.FirstListed.phaseARelease_of_leaving (h : p.FirstListed b g rest x) (hs : x.state = .leaving)
    (hj : p.jobOf g = some j) : p.phaseARelease = { p with
      store := p.listed b rest
      engine := { p.engine with jobs := p.engine.jobs.map fun k => if k.id = j.id then k.markedA else k } } := by
  have hjobs : (p.engine.jobs.map fun k => if k.id == j.id then k.markedA else k) =
      p.engine.jobs.map fun k => if k.id = j.id then k.markedA else k := by simp only [beq_iff_eq]
  have hmark : (p.mapJob j.id Job.markedA).mapBatch (fun b => b.without g) = { p with
      store := p.listed b rest
      engine := { p.engine with jobs := p.engine.jobs.map fun k => if k.id = j.id then k.markedA else k } } := by
    rw [h.mapBatch (q := p.mapJob j.id Job.markedA) rfl, Part.mapJob, hjobs]
    rfl
  rw [Part.phaseARelease_of_head h.batch h.releases, Part.releasePhaseA_of_leaving h.grant hs hj, hmark]
  refine Part.progressBatch_of_phaseA rfl h.phase (.inr (Part.hasBatchJob_iff.mpr ⟨j.markedA, ?_, rfl⟩))
  exact List.mem_map.mpr ⟨j, List.mem_of_find?_eq_some hj, if_pos rfl⟩

/-- A grant whose cycle is cut short into the job with mark A. -/
theorem Part.FirstListed.phaseARelease_of_turned (h : p.FirstListed b g rest x)
    (hs : x.state = .arriving ∨ x.state = .moving ∨ x.state = .resizing) (hj : p.jobOf g = some j)
    (hcut : p.cutShort j x true = q) (hstore : q.store = p.store) {dest : Option Place} {run : Option Run}
    (hengine : q.engine = (p.turning j.markedA x dest run).engine) :
    p.phaseARelease = { q with store := p.listed b rest } := by
  rw [Part.phaseARelease_of_head h.batch h.releases, Part.releasePhaseA_of_cycle h.grant hs hj, hcut,
    h.mapBatch hstore]
  exact Part.progressBatch_of_phaseA rfl h.phase
    (.inr (Part.hasBatchJob_turning (List.mem_of_find?_eq_some hj) dest run hengine))

/-- In STROBE and HOLD the grant keeps its slices. -/
theorem Part.FirstListed.phaseARelease_of_radiating (h : p.FirstListed b g rest x)
    (hs : x.state = .arriving ∨ x.state = .moving ∨ x.state = .resizing) (hj : p.jobOf g = some j) {run : Run}
    (hrun : j.run = some run) (hphase : run.phase ≠ .setup) (hhold : run.phase ≠ .hold → run.timings.hold ≠ 0) :
    p.phaseARelease = { p.turning j.markedA x (if x.state = .arriving then none else j.dest)
      (some (if run.phase = .strobe then run.held else run)) with store := p.listed b rest } := by
  obtain rfl : j.grant = g := by simpa using List.find?_some hj
  exact h.phaseARelease_of_turned hs hj
    (Part.cutShort_phaseA_of_radiating h.grant (List.mem_of_find?_eq_some hj) hrun hphase hhold)
    (Part.store_turning ..)
    (dest := if x.state = .arriving then none else j.dest) (run := some (if run.phase = .strobe then run.held else run))
    rfl

/-- A silent MOVING or RESIZING grant lets its destination go, and its job takes mark A. -/
theorem Part.FirstListed.phaseARelease_of_silent (h : p.FirstListed b g rest x)
    (hs : x.state = .moving ∨ x.state = .resizing) (hj : p.jobOf g = some j) (hsilent : j.silent = true)
    (hhold : ∀ run, j.run = some run → run.timings.hold ≠ 0) (hlen : p.slices.length = 1024) :
    let u := p.phaseARelease
    u.store = p.listed b rest ∧ u.grants = p.grants.set g (some x.released) ∧
      u.engine = (p.turning j.markedA x none (j.run.map Run.held)).engine ∧ u.tenants = p.tenants ∧
      p.letGoSince u g x.level x.covers := by
  obtain rfl : j.grant = g := by simpa using List.find?_some hj
  have hmap := (p.turning j.markedA x none j.run).mapOnly_letGo j.grant x.level x.covers
  have hcut := Part.cutShort_phaseA_of_silent h.grant (List.mem_of_find?_eq_some hj) hs hsilent hhold
  have hgone : p.letGoSince ((p.turning j.markedA x none j.run).letGo j.grant x.level none x.covers) j.grant x.level
      x.covers := Part.letGoSince_letGo (p := p.turning j.markedA x none j.run) hlen rfl x.level x.covers
  generalize (p.turning j.markedA x none j.run).letGo j.grant x.level none x.covers = w at hmap hcut hgone
  have hrelease := h.phaseARelease_of_turned (.inr hs) hj hcut hmap.store (dest := none) (run := j.run.map Run.held) rfl
  dsimp only
  rw [hrelease]
  refine ⟨rfl, hmap.grants, rfl, hmap.tenants, Part.letGoSince_congr hgone rfl rfl fun s => ?_⟩
  refine Part.composite_congr_counted rfl rfl rfl fun k => ?_
  have hjob : w.jobOf k = (p.turning j.markedA x none j.run).jobOf k :=
    Part.jobOf_congr (congrArg (·.jobs) hmap.engine) k
  exact (p.jobOf_turning j.markedA x none j.run (j.run.map Run.held) k).trans (congrArg (Option.map _) hjob.symm)

/-! ### An ARRIVING grant that is freed (R43, R115) -/

/-- The list of a tenant that stands on, or that has other grants, loses the grant. -/
theorem Part.unlist_of_standing {k : Nat} {t : TenantRecord} (ht : p.tenant k = some t)
    (h : t.status ≠ .retiring ∨ t.grants.filter (fun i => i != g) ≠ []) :
    p.unlist k g = p.setTenant k { t with grants := t.grants.filter fun i => i != g } := by
  have hstands : (t.status == .retiring && (t.grants.filter fun i => i != g).isEmpty) = false := by
    rw [Bool.and_eq_false_iff, beq_eq_false_iff_ne, List.isEmpty_eq_false_iff]
    exact h
  simp only [Part.unlist, ht, hstands, Bool.false_eq_true, if_false]

/-- A silent ARRIVING grant is freed by phase A, and counts as released. -/
theorem Part.cutShort_phaseA_of_arriving {t : TenantRecord} (hx : p.grant j.grant = some x)
    (ht : p.tenant x.tenant = some t) (ha : x.state = .arriving) (hj : j.silent = true) :
    p.cutShort j x true = (((p.dropping j x t).letGo j.grant x.level none fun _ => false).unlist x.tenant
      j.grant).mapBatch fun b => b.jobEnded { b.counts with released := b.counts.released + 1 } := by
  have hturnaround := Part.turnaroundIfStarted_eq (show p.jobTenant j = some x.tenant by simp [Part.jobTenant, hx]) ht
  have hgrant : ((p.turnaroundIfStarted j).dropJob j.id).grant j.grant = some x := by rw [hturnaround]; exact hx
  simp only [Part.cutShort, ha, hj, beq_self_eq_true, Bool.and_self, if_true, Part.removeArriving, Part.freeGrant,
    hgrant]
  rw [hturnaround]
  rfl

/-- The batch once an ARRIVING grant of its phase-A list has been freed. -/
def Batch.freed (b : Batch) (rest : List Nat) : Batch :=
  { b with releases := rest, retry := true, counts := { b.counts with released := b.counts.released + 1 } }

theorem Part.FirstListed.phaseARelease_of_arriving (h : p.FirstListed b g rest x) {t : TenantRecord}
    (ht : p.tenant x.tenant = some t) (ha : x.state = .arriving) (hj : p.jobOf g = some j) (hsilent : j.silent = true)
    (hmore : rest ≠ [] ∨ ∃ k ∈ p.engine.jobs, k.id ≠ j.id ∧ k.batch = some .a) :
    let v := ((p.dropping j x t).letGo g x.level none fun _ => false).unlist x.tenant g
    p.phaseARelease = { v with store := { v.store with batch := some (b.freed rest) } } := by
  obtain rfl : j.grant = g := by simpa using List.find?_some hj
  have hmap := (p.dropping j x t).mapOnly_letGo j.grant x.level fun _ => false
  have hcut := Part.cutShort_phaseA_of_arriving h.grant ht ha hsilent
  generalize (p.dropping j x t).letGo j.grant x.level none (fun _ => false) = w at hmap hcut
  obtain ⟨hbatch, hjobs⟩ := w.unlist_keeps x.tenant j.grant
  have hv : (w.unlist x.tenant j.grant).store.batch = some b := by rw [hbatch, hmap.store]; exact h.batch
  rw [Part.mapBatch_of_batch hv] at hcut
  dsimp only
  rw [Part.phaseARelease_of_head h.batch h.releases, Part.releasePhaseA_of_cycle h.grant (.inl ha) hj, hcut,
    Part.mapBatch_of_batch rfl, Batch.without_head (by exact h.releases) h.fresh]
  refine Part.progressBatch_of_phaseA rfl h.phase (hmore.imp_right fun ⟨k, hk, hid, hmark⟩ => ?_)
  refine Part.hasBatchJob_iff.mpr ⟨k, ?_, hmark⟩
  refine hjobs ▸ hmap.engine ▸ List.mem_filter.mpr ⟨hk, by simpa using hid⟩

/-- What stands after the freeing, but for the tenant and its turnaround. -/
theorem Part.letGoSince_dropping_unlist (p : Part) (j : Job) (x : Grant) (t : TenantRecord)
    (hlen : p.slices.length = 1024) :
    let v := ((p.dropping j x t).letGo j.grant x.level none fun _ => false).unlist x.tenant j.grant
    v.grants = p.grants.set j.grant none ∧ v.engine.jobs = p.engine.jobs.filter (fun k => k.id != j.id) ∧
      p.letGoSince v j.grant x.level fun _ => false := by
  have hmap := (p.dropping j x t).mapOnly_letGo j.grant x.level fun _ => false
  have hgone : p.letGoSince ((p.dropping j x t).letGo j.grant x.level none fun _ => false) j.grant x.level
      fun _ => false := Part.letGoSince_letGo (p := p.dropping j x t) hlen rfl x.level _
  generalize (p.dropping j x t).letGo j.grant x.level none (fun _ => false) = w at hmap hgone
  obtain ⟨-, hjobs⟩ := w.unlist_keeps x.tenant j.grant
  have hframe := w.unlist_frame x.tenant j.grant
  dsimp only
  generalize w.unlist x.tenant j.grant = v at hjobs hframe
  have hslices : v.slices = w.slices := by rw [hframe]
  have hlevel : v.level = w.level := by rw [hframe]
  have hgrants : v.grants = w.grants := by rw [hframe]
  exact ⟨hgrants.trans hmap.grants, hjobs.trans (congrArg (·.jobs) hmap.engine),
    Part.letGoSince_congr hgone hslices hlevel fun s => Part.composite_congr rfl rfl hgrants hjobs⟩

/-- The tenant of a freed ARRIVING grant: its list has lost the grant and its turnaround has begun where the job had
started, or its retire is complete. -/
theorem Part.tenant_dropping_unlist {t : TenantRecord} (ht : p.tenant x.tenant = some t) :
    let v := ((p.dropping j x t).letGo j.grant x.level none fun _ => false).unlist x.tenant j.grant
    let others := t.grants.filter fun k => k != j.grant
    (t.status ≠ .retiring ∨ others ≠ [] → v.tenant x.tenant = some { t with grants := others } ∧
      v.engine.turnaround = (p.dropping j x t).engine.turnaround) ∧
    (t.status = .retiring → others = [] → v.tenant x.tenant = none ∧
      v.generation x.tenant = (p.generation x.tenant + 1) % 256) := by
  have hmap := (p.dropping j x t).mapOnly_letGo j.grant x.level fun _ => false
  dsimp only
  generalize (p.dropping j x t).letGo j.grant x.level none (fun _ => false) = w at hmap
  have hw : w.tenant x.tenant = some t := (Part.tenant_congr hmap.tenants _).trans ht
  refine ⟨fun h => ⟨Part.tenant_unlist hw h, ?_⟩, fun hs h => ?_⟩
  · rw [Part.unlist_of_standing hw h, ← hmap.engine]
    rfl
  · obtain ⟨hnone, hgeneration⟩ := Part.unlist_of_last hw hs h
    refine ⟨hnone, hgeneration.trans ?_⟩
    rw [Part.generation, hmap.tenants]
    rfl

/-! ### PHASE_A_RELEASE -/

/-- An act that leaves a part, with UNDER_COMMIT tested after it. -/
theorem State.act_of_eq {s : State} {f : Part → Part} {q : Part} (h : f s.part = q) :
    s.act f = .next { s with part := s.part.commitTest q } := by rw [State.act_eq, h]

/-- An act that leaves the tenants and the grants. -/
theorem State.act_of_kept {s : State} {f : Part → Part} {q : Part} (h : f s.part = q)
    (ht : q.tenants = s.part.tenants) (hg : q.grants = s.part.grants) : s.act f = .next { s with part := q } := by
  rw [State.act_of_eq h, Part.commitTest_of_same ht hg]

/-- A pop whose plan releases one grant takes the act of PHASE_A_RELEASE with it. -/
theorem Part.startBatch_of_one {plan : Plan} (hr : plan.releases = [g]) :
    p.startBatch plan = (p.started plan).phaseARelease := by
  have hbatch : (p.started plan).store.batch =
      some ⟨.a, plan.releases, plan.levels, plan.items, false, false, ⟨0, 0, 0, 0⟩⟩ := rfl
  rw [Part.startBatch_eq, Part.phaseARelease_of_head hbatch hr, hr, Part.releaseInOrder, List.foldl_nil,
    Part.releaseInOrder, Part.releaseListed_of_batch hbatch, if_pos (by simp [hr])]

/-- Settles O49: the states of the first grant of the list, and the pop that releases one grant. -/
theorem phaseAReleasesFirstGrant : Obligations.PhaseAReleasesFirstGrant := by
  unfold Obligations.PhaseAReleasesFirstGrant
  refine ⟨fun s b g rest r hb hphase hr hfresh hgrant => ?_, fun s tag stale es g ha hslot hb => ?_⟩
  · have h : s.part.FirstListed b g rest r := ⟨hb, hphase, hr, hfresh, hgrant⟩
    intro p listed leaving
    refine ⟨fun hs => ⟨fun hfull => State.act_of_fixed (h.phaseARelease_of_full hs hfull),
      fun hfree => State.act_of_eq (h.phaseARelease_of_active hs hfree)⟩, fun j hj hhold => ?_⟩
    obtain rfl : j.grant = g := by simpa using List.find?_some hj
    intro silent turned
    refine ⟨fun hs => ?_, fun x hrun hsound hs => ?_, fun hs hsilent hshaped => ?_,
      fun t hs hsilent hshaped _ _ ht hmore => ?_⟩
    · exact State.act_of_kept (h.phaseARelease_of_leaving hs hj) rfl rfl
    · exact State.act_of_eq (h.phaseARelease_of_radiating hs hj hrun hsound (hhold x hrun))
    · obtain ⟨-, -, hslices, -⟩ := hshaped
      obtain ⟨hstore, hgrants, hengine, htenants, hgone⟩ := h.phaseARelease_of_silent hs hj (Job.silent_iff.mpr hsilent)
        (fun x hrun => hhold x hrun (by simp [hsilent x hrun])) hslices
      obtain ⟨raised, hcommit, -⟩ := s.part.commitTest_frame s.part.phaseARelease
      refine ⟨_, State.act_of_eq rfl, ?_⟩
      rw [hcommit]
      exact ⟨hstore, hgrants, hengine, htenants, hgone⟩
    · obtain ⟨-, -, hslices, -⟩ := hshaped
      have hrelease := h.phaseARelease_of_arriving ht hs hj (Job.silent_iff.mpr hsilent) hmore
      obtain ⟨hgrants, hjobs, hgone⟩ := s.part.letGoSince_dropping_unlist j r t hslices
      obtain ⟨hstands, hlast⟩ := Part.tenant_dropping_unlist (j := j) ht
      dsimp only at hrelease hgrants hjobs hgone hstands hlast
      generalize ((s.part.dropping j r t).letGo j.grant r.level none fun _ => false).unlist r.tenant j.grant = v
        at hrelease hgrants hjobs hgone hstands hlast
      intro others interval
      refine ⟨_, State.act_of_eq hrelease, ?_⟩
      obtain ⟨raised, hcommit, -⟩ := s.part.commitTest_frame
        { v with store := { v.store with batch := some (b.freed rest) } }
      rw [hcommit]
      exact ⟨hgrants, hjobs, rfl, hgone, hstands, hlast⟩
  · intro plan hidle hclear hpower hrecords hr started
    have hpops := State.popsInto_of ha ⟨⟨hslot, hb⟩, hidle, hclear, hpower, hrecords⟩
    have hstarted : started = s.part.started (s.part.plan es) := by
      simp only [started, ← hr]
      rfl
    rw [Part.startBatch_of_one hr, ← hstarted] at hpops
    refine ⟨_, State.act_of_eq rfl, ?_⟩
    rw [Part.commitTest_before (p := s.part) (q := started) rfl rfl]
    exact hpops

end Sys2Proof.Machine
end

section
/-! The items of phase B (8.5): O50. -/

namespace Sys2Proof.Machine

variable {p q : Part} {b : Batch} {i : BatchItem} {rest : List BatchItem} {e : LineupEntry} {r : Grant} {n : Nat}

/-! ### The head item (R154) -/

/-- An item stands at the head of phase B, with a job entry free. -/
structure Part.HeadItem (p : Part) (b : Batch) (i : BatchItem) (rest : List BatchItem) : Prop where
  batch : p.store.batch = some b
  phase : b.phase = .b
  items : b.items = i :: rest
  free : p.engine.jobs.length < 24

theorem Batch.headReady_iff : b.headReady = true ↔ b.headWaits = false ∨ b.retry = true := by
  simp [Batch.headReady]

theorem Part.HeadItem.issueHead_eq (h : p.HeadItem b i rest) :
    p.issueHead = if b.headReady then (Part.takeUpItems (i :: rest) p).progressBatch else p := by
  simp [Part.issueHead, h.batch, h.phase, Part.hasJobEntry, h.free, h.items]

/-- A head that waits is not tried before a job of the batch has ended. -/
theorem Part.HeadItem.issueHead_of_waiting (h : p.HeadItem b i rest) (hwaits : b.headWaits = true)
    (hretry : b.retry = false) : p.issueHead = p := by
  rw [h.issueHead_eq, if_neg (by simp [Batch.headReady_iff, hwaits, hretry])]

/-- An item that is issued leaves the list, and its job keeps the batch. -/
theorem Part.HeadItem.issueHead_of_issued (h : p.HeadItem b i rest) (hready : b.headReady = true)
    (hissue : p.issueItem i = .issued q) (hstore : q.store = p.store) {j : Job} (hj : j ∈ q.engine.jobs)
    (hmark : j.batch = some .b) :
    p.issueHead = { q with store := { p.store with batch := some (b.dropHead rest) } } := by
  rw [h.issueHead_eq, if_pos hready, Part.takeUpItems, hissue]
  change (q.mapBatch fun b => b.dropHead rest).progressBatch = _
  have hkeeps : q.hasBatchJob .b = true := Part.hasBatchJob_iff.mpr ⟨j, hj, hmark⟩
  rw [Part.mapBatch_of_batch (by rw [hstore, h.batch]), hstore,
    Part.progressBatch_of_phaseB (b := b.dropHead rest) rfl h.phase]
  exact if_neg fun hover => by simpa [Part.hasBatchJob] using hover.2.symm.trans hkeeps

/-- An item that does not fit waits while a job of the batch remains. -/
theorem Part.HeadItem.issueHead_of_unfit (h : p.HeadItem b i rest) (hready : b.headReady = true)
    (hissue : p.issueItem i = .unfit) {j : Job} (hj : j ∈ p.engine.jobs) (hmark : j.batch ≠ none) :
    p.issueHead = { p with store := { p.store with batch := some b.waitHead } } := by
  have hremains : (p.hasBatchJob .a || p.hasBatchJob .b) = true := by
    rw [Bool.or_eq_true, Part.hasBatchJob_iff, Part.hasBatchJob_iff]
    obtain ⟨m, hm⟩ := Option.ne_none_iff_exists'.mp hmark
    cases m with
    | a => exact .inl ⟨j, hj, hm⟩
    | b => exact .inr ⟨j, hj, hm⟩
  rw [h.issueHead_eq, if_pos hready, Part.takeUpItems, hissue]
  change (if (p.hasBatchJob .a || p.hasBatchJob .b) = true then p.mapBatch Batch.waitHead else _).progressBatch = _
  rw [if_pos hremains, Part.mapBatch_of_batch h.batch, Part.progressBatch_of_phaseB (b := b.waitHead) rfl h.phase]
  exact if_neg fun hover => by simpa [Batch.waitHead, h.items] using hover.1

/-- The batch once its head item has failed. -/
def Batch.lost (b : Batch) (rest : List BatchItem) : Batch :=
  { b.dropHead rest with counts := { (b.dropHead rest).counts with failed := b.counts.failed + 1 } }

/-- The last item fails, or does not fit with no job of the batch left, and the batch is over. -/
theorem Part.HeadItem.issueHead_of_lost (h : p.HeadItem b i []) (hready : b.headReady = true)
    (hissue : p.issueItem i = .failed ∨ p.issueItem i = .unfit) (hjobs : ∀ j ∈ p.engine.jobs, j.batch = none) :
    p.issueHead = ({ p with
      store := { p.store with
        batch := none
        last := some ⟨{ b.counts with
          failed := b.counts.failed + 1
          waiting := if b.headWaits then b.counts.waiting - 1 else b.counts.waiting }, false⟩ }
      alloc := { p.alloc with restoreHold := false } } : Part).raisePlant .lineupDone := by
  have hnone : ∀ m, p.hasBatchJob m = false := fun m => Part.hasBatchJob_eq_false.mpr fun j hj => by simp [hjobs j hj]
  have hlost : (p.mapBatch fun b => b.dropHead []).countFailed =
      { p with store := { p.store with batch := some (b.lost []) } } := by
    rw [Part.mapBatch_of_batch h.batch, Part.countFailed, Part.mapBatch_of_batch (b := b.dropHead []) rfl]
    rfl
  have htaken : Part.takeUpItems [i] p = { p with store := { p.store with batch := some (b.lost []) } } := by
    rw [Part.takeUpItems, ← hlost]
    rcases hissue with hissue | hissue
    · rw [hissue]
      rfl
    · rw [hissue]
      change (if (p.hasBatchJob .a || p.hasBatchJob .b) = true then _ else _) = _
      rw [if_neg (by simp [hnone])]
      rfl
  rw [h.issueHead_eq, if_pos hready, htaken, Part.progressBatch_of_phaseB (b := b.lost []) rfl h.phase,
    if_pos ⟨rfl, hnone .b⟩, Part.endBatch_of_batch (b := b.lost []) rfl]
  rfl

/-! ### The place of an item (R1, R4, R154) -/

theorem Part.inBand_iff {d : Direction} : p.inBand d n = true ↔
    if d = .forward then p.split + 8 ≤ n ∧ n ≤ 1023 else n ≤ p.split - 1 := by
  have hband : p.inBand d n = (decide ((p.band d).1 ≤ n) && decide (n ≤ (p.band d).2)) := rfl
  rw [hband, Bool.and_eq_true, decide_eq_true_eq, decide_eq_true_eq]
  cases d <;> simp [Part.band]

/-- Every carrier slice lies in the band and is open or the grant's own, and every guard slice lies in it and is
eligible. -/
theorem Part.itemPlaceOk_iff {own : Option Grant} : p.itemPlaceOk e own = true ↔
    (∀ n, e.first ≤ n → n < e.first + e.width → p.inBand e.dir n = true ∧ ((p.slice n).available = true ∨
      ∃ r, own = some r ∧ r.cls = .data ∧ r.first ≤ n ∧ n < r.first + r.width)) ∧
    ∀ n ∈ guardSlices e.cls e.first, p.inBand e.dir n = true ∧ (p.slice n).guardEligible = true := by
  simp [Part.itemPlaceOk, List.all_eq_true, Option.any_eq_true, List.mem_range'_1, Grant.carrier]

/-- The window of an item that passes lies in the band. -/
theorem Part.inBand_of_itemPlaceOk {own : Option Grant} (hok : p.itemPlaceOk e own = true)
    (hvoice : e.cls = .voice → e.width = 1 ∧ 1 ≤ e.first) (hn : windowCovers e.cls e.first e.width n = true) :
    p.inBand e.dir n = true := by
  obtain ⟨hcarrier, hguard⟩ := Part.itemPlaceOk_iff.mp hok
  rcases windowCovers_iff.mp hn with ⟨hlo, hhi⟩ | ⟨hcls, hn⟩
  · exact (hcarrier n hlo hhi).1
  · obtain ⟨hw, hfirst⟩ := hvoice hcls
    exact (hguard n ((mem_guardSlices fun _ => hfirst).mpr ⟨hcls, by rwa [hw] at hn⟩)).1

/-- A carrier slice that is not open is left by a claim. -/
theorem claimEntry_of_closed {g : Nat} {cls : CarrierClass} {c : Place} {x : SliceEntry}
    (hv : cls = .voice → 1 ≤ c.first ∧ c.width = 1) (hlo : c.first ≤ n) (hhi : n < c.first + c.width)
    (h : x.available = false) : claimEntry g cls c n x = x := by
  have hguard : n ∉ guardSlices cls c.first := by
    rw [mem_guardSlices fun hcls => (hv hcls).1]
    rintro ⟨hcls, hn⟩
    have hw := (hv hcls).2
    omega
  simp [claimEntry, hguard, SliceEntry.claimedBy, h]

/-- The map once an item's window has been claimed: what stays, the carrier slices, and the guards. -/
theorem Part.claims_of_claimSlices {u : Part} {g : Nat} {cls : CarrierClass} {c : Place}
    (h : u.slices = claimSlices g cls c p.slices) (hv : cls = .voice → 1 ≤ c.first ∧ c.width = 1) :
    (∀ n, windowCovers cls c.first c.width n = false ∨ (c.first ≤ n ∧ n < c.first + c.width ∧
      (p.slice n).available = false) → u.slice n = p.slice n) ∧
    (∀ n, c.first ≤ n → n < c.first + c.width → (p.slice n).available = true → u.slice n = ⟨.claimed g, false, false⟩) ∧
    (cls = .voice → ∀ n, n + 1 = c.first ∨ n = c.first + 1 →
      ((p.slice n).available = true → u.slice n = ⟨.guard g none, false, false⟩) ∧
        ∀ a, (p.slice n).use = .guard a none → a ≠ g → u.slice n = { p.slice n with use := .guard a (some g) }) := by
  refine ⟨fun n hn => ?_, fun n hlo hhi ha => ?_, fun hcls n hn => ?_⟩
  · rw [Part.slice_of_claimSlices h]
    rcases hn with hout | ⟨hlo, hhi, hclosed⟩
    · exact claimEntry_of_outside _ hv hout
    · exact claimEntry_of_closed hv hlo hhi hclosed
  · rw [Part.slice_of_claimSlices h, claimEntry_of_carrier hlo hhi ha]
  · subst hcls
    rw [Part.slice_of_claimSlices h, claimEntry_of_guard _ (hv rfl).2 hn]
    exact ⟨fun ha => SliceEntry.guardedBy_of_available ha g, fun a ha hne => SliceEntry.guardedBy_of_guard ha hne⟩

/-- The place of an entry. -/
def LineupEntry.place (e : LineupEntry) : Place := ⟨e.first, e.width⟩

/-- The job of an item. -/
def Part.itemJob (p : Part) (g : Nat) (kind : JobKind) (e : LineupEntry) : Job :=
  { p.newJob g kind (some e.place) with batch := some .b }

theorem Engine.mem_withJob (x : Engine) (j : Job) : j ∈ (x.withJob j).jobs :=
  List.mem_append_right _ (List.mem_singleton_self j)

theorem Part.store_placing (p : Part) (g : Nat) (r : Grant) (c : Place) (j : Job) (k : Nat) (t : TenantRecord)
    (a : Allocator) : (p.placing g r c j k t a).store = p.store := by
  obtain ⟨_, _, h, -⟩ := p.placing_frame g r c j k t a
  rw [h]

/-! ### MOVE items (R154) -/

/-- The record of a grant that a MOVE item takes to its entry. -/
def Grant.movedTo (r : Grant) (e : LineupEntry) : Grant :=
  { r with
    state := .moving
    level := if r.dir = .forward then e.level else r.level
    floor := if r.cls = .data then e.floor else r.floor }

/-- The fit test of a MOVE item: both carriers count (R90). -/
def Part.moveFits (p : Part) (e : LineupEntry) (r : Grant) : Bool :=
  p.fits (p.composite - p.contribution e.grant +
    (p.carrierWeight (e.level.getD 0) ⟨r.first, r.width⟩ + p.carrierWeight (e.level.getD 0) e.place))

variable {t : TenantRecord}

theorem Part.issueItem_of_none (h : p.activeFor e = none) : p.issueItem (.move e) = .failed := by
  simp only [Part.issueItem, Part.issueMove, h]

theorem Part.issueItem_of_closed (h : p.activeFor e = some r) (hok : p.itemPlaceOk e (some r) = false) :
    p.issueItem (.move e) = .failed := by
  simp [Part.issueItem, Part.issueMove, h, hok]

theorem Part.issueItem_of_unfit (h : p.activeFor e = some r) (hok : p.itemPlaceOk e (some r) = true)
    (hdir : r.dir = .forward) (hfits : p.moveFits e r = false) : p.issueItem (.move e) = .unfit := by
  rw [Part.moveFits, LineupEntry.place, ← Part.carriersWeight_two] at hfits
  simp [Part.issueItem, Part.issueMove, h, hok, hdir, hfits]

theorem Part.issueItem_of_move (h : p.activeFor e = some r) (hok : p.itemPlaceOk e (some r) = true)
    (hfits : r.dir = .forward → p.moveFits e r = true) (ht : p.tenant e.tenant = some t) :
    p.issueItem (.move e) = .issued (p.placing e.grant (r.movedTo e) e.place (p.itemJob e.grant .move e) e.tenant t
      p.alloc) := by
  have hpower : (r.dir == .forward && !p.fits (p.composite - p.contribution e.grant +
      p.carriersWeight (e.level.getD 0) [⟨r.first, r.width⟩, ⟨e.first, e.width⟩])) = false := by
    rw [Bool.and_eq_false_iff, Bool.not_eq_false', Part.carriersWeight_two]
    exact or_iff_not_imp_left.mpr fun hdir => hfits (by simpa using hdir)
  simp only [Part.issueItem, Part.issueMove, h, hok, hpower, Bool.not_true, Bool.false_eq_true, if_false, beq_iff_eq]
  rw [Part.claimWindow_eq, Part.placing, Part.setTenant_self ht]
  rfl

/-- A MOVE item that stands and is clear: its grant's record is `r`, its tenant's `t`. -/
structure Part.Moves (p : Part) (e : LineupEntry) (r : Grant) (t : TenantRecord) : Prop where
  active : p.activeFor e = some r
  tenant : p.tenant e.tenant = some t
  cls : e.cls = r.cls
  voice : e.cls = .voice → e.width = 1 ∧ 1 ≤ e.first
  place : p.itemPlaceOk e (some r) = true

/-- The part that a MOVE item leaves. -/
def Part.moved (p : Part) (b : Batch) (rest : List BatchItem) (e : LineupEntry) (r : Grant) (t : TenantRecord) : Part :=
  { p.placing e.grant (r.movedTo e) e.place (p.itemJob e.grant .move e) e.tenant t p.alloc with
    store := { p.store with batch := some (b.dropHead rest) } }

theorem Part.grants_moved (p : Part) (b : Batch) (rest : List BatchItem) (e : LineupEntry) (r : Grant)
    (t : TenantRecord) : (p.moved b rest e r t).grants = p.grants.set e.grant (some (r.movedTo e)) :=
  p.placing_grants ..

theorem Part.engine_moved (p : Part) (b : Batch) (rest : List BatchItem) (e : LineupEntry) (r : Grant)
    (t : TenantRecord) : (p.moved b rest e r t).engine = p.engine.withJob (p.itemJob e.grant .move e) :=
  p.placing_engine ..

theorem Part.Moves.tenants (h : p.Moves e r t) : (p.moved b rest e r t).tenants = p.tenants := by
  refine (p.placing_tenants e.grant (r.movedTo e) e.place (p.itemJob e.grant .move e) e.tenant t p.alloc).trans ?_
  rw [Part.setTenant_self h.tenant]

theorem Part.Moves.grant (h : p.Moves e r t) (k : Nat) :
    (p.moved b rest e r t).grant k = if k = e.grant then some (r.movedTo e) else p.grant k := by
  obtain ⟨hr, -⟩ := Part.activeFor_eq_some.mp h.active
  refine (Part.grant_congr (p := p.setGrant e.grant (some (r.movedTo e))) (p.grants_moved b rest e r t) k).trans ?_
  rw [Part.grant_setGrant]
  simp only [Part.lt_of_grant hr, and_true]

theorem Part.Moves.slices (h : p.Moves e r t) :
    (p.moved b rest e r t).slices = claimSlices e.grant e.cls e.place p.slices := by
  rw [h.cls]
  exact p.placing_slices ..

/-- The window lies in the band of the grant. -/
theorem Part.Moves.inBand (h : p.Moves e r t) (hn : windowCovers e.cls e.first e.width n = true) :
    p.inBand r.dir n = true := by
  obtain ⟨-, -, -, hdir, -⟩ := Part.activeFor_eq_some.mp h.active
  rw [hdir]
  exact Part.inBand_of_itemPlaceOk h.place h.voice hn

/-- The item raises no UNDER_COMMIT: a grant that moves counts as it did. -/
theorem Part.Moves.commitTest (h : p.Moves e r t) : p.commitTest (p.moved b rest e r t) = p.moved b rest e r t := by
  obtain ⟨hr, hs, -⟩ := Part.activeFor_eq_some.mp h.active
  refine Part.commitTest_of_same_delivered h.tenants fun k =>
    Part.delivered_of_set (p.grants_moved b rest e r t) (fun k => ?_) k
  rw [hr]
  exact Grant.capacityIn_of_service (x := r.movedTo e) (y := r) (by simp [Grant.movedTo]) (by simp [hs]) rfl rfl k

/-- A MOVE item that stands, is clear and fits is issued: the batch goes on with the rest. -/
theorem Part.HeadItem.issueHead_of_move (h : p.HeadItem b (.move e) rest) (hready : b.headReady = true)
    (hm : p.Moves e r t) (hfits : r.dir = .forward → p.moveFits e r = true) :
    p.issueHead = p.moved b rest e r t := by
  refine h.issueHead_of_issued (j := p.itemJob e.grant .move e) hready
    (Part.issueItem_of_move hm.active hm.place hfits hm.tenant) (Part.store_placing ..) ?_ rfl
  rw [Part.placing_engine]
  exact Engine.mem_withJob ..

/-! ### ACTIVATE items (R42, R154) -/

/-- The record that an ACTIVATE item fills from its entry, before its upkeep. -/
def Part.restored (p : Part) (t : TenantRecord) (e : LineupEntry) : Grant :=
  let profile := runningProfile e.cls t.maxProfile (p.effectiveSnr t.margin (List.range' e.first e.width))
  ⟨e.tenant, e.cls, e.dir, e.first, e.width, e.floor, e.level, profile, capacityOf e.cls e.width profile, .arriving,
    false, false⟩

/-- An ACTIVATE item's entry and tenant, with the record `g` free for it. -/
structure Part.Activates (p : Part) (e : LineupEntry) (t : TenantRecord) (g : Nat) : Prop where
  tenant : p.tenant e.tenant = some t
  stands : p.entryStands e = true
  free : p.lowestFree = some g
  room : t.grants.length < classLimit t.cls
  place : p.itemPlaceOk e none = true
  fits : e.dir = .forward → p.fits (p.composite + p.entryWeight e) = true

/-- The part with the grant of an ACTIVATE item, before its upkeep. -/
def Part.activating (p : Part) (e : LineupEntry) (t : TenantRecord) (g : Nat) : Part :=
  p.placing g (p.restored t e) e.place (p.itemJob g .activate e) e.tenant { t with grants := t.grants ++ [g] } p.alloc

theorem Part.Activates.issueItem {g : Nat} (h : p.Activates e t g) :
    p.issueItem (.activate e) = .issued ((p.activating e t g).upkeep g) := by
  have hroom : ¬classLimit t.cls ≤ t.grants.length := Nat.not_le.mpr h.room
  have hpower : (e.dir == .forward && !p.fits (p.composite + p.entryWeight e)) = false := by
    rw [Bool.and_eq_false_iff, Bool.not_eq_false']
    exact or_iff_not_imp_left.mpr fun hdir => h.fits (by simpa using hdir)
  simp only [Part.issueItem, Part.issueActivate, h.tenant, h.free, h.stands, h.place, hroom, hpower, Bool.not_true,
    decide_false, Bool.or_self, Bool.false_eq_true, if_false]
  rw [Part.claimWindow_eq]
  rfl

/-- Upkeep of a live grant writes its judged record. -/
theorem Part.grants_upkeep_of_live {g : Nat} {x : Grant} (hx : p.grant g = some x) (ht : p.tenant x.tenant = some t)
    (hs : x.state ≠ .leaving) : (p.upkeep g).grants = p.grants.set g (some (p.judgedAt t x)) := by
  rw [Part.upkeep_of_live hx ht hs]
  split
  · unfold Part.markAttempt
    split <;> rfl
  · rfl

/-- The part that an ACTIVATE item leaves. -/
def Part.activated (p : Part) (b : Batch) (rest : List BatchItem) (e : LineupEntry) (t : TenantRecord) (g : Nat) :
    Part :=
  { (p.activating e t g).upkeep g with store := { p.store with batch := some (b.dropHead rest) } }

section Activated

variable (p) (b) (rest) (e) (t) (g : Nat)

theorem Part.store_upkeep_activating : ((p.activating e t g).upkeep g).store = p.store := by
  rw [(Part.upkept_upkeep (p.activating e t g) g).frame]
  exact Part.store_placing ..

theorem Part.engine_upkeep_activating :
    ((p.activating e t g).upkeep g).engine = p.engine.withJob (p.itemJob g .activate e) := by
  rw [(Part.upkept_upkeep (p.activating e t g) g).frame]
  exact Part.placing_engine ..

theorem Part.tenants_activated : (p.activated b rest e t g).tenants =
    (p.setTenant e.tenant { t with grants := t.grants ++ [g] }).tenants := by
  rw [Part.activated, (Part.upkept_upkeep (p.activating e t g) g).frame]
  exact Part.placing_tenants ..

theorem Part.slices_activated : (p.activated b rest e t g).slices = claimSlices g e.cls e.place p.slices := by
  rw [Part.activated, (Part.upkept_upkeep (p.activating e t g) g).frame]
  exact Part.placing_slices ..

end Activated

/-- The grant of the item is as its entry has it, with the profile of its upkeep. -/
theorem Part.Activates.grants {g : Nat} (h : p.Activates e t g) :
    ∃ x, (p.activated b rest e t g).grants = p.grants.set g (some x) ∧ x.tenant = e.tenant ∧ x.cls = e.cls ∧
      x.dir = e.dir ∧ x.first = e.first ∧ x.width = e.width ∧ x.floor = e.floor ∧ x.level = e.level ∧
      x.state = .arriving := by
  obtain ⟨hg, -⟩ := Part.grant_of_lowestFree h.free
  have hgrant : (p.activating e t g).grant g = some (p.restored t e) := by
    rw [Part.activating, Part.grant_placing, if_pos ⟨rfl, hg⟩]
  have htenant : (p.activating e t g).tenant (p.restored t e).tenant = some { t with grants := t.grants ++ [g] } :=
    p.tenant_placing _ _ _ _ _ _ _ h.tenant
  refine ⟨(p.activating e t g).judgedAt { t with grants := t.grants ++ [g] } (p.restored t e), ?_,
    rfl, rfl, rfl, rfl, rfl, rfl, rfl, rfl⟩
  refine (Part.grants_upkeep_of_live hgrant htenant (by simp [Part.restored])).trans ?_
  rw [Part.activating, Part.placing_grants, List.set_set]

/-- An ACTIVATE item that stands, is clear and fits is issued: the batch goes on with the rest. -/
theorem Part.HeadItem.issueHead_of_activate {g : Nat} (h : p.HeadItem b (.activate e) rest)
    (hready : b.headReady = true) (ha : p.Activates e t g) : p.issueHead = p.activated b rest e t g := by
  refine h.issueHead_of_issued (j := p.itemJob g .activate e) hready ha.issueItem
    (Part.store_upkeep_activating ..) ?_ rfl
  rw [Part.engine_upkeep_activating]
  exact Engine.mem_withJob ..

/-- The item raises no UNDER_COMMIT: its tenant's commitment stands, and an ARRIVING grant delivers nothing. -/
theorem Part.Activates.commitTest {g : Nat} (h : p.Activates e t g) :
    p.commitTest (p.activated b rest e t g) = p.activated b rest e t g := by
  obtain ⟨-, hnone⟩ := Part.grant_of_lowestFree h.free
  obtain ⟨x, hgrants, -, -, -, -, -, -, -, hstate⟩ := h.grants
  refine Part.commitTest_of_delivered h.tenant
    (t' := { t with grants := t.grants ++ [g] }) (p.tenants_activated b rest e t g) rfl fun k => ?_
  refine Part.delivered_of_set hgrants (fun k => ?_) k
  rw [hnone, Grant.capacityIn_of_arriving hstate]

/-! ### HOLD_END of an item's job (R155) -/

/-- DONE of an ACTIVATE item's job: the batch counts it, and its waiting head may be tried again. -/
theorem Part.finish_of_itemJob {j : Job} (hb : p.store.batch = some b) (hr : p.grant j.grant = some r)
    (hk : j.kind = .activate) (hmark : j.batch = some .b) : (p.finish j).store = { p.store with
      batch := some (b.jobEnded { b.counts with done := b.counts.done + 1 }) } := by
  have hclosing : ((p.finishing j r).closing j.id r.tenant).store = p.store := by
    rw [Part.closing_frame, Part.finishing_of_activate hk]
    rfl
  rw [Part.finish_of_grant hr]
  generalize (p.finishing j r).closing j.id r.tenant = q at hclosing
  have hreport : q.reportEnd j true = q.mapBatch fun b => b.jobEnded { b.counts with done := b.counts.done + 1 } := by
    simp [Part.reportEnd, hmark, hk]
  rw [hreport, Part.mapBatch_of_batch (by rw [hclosing, hb]), hclosing]

theorem Part.endHold_of_itemJob {c : Nat} {j : Job} {x : Run} (hq : p.engine.quiet = false)
    (hb : p.store.batch = some b) (hphase : b.phase = .b) (hitems : b.items ≠ []) (hc : p.jobIn c = some j)
    (hx : j.run = some x) (hhold : x.phase = .hold) (hr : p.grant j.grant = some r) (hk : j.kind = .activate)
    (hmark : j.batch = some .b) : (Part.endHold c p).store = { p.store with
      batch := some (b.jobEnded { b.counts with done := b.counts.done + 1 }) } := by
  have hin := Part.phaseIn_eq hq hc hx
  rw [hhold] at hin
  have hstore := Part.finish_of_itemJob (p := p.elapse x.left) hb hr hk hmark
  have hend : Part.endHold c p = ((p.elapse x.left).finish j).progressBatch := by simp only [Part.endHold, hin]
  rw [hend, Part.progressBatch_of_phaseB (b := b.jobEnded { b.counts with done := b.counts.done + 1 })
    (congrArg (·.batch) hstore) hphase, if_neg fun hover => hitems hover.1, hstore]
  rfl

/-! ### What fails an item (R154) -/

/-- A carrier or guard slice out of the band, or closed, fails an item. -/
theorem Part.itemPlaceOk_of_bad (hdir : r.dir = e.dir)
    (h : (e.first ≤ n ∧ n < e.first + e.width ∧ (¬p.inBand r.dir n = true ∨ ((p.slice n).available = false ∧
        ¬(r.cls = .data ∧ r.first ≤ n ∧ n < r.first + r.width)))) ∨
      (e.cls = .voice ∧ (n = e.first - 1 ∨ n = e.first + 1) ∧
        (¬p.inBand r.dir n = true ∨ (p.slice n).guardEligible = false))) : p.itemPlaceOk e (some r) = false := by
  refine Bool.eq_false_iff.mpr fun hok => ?_
  obtain ⟨hcarrier, hguard⟩ := Part.itemPlaceOk_iff.mp hok
  rw [← hdir] at hcarrier hguard
  rcases h with ⟨hlo, hhi, hbad⟩ | ⟨hcls, hn, hbad⟩
  · obtain ⟨hin, hopen⟩ := hcarrier n hlo hhi
    obtain ⟨hclosed, hother⟩ := hbad.resolve_left (not_not.mpr hin)
    rcases hopen with ha | ⟨x, hx, hown⟩
    · simp [ha] at hclosed
    · cases hx
      exact hother hown
  · obtain ⟨hin, hopen⟩ := hguard n (by simpa [hcls, guardSlices] using hn)
    have hclosed := hbad.resolve_left (not_not.mpr hin)
    simp [hopen] at hclosed

/-- A grant that is gone, or in a cycle, or another's, fails an item. -/
theorem Part.activeFor_of_other (h : ∀ r, p.grant e.grant = some r → r.state ≠ .active ∨ r.tenant ≠ e.tenant ∨
    r.dir ≠ e.dir) : p.activeFor e = none := by
  refine Option.eq_none_iff_forall_ne_some.mpr fun r hr => ?_
  obtain ⟨hr, hstate, htenant, hdir, -⟩ := Part.activeFor_eq_some.mp hr
  rcases h r hr with h | h | h
  · exact h hstate
  · exact h htenant
  · exact h hdir

/-- A place that fails the grant that has the item's id fails the item. -/
theorem Part.issueItem_of_bad (hr : p.grant e.grant = some r)
    (h : r.dir = e.dir → p.itemPlaceOk e (some r) = false) : p.issueItem (.move e) = .failed := by
  cases hact : p.activeFor e with
  | none => exact Part.issueItem_of_none hact
  | some x =>
    obtain ⟨hx, -, -, hdir, -⟩ := Part.activeFor_eq_some.mp hact
    cases hr.symm.trans hx
    exact Part.issueItem_of_closed hact (h hdir)

/-! ### LINEUP_ITEM_ISSUE -/

/-- An ACTIVATE item at the head is issued. -/
theorem State.issue_of_activate {s : State} {g : Nat} (h : s.part.HeadItem b (.activate e) rest)
    (hready : b.headReady = true) (ha : s.part.Activates e t g) :
    exec .lineupItemIssue s = .next { s with part := s.part.activated b rest e t g } := by
  have hexec := State.act_of_eq (h.issueHead_of_activate hready ha)
  rw [ha.commitTest] at hexec
  exact hexec

/-- A MOVE item at the head is issued. -/
theorem State.issue_of_move {s : State} (h : s.part.HeadItem b (.move e) rest) (hready : b.headReady = true)
    (hm : s.part.Moves e r t) (hfits : r.dir = .forward → s.part.moveFits e r = true) :
    exec .lineupItemIssue s = .next { s with part := s.part.moved b rest e r t } := by
  have hexec := State.act_of_eq (h.issueHead_of_move hready hm hfits)
  rw [hm.commitTest] at hexec
  exact hexec

/-- Settles O50: an ACTIVATE item, a MOVE item, and the end of an item's job. -/
theorem itemsIssueWaitOrFail : Obligations.ItemsIssueWaitOrFail := by
  unfold Obligations.ItemsIssueWaitOrFail
  refine ⟨fun s b e rest t g _ hb hphase hitems hwaits hfree _ ht hs hgen hlowest hroom hvoice hok hfits => ?_,
    fun s b e rest _ hb hphase hitems hfree => ?_,
    fun s c b j r x hq hb hphase hitems hc hr hhold hk hg hmark => ?_⟩
  · have hhead : s.part.HeadItem b (.activate e) rest := ⟨hb, hphase, hitems, hfree⟩
    have hactivates : s.part.Activates e t g :=
      ⟨ht, Part.entryStands_iff.mpr ⟨⟨t, ht, hs⟩, hgen⟩, hlowest, hroom, hok, hfits⟩
    obtain ⟨hg, -⟩ := Part.grant_of_lowestFree hlowest
    obtain ⟨x, hgrants, htenant, hcls, hdir, hfirst, hwidth, hfloor, hlevel, hstate⟩ :=
      hactivates.grants (b := b) (rest := rest)
    obtain ⟨hcarrier, -⟩ := Part.itemPlaceOk_iff.mp hok
    have hgrant := Part.grant_congr (p := s.part.setGrant g (some x)) hgrants
    refine ⟨_, x, State.issue_of_activate hhead (Batch.headReady_iff.mpr (.inl hwaits)) hactivates, ?_, htenant, hcls,
      hdir, hfirst, hwidth, hfloor, hlevel, hstate, fun h hne => ?_, ?_, Part.engine_upkeep_activating .., ?_, ?_,
      fun n hn => ?_⟩
    · rw [hgrant, Part.grant_setGrant, if_pos ⟨rfl, hg⟩]
    · rw [hgrant, Part.grant_setGrant_ne _ _ _ _ hne]
    · simp only [Part.activated, Batch.dropHead, hwaits, Bool.false_eq_true, if_false]
    · exact Part.claimedSince_of_claimSlices (s.part.slices_activated b rest e t g) (fun h => (hvoice h).symm)
        fun n hlo hhi => (hcarrier n hlo hhi).2.resolve_right (by simp)
    · exact (Part.tenant_congr (s.part.tenants_activated b rest e t g) _).trans (Part.tenant_setTenant_self _ ht)
    · exact Part.inBand_iff.mp (Part.inBand_of_itemPlaceOk hok hvoice hn)
  · intro p ready waiting place inside stands fits
    have hhead : p.HeadItem b (.move e) rest := ⟨hb, hphase, hitems, hfree⟩
    have hmoves : ∀ r, stands r → ∃ t, p.Moves e r t := fun r hs => by
      obtain ⟨hr, hstate, htenant, hdir, hcls, hvoice, -, hgen, ⟨t, ht, hretire⟩, hok⟩ := hs
      exact ⟨t, Part.activeFor_eq_some.mpr ⟨hr, hstate, htenant, hdir,
        Part.entryStands_iff.mpr ⟨⟨t, ht, hretire⟩, hgen⟩⟩, ht, hcls, hvoice, hok⟩
    have hunfit : ∀ r, stands r → r.dir = .forward → fits r = false → p.issueItem (.move e) = .unfit :=
      fun r hs hdir hfits => by
        obtain ⟨t, hm⟩ := hmoves r hs
        exact Part.issueItem_of_unfit hm.active hm.place hdir hfits
    refine ⟨fun r hready hs hfits => ?_, fun r hready hs hdir hfits ⟨j, hj, hmark⟩ => ?_, fun hwaits hretry => ?_,
      fun hready hrest hjobs hlost => ?_⟩
    · obtain ⟨t, hm⟩ := hmoves r hs
      obtain ⟨hstays, hclaimed, hguards⟩ := Part.claims_of_claimSlices (hm.slices (b := b) (rest := rest))
        fun hcls => (hm.voice hcls).symm
      exact ⟨fun n hn => Part.inBand_iff.mp (hm.inBand hn), _,
        State.issue_of_move hhead (Batch.headReady_iff.mpr hready) hm hfits, (hm.grant _).trans (if_pos rfl),
        fun h hne => (hm.grant h).trans (if_neg hne), p.engine_moved b rest e r t, rfl, hm.tenants, hstays, hclaimed,
        hguards⟩
    · exact State.act_of_kept (hhead.issueHead_of_unfit (Batch.headReady_iff.mpr hready) (hunfit r hs hdir hfits) hj
        hmark) rfl rfl
    · exact State.act_of_fixed (hhead.issueHead_of_waiting hwaits hretry)
    · subst hrest
      refine State.act_of_kept (hhead.issueHead_of_lost (Batch.headReady_iff.mpr hready) ?_ hjobs) rfl rfl
      simp only [inside, ← Part.inBand_iff] at hlost
      rcases hlost with hother | ⟨r, n, hr, hbad⟩ | ⟨r, hs, hdir, hfits⟩
      · exact .inl (Part.issueItem_of_none (Part.activeFor_of_other hother))
      · exact .inl (Part.issueItem_of_bad hr fun hdir => Part.itemPlaceOk_of_bad hdir hbad)
      · exact .inr (hunfit r hs hdir hfits)
  · obtain ⟨raised, hcommit, -⟩ := s.part.commitTest_frame (Part.endHold c s.part)
    refine ⟨_, State.act_of_eq rfl, ?_⟩
    rw [hcommit]
    exact Part.endHold_of_itemJob hq hb hphase hitems hc hr hhold hg hk hmark

end Sys2Proof.Machine
end

section
/-! The select periods and the link-reset input (chapter 9), equation by equation, and the frames that a SEND brings:
O9, O10, O11 and O12. -/

namespace Sys2Proof.Machine

/-! ### The status byte (R159) -/

/-- Five flags in bits 0 to 4 of a byte, and 0 above. -/
theorem byte_of_five_flags : ∀ a b c d e : Bool,
    let x := byte (boolBit a 0 + boolBit b 1 + boolBit c 2 + boolBit d 3 + boolBit e 4)
    x.getLsbD 0 = a ∧ x.getLsbD 1 = b ∧ x.getLsbD 2 = c ∧ x.getLsbD 3 = d ∧ x.getLsbD 4 = e ∧ x.toNat < 32 := by
  decide

theorem Link.hasRoom_iff {l : Link} : l.hasRoom = true ↔ l.outbound.length + l.outstanding.length < 8 := by
  simp [Link.hasRoom]

theorem Link.inSpace_iff {l : Link} : l.inSpace = true ↔ l.inbound = [] ∧ l.hasRoom = true := by
  simp [Link.inSpace]

theorem Link.outReady_iff {l : Link} : l.outReady = true ↔ l.outbound ≠ [] := by
  simp [Link.outReady]

/-! ### The select periods (R158, R161, R165, R168) -/

/-- The link after a period that reports LINK_ERR and clears it, with the bytes that the period sent (R158, R159). -/
def Link.reported (l : Link) (sent : List Byte) : Link := { l with linkErr := false, dataOut := sent }

/-- The bytes that a period sends when it carries no frame: the status byte, and 0x00 for each further byte. -/
def State.idleBytes (s : State) (n : Nat) : List Byte := s.statusByte :: List.replicate n 0

theorem State.transaction_of_held {s : State} (h : s.link.held = true) (cmd : Byte) (bytes : List Byte) :
    s.transaction cmd bytes =
      .next { s with link := { s.link with dataOut := List.replicate (bytes.length + 1) 0 } } := by
  simp only [State.transaction, h, if_true]

theorem exec_send_of_space {s : State} (hheld : s.link.held = false) (hspace : s.link.inSpace = true)
    (bytes : List Byte) :
    exec (.send bytes) s = .next { s with link :=
      { (s.link.reported s.link.dataOut).receive bytes with dataOut := s.idleBytes bytes.length } } := by
  change s.transaction 0xA5 bytes = _
  rw [State.transaction, if_neg (Bool.eq_false_iff.mp hheld)]
  dsimp only
  rw [if_pos BEq.rfl, if_pos hspace]
  rfl

theorem exec_send_of_no_space {s : State} (hheld : s.link.held = false) (hspace : s.link.inSpace = false)
    (bytes : List Byte) :
    exec (.send bytes) s = .next { s with link := s.link.reported (s.idleBytes bytes.length) } := by
  change s.transaction 0xA5 bytes = _
  rw [State.transaction, if_neg (Bool.eq_false_iff.mp hheld)]
  dsimp only
  rw [if_pos BEq.rfl, if_neg (Bool.eq_false_iff.mp hspace)]
  rfl

theorem exec_fetch_of_none {s : State} (hheld : s.link.held = false) (hout : s.link.outbound = []) (n : Nat) :
    exec (.fetch n) s = .next { s with link := s.link.reported (s.idleBytes n) } := by
  change s.transaction 0x5A (List.replicate n 0) = _
  simp [State.transaction, hheld, hout, Link.reported, State.idleBytes]

/-- The oldest frame is sent as far as the clocks reach, and leaves when they reach its end (R165). -/
theorem exec_fetch_of_frame {s : State} {frame : List Byte} {rest : List (List Byte)} (hheld : s.link.held = false)
    (hout : s.link.outbound = frame :: rest) (n : Nat) :
    exec (.fetch n) s = .next { s with link :=
      { s.link.reported (s.statusByte :: (frame ++ List.replicate n 0).take n) with
        outbound := if frame.length ≤ n then rest else s.link.outbound } } := by
  change s.transaction 0x5A (List.replicate n 0) = _
  simp [State.transaction, hheld, hout, Link.reported]

theorem exec_statusRead_of_other {s : State} {cmd : Byte} (hheld : s.link.held = false) (hsend : cmd ≠ 0xA5)
    (hfetch : cmd ≠ 0x5A) (n : Nat) :
    exec (.statusRead cmd n) s = .next { s with link := s.link.reported (s.idleBytes n) } := by
  change s.transaction cmd (List.replicate n 0) = _
  rw [State.transaction, if_neg (Bool.eq_false_iff.mp hheld)]
  dsimp only
  rw [if_neg (beq_iff_eq.not.mpr hsend), if_neg (beq_iff_eq.not.mpr hfetch), List.length_replicate]
  rfl

/-- Settles O9: the flags of the status byte, a status read, and the FETCH of an empty queue or of its oldest
frame. -/
theorem statusReadAndFetchReport : Obligations.StatusReadAndFetchReport := by
  refine ⟨fun s => ?_, fun n s hheld => ?_⟩
  · obtain ⟨hspace, hready, hevent, herr, hquiet, hlow⟩ := byte_of_five_flags s.link.inSpace s.link.outReady
      s.part.events.pending s.link.linkErr s.part.engine.quiet
    refine ⟨?_, ?_, hevent, herr, hquiet, hlow, fun cmd n hheld => exec_statusRead_of_other hheld (n := n)⟩
    · rw [← Link.hasRoom_iff, ← Link.inSpace_iff]
      exact Bool.eq_iff_iff.mp hspace
    · rw [← Link.outReady_iff]
      exact Bool.eq_iff_iff.mp hready
  · cases hout : s.link.outbound with
    | nil => exact ⟨_, exec_fetch_of_none hheld hout n, rfl, rfl, rfl, fun _ => ⟨hout, rfl⟩, nofun⟩
    | cons frame rest =>
      refine ⟨_, exec_fetch_of_frame hheld hout n, rfl, rfl, rfl, nofun, ?_⟩
      rintro _ _ ⟨⟩
      refine ⟨fun hwhole => ⟨if_pos hwhole, ?_⟩, fun hpart => ⟨(if_neg (Nat.not_le.mpr hpart)).trans hout, ?_⟩⟩
      · simp [Link.reported, List.take_append, List.take_of_length_le hwhole]
      · simp [Link.reported, List.take_append, Nat.sub_eq_zero_of_le hpart.le]

/-! ### The link-reset input (R64, R168) -/

theorem Part.attemptList_detachAll (p : Part) : p.detachAll.attemptList = p.attemptList := by
  unfold Part.attemptList Part.detachAll
  rw [List.filterMap_map]
  exact congrArg (List.filterMap · _) (funext fun w => by cases w <;> rfl)

theorem Part.placementQueue_detachAll (p : Part) :
    p.detachAll.placementQueue = p.placementQueue.map fun i => { i with detached := true } := by
  unfold Part.placementQueue Part.detachAll
  rw [List.filterMap_map, List.map_filterMap]
  exact congrArg (List.filterMap · _) (funext fun w => by cases w <;> rfl)

/-- Settles O12: the state that LINK_RESET leaves, the periods that a held link ignores, and the release of the input. -/
theorem linkResetClearsTheLink : Obligations.LinkResetClearsTheLink := by
  refine fun s => ⟨⟨_, rfl, rfl, rfl, rfl, rfl, rfl, ?_, ?_, rfl, rfl, s.part.attemptList_detachAll, ?_, ?_, rfl⟩,
    fun hheld cmd bytes n => ⟨State.transaction_of_held hheld _ _, (State.transaction_of_held hheld _ _).trans ?_,
      (State.transaction_of_held hheld _ _).trans ?_⟩, rfl⟩
  · simp [Link.reset]
  · simp [Link.reset]
  · simp [Part.placementQueue_detachAll]
  · simp [Part.placementQueue_detachAll]
  · rw [List.length_replicate]
  · rw [List.length_replicate]

/-! ### The frame of a SEND (R161, R162) -/

theorem readFrame_of_sync {b : Byte} (rest : List Byte) (h : b ≠ 0xC3) : readFrame (b :: rest) = .discarded :=
  if_pos (bne_iff_ne.mpr h)

theorem readFrame_of_long {len : Byte} (rest : List Byte) (h : 250 < len.toNat) :
    readFrame (0xC3 :: len :: rest) = .discarded := by
  simp [readFrame, h]

/-- Fewer bytes than TAG, KIND, payload and CHECK take. -/
theorem readFrame_of_short {len : Byte} {rest : List Byte} (hlen : len.toNat ≤ 250) (h : rest.length < len.toNat + 4) :
    readFrame (0xC3 :: len :: rest) = .discarded := by
  have hall : rest.take (len.toNat + 4) = rest := List.take_of_length_le h.le
  match rest with
  | [] => simp [readFrame, Nat.not_lt.mpr hlen]
  | [_] => simp [readFrame, Nat.not_lt.mpr hlen]
  | tag :: kind :: body =>
    have hbody : (body.drop len.toNat).length < 2 := by
      simp only [List.length_cons, List.length_drop] at h ⊢
      omega
    simp only [readFrame, hall, Nat.not_lt.mpr hlen, bne_self_eq_false, Bool.false_eq_true, if_false]
    split
    · next hi lo heq => simp [heq] at hbody
    · rfl

/-- A frame of full length is judged by its CHECK, and what follows it is ignored. -/
theorem readFrame_of_full {len : Byte} (tag kind : Byte) {payload : List Byte} (hi lo : Byte) (rest : List Byte)
    (hlen : len.toNat ≤ 250) (hp : payload.length = len.toNat) :
    readFrame (0xC3 :: len :: tag :: kind :: (payload ++ hi :: lo :: rest)) =
      if hi.toNat * 256 + lo.toNat == checkSum (len :: tag :: kind :: payload) then .checked tag kind payload
      else .discarded := by
  have hframe : (payload ++ hi :: lo :: rest).take (len.toNat + 2) = payload ++ [hi, lo] := by
    rw [← hp, List.take_length_add_append]
    rfl
  simp only [readFrame, List.take_succ_cons, hframe, List.take_left' hp, List.drop_left' hp, bne_self_eq_false,
    Bool.false_eq_true, if_false, if_neg (Nat.not_lt.mpr hlen)]
  rfl

/-- The two CHECK bytes of a sum carry it, high byte first. -/
theorem be2_checkSum (bs : List Byte) :
    (byte (checkSum bs / 256)).toNat * 256 + (byte (checkSum bs)).toNat = checkSum bs := by
  have h : checkSum bs < 65536 := Nat.mod_lt _ (by decide)
  simp only [byte, BitVec.toNat_ofNat]
  omega

/-- The reader takes back the tag, the KIND and the payload from a well-made frame, whatever follows it. -/
theorem readFrame_requestFrame (tag kind : Byte) {payload : List Byte} (extra : List Byte) (hp : payload.length ≤ 250) :
    readFrame (requestFrame tag kind payload ++ extra) = .checked tag kind payload := by
  have hlen : (byte payload.length).toNat = payload.length := Nat.mod_eq_of_lt (by omega)
  have hread := readFrame_of_full tag kind (byte (checkSum (byte payload.length :: tag :: kind :: payload) / 256))
    (byte (checkSum (byte payload.length :: tag :: kind :: payload))) extra (hlen.trans_le hp) hlen.symm
  rw [if_pos (beq_iff_eq.mpr (be2_checkSum _))] at hread
  simpa [requestFrame, be2] using hread

/-! ### The SEND that is taken (R161 to R164) -/

theorem Link.receive_of_discarded {l : Link} {bytes : List Byte} (h : readFrame bytes = .discarded) :
    l.receive bytes = { l with inbound := [], linkErr := true } := by
  simp only [Link.receive, h]

/-- A checked frame leaves the slot empty, as it was, and is acted on by its tag and its KIND. -/
theorem Link.receive_of_checked {l : Link} {bytes payload : List Byte} {tag kind : Byte} (hempty : l.inbound = [])
    (h : readFrame bytes = .checked tag kind payload) : l.receive bytes = l.check tag kind payload := by
  simp only [Link.receive, h, ← hempty]

theorem exec_send_of_checked {s : State} {bytes payload : List Byte} {tag kind : Byte} (hheld : s.link.held = false)
    (hspace : s.link.inSpace = true) (h : readFrame bytes = .checked tag kind payload) :
    exec (.send bytes) s = .next { s with link :=
      { (s.link.reported s.link.dataOut).check tag kind payload with dataOut := s.idleBytes bytes.length } } := by
  rw [exec_send_of_space hheld hspace, Link.receive_of_checked (l := s.link.reported _) (Link.inSpace_iff.mp hspace).1 h]

theorem Link.check_of_owed {l : Link} {tag : Byte} (kind : Byte) (payload : List Byte) (h : tag ∈ l.outstanding) :
    l.check tag kind payload = l.push (replyFrame tag kind (refuse .tagInUse)) := by
  simp [Link.check, h]

theorem Link.check_of_unknown {l : Link} {tag kind : Byte} {payload : List Byte} (hfree : tag ∉ l.outstanding)
    (h : requestOf kind tag payload = none) :
    l.check tag kind payload = l.push (replyFrame tag kind (refuse .badKind)) := by
  simp [Link.check, hfree, h]

theorem Link.check_of_request {l : Link} {tag kind : Byte} {payload : List Byte} {cmd : Instr}
    (hfree : tag ∉ l.outstanding) (h : requestOf kind tag payload = some cmd) :
    l.check tag kind payload = { l.takeTag tag with delivered := l.delivered ++ [⟨cmd, false⟩] } := by
  simp [Link.check, hfree, h]

/-- A taken SEND whose bytes read as no good frame sets LINK_ERR, in the act that empties the slot (R162). -/
theorem exec_send_of_discarded {s : State} {bytes : List Byte} (hheld : s.link.held = false)
    (hspace : s.link.inSpace = true) (h : readFrame bytes = .discarded) :
    exec (.send bytes) s = .next { s with link := { s.link with
      inbound := [], linkErr := true, dataOut := s.idleBytes bytes.length } } := by
  rw [exec_send_of_space hheld hspace, Link.receive_of_discarded h]
  rfl

/-- Settles O10: each kind of bad frame is read as discarded. -/
theorem sendDiscardsBadFrames : Obligations.SendDiscardsBadFrames := by
  intro bytes s hheld hspace hbad
  refine exec_send_of_discarded hheld hspace ?_
  rcases hbad with ⟨b, rest, rfl, hsync⟩ | ⟨len, rest, rfl, hlong⟩ | rfl | ⟨len, rest, rfl, hlen, hshort⟩ |
    ⟨len, tag, kind, payload, hi, lo, rest, rfl, hlen, hp, hcheck⟩
  · exact readFrame_of_sync rest hsync
  · exact readFrame_of_long rest hlong
  · rfl
  · exact readFrame_of_short hlen hshort
  · rw [readFrame_of_full tag kind hi lo rest hlen hp, if_neg]
    simpa [checkSum, Nat.add_assoc] using hcheck

/-- A SEND without a byte takes nothing, whether or not there is space. -/
theorem exec_send_nil {s : State} (hheld : s.link.held = false) :
    exec (.send []) s = .next { s with link := s.link.reported [s.statusByte] } := by
  cases hspace : s.link.inSpace with
  | false => exact exec_send_of_no_space hheld hspace []
  | true =>
    have hempty := (Link.inSpace_iff.mp hspace).1
    rw [exec_send_of_space hheld hspace]
    simp [Link.receive, readFrame, Link.reported, State.idleBytes, hempty]

/-- Settles O11: a well-made frame is read back, and the link acts on it by its tag and its KIND. -/
theorem sendTakesRequests : Obligations.SendTakesRequests := by
  intro tag kind payload extra s hheld hp bytes sent
  have hread : readFrame bytes = .checked tag kind payload := readFrame_requestFrame tag kind extra hp
  refine ⟨fun hspace => exec_send_of_no_space hheld hspace bytes, fun hspace => ?_, exec_send_nil hheld⟩
  rw [exec_send_of_checked hheld hspace hread]
  refine ⟨fun howed => ?_, fun hfree => ⟨fun hkind => ?_, fun cmd hkind => ?_⟩⟩
  · rw [Link.check_of_owed (l := s.link.reported _) kind payload howed]
    rfl
  · rw [Link.check_of_unknown (l := s.link.reported _) hfree hkind]
    rfl
  · rw [Link.check_of_request (l := s.link.reported _) hfree hkind]
    rfl

end Sys2Proof.Machine
end

section
/-! The link's accounts and its empty slot over every step: O7. -/

namespace Sys2Proof.Machine

/-- What O7 keeps of the link: its two accounts (R163, R167) and its empty slot (R161). -/
def Link.balanced (l : Link) : Prop := l.accounted ∧ l.settled

/-- The rest of the link has no part in it. -/
theorem Link.balanced.congr {l m : Link} (h : l.balanced) (hin : m.inbound = l.inbound) (hout : m.outbound = l.outbound)
    (howed : m.outstanding = l.outstanding) : m.balanced := by
  unfold Link.balanced Link.accounted Link.settled
  rw [hin, hout, howed]
  exact h

theorem Link.balanced_powerOn (held : Bool) : ({ Link.powerOn with held := held } : Link).balanced :=
  ⟨⟨Nat.zero_le 8, .nil⟩, rfl⟩

theorem Link.balanced_reset (l : Link) : l.reset.balanced := ⟨⟨Nat.zero_le 8, .nil⟩, rfl⟩

/-! ### Tags and replies (R163, R164) -/

theorem Link.balanced.takeTag {l : Link} {tag : Byte} (h : l.balanced) (hroom : l.hasRoom = true)
    (hfree : tag ∉ l.outstanding) : (l.takeTag tag).balanced := by
  obtain ⟨⟨_, hnodup⟩, hslot⟩ := h
  have hroom := Link.hasRoom_iff.mp hroom
  refine ⟨⟨?_, hnodup.append (List.nodup_singleton tag) (by simpa using hfree)⟩, hslot⟩
  simp only [Link.takeTag, List.length_append, List.length_singleton]
  omega

theorem Link.balanced.push {l : Link} (h : l.balanced) (hroom : l.hasRoom = true) (frame : List Byte) :
    (l.push frame).balanced := by
  obtain ⟨⟨_, hnodup⟩, hslot⟩ := h
  have hroom := Link.hasRoom_iff.mp hroom
  refine ⟨⟨?_, hnodup⟩, hslot⟩
  simp only [Link.push, List.length_append, List.length_singleton]
  omega

/-- A reply takes in the queue the place that its owed tag leaves. -/
theorem Link.balanced.produce {l : Link} (h : l.balanced) (detached : Bool) (tag kind : Byte) (r : Reply) :
    (l.produce detached tag kind r).balanced := by
  by_cases hgone : detached = true ∨ tag ∉ l.outstanding
  · rwa [Link.produce_of_discarded l detached tag kind r hgone]
  · obtain ⟨hattached, howed⟩ := not_or.mp hgone
    have howed := not_not.mp howed
    rw [Bool.eq_false_of_not_eq_true hattached, Link.produce_of_owed l kind r howed]
    obtain ⟨⟨hsum, hnodup⟩, hslot⟩ := h
    have hpos := List.length_pos_of_mem howed
    refine ⟨⟨?_, hnodup.erase tag⟩, hslot⟩
    simp only [List.length_append, List.length_singleton, List.length_erase_of_mem howed]
    omega

theorem Link.balanced.takeIn {l : Link} (h : l.balanced) (cmd : Instr) (tag : Byte) : (l.takeIn cmd tag).1.balanced := by
  unfold Link.takeIn
  split
  · exact h.congr rfl rfl rfl
  · split
    · next hfree =>
      simp only [Bool.and_eq_true, Bool.not_eq_true', List.contains_eq_mem, decide_eq_false_iff_not] at hfree
      exact h.takeTag hfree.2 hfree.1
    · exact h

theorem Link.balanced.abortAll {l : Link} (h : l.balanced) (items : List QueueItem) : (l.abortAll items).balanced := by
  unfold Link.abortAll
  induction items generalizing l with
  | nil => exact h
  | cons i items ih => exact ih (h.produce ..)

/-! ### The select periods (R161, R165) -/

theorem Link.balanced.check {l : Link} (h : l.balanced) (hroom : l.hasRoom = true) (tag kind : Byte)
    (payload : List Byte) : (l.check tag kind payload).balanced := by
  by_cases howed : tag ∈ l.outstanding
  · rw [Link.check_of_owed kind payload howed]
    exact h.push hroom _
  cases hkind : requestOf kind tag payload with
  | none =>
    rw [Link.check_of_unknown howed hkind]
    exact h.push hroom _
  | some cmd =>
    rw [Link.check_of_request howed hkind]
    exact (h.takeTag hroom howed).congr rfl rfl rfl

theorem Link.balanced.receive {l : Link} (h : l.balanced) (hroom : l.hasRoom = true) (bytes : List Byte) :
    (l.receive bytes).balanced := by
  have hempty : ({ l with inbound := [] } : Link).balanced := ⟨h.1, rfl⟩
  unfold Link.receive
  dsimp only
  split
  · exact hempty
  · exact hempty.congr rfl rfl rfl
  · exact hempty.check hroom ..

theorem State.balanced_send {s t : State} {bytes : List Byte} (hs : s.link.balanced)
    (h : exec (.send bytes) s = .next t) : t.link.balanced := by
  cases hheld : s.link.held with
  | true =>
    cases h.symm.trans (State.transaction_of_held hheld _ _)
    exact hs.congr rfl rfl rfl
  | false =>
    cases hspace : s.link.inSpace with
    | false =>
      cases h.symm.trans (exec_send_of_no_space hheld hspace _)
      exact hs.congr rfl rfl rfl
    | true =>
      cases h.symm.trans (exec_send_of_space hheld hspace _)
      have hreported : (s.link.reported s.link.dataOut).balanced := hs.congr rfl rfl rfl
      exact (hreported.receive (Link.inSpace_iff.mp hspace).2 bytes).congr rfl rfl rfl

/-- A FETCH only shortens the queue. -/
theorem State.balanced_fetch {s t : State} {n : Nat} (hs : s.link.balanced) (h : exec (.fetch n) s = .next t) :
    t.link.balanced := by
  cases hheld : s.link.held with
  | true =>
    cases h.symm.trans (State.transaction_of_held hheld _ _)
    exact hs.congr rfl rfl rfl
  | false =>
    cases hout : s.link.outbound with
    | nil =>
      cases h.symm.trans (exec_fetch_of_none hheld hout n)
      exact hs.congr rfl rfl rfl
    | cons frame rest =>
      cases h.symm.trans (exec_fetch_of_frame hheld hout n)
      obtain ⟨⟨hsum, hnodup⟩, hslot⟩ := hs
      refine ⟨⟨?_, hnodup⟩, hslot⟩
      have hless : (if frame.length ≤ n then rest else s.link.outbound).length ≤ s.link.outbound.length := by
        split
        · simp [hout]
        · exact le_rfl
      exact (Nat.add_le_add_right hless _).trans hsum

theorem State.balanced_statusRead {s t : State} {cmd : Byte} {n : Nat} (hs : s.link.balanced)
    (h : exec (.statusRead cmd n) s = .next t) : t.link.balanced := by
  by_cases hsend : cmd = 0xA5
  · subst hsend
    exact State.balanced_send (bytes := List.replicate n 0) hs h
  by_cases hfetch : cmd = 0x5A
  · subst hfetch
    exact State.balanced_fetch (n := n) hs h
  cases hheld : s.link.held with
  | true =>
    cases h.symm.trans (State.transaction_of_held hheld _ _)
    exact hs.congr rfl rfl rfl
  | false =>
    cases h.symm.trans (exec_statusRead_of_other hheld hsend hfetch n)
    exact hs.congr rfl rfl rfl

/-! ### Requests and acts -/

theorem State.balanced_act {s t : State} {f : Part → Part} (hs : s.link.balanced) (h : s.act f = .next t) :
    t.link.balanced := by
  cases h
  exact hs

theorem State.balanced_serve {s t : State} {cmd : Instr} {tag kind : Byte} {owner : Part → Part × Reply}
    (hs : s.link.balanced) (h : s.serve cmd tag kind owner = .next t) : t.link.balanced := by
  cases h
  exact (hs.takeIn cmd tag).produce ..

theorem State.balanced_request {α : Type} {s t : State} {cmd : Instr} {tag kind : Byte} {q : Payload α}
    {owner : α → Part → Part × Reply} (hs : s.link.balanced)
    (h : s.serve cmd tag kind (served q owner) = .next t) : t.link.balanced :=
  State.balanced_serve hs h

theorem State.balanced_arrive {s t : State} {cmd : Instr} {tag kind : Byte} {fields : Option PlacementFields}
    (hs : s.link.balanced) (h : s.arrive cmd tag kind fields = .next t) : t.link.balanced := by
  have htaken := hs.takeIn cmd tag
  unfold State.arrive at h
  cases fields with
  | none =>
    cases h
    exact htaken.produce ..
  | some f =>
    dsimp only at h
    split at h
    · cases h
      exact htaken.produce ..
    · cases h
      exact htaken

theorem State.balanced_deliverBuilt {s : State} (hs : s.link.balanced) : s.deliverBuilt.link.balanced := by
  unfold State.deliverBuilt
  split
  · exact hs
  · exact hs.produce ..

theorem State.balanced_withdraw (s : State) {l : Link} (hl : l.balanced) (detached : Bool) (tag named : Byte) :
    (s.withdraw l detached tag named).link.balanced := by
  unfold State.withdraw
  split
  · exact (hl.produce ..).produce ..
  · exact hl.produce ..

theorem State.balanced_cancel {s t : State} {tag : Byte} {q : Payload Byte} (hs : s.link.balanced)
    (h : execCancel tag q s = .next t) : t.link.balanced := by
  have htaken := hs.takeIn (.cancel tag q) tag
  unfold execCancel at h
  cases q with
  | none =>
    cases h
    exact htaken.produce ..
  | some named =>
    cases h
    exact s.balanced_withdraw htaken ..

theorem State.balanced_engineReset {s t : State} {tag : Byte} {q : Payload Unit} (hs : s.link.balanced)
    (h : execEngineReset tag q s = .next t) : t.link.balanced := by
  have htaken := hs.takeIn (.engineReset tag q) tag
  unfold execEngineReset at h
  cases q with
  | none =>
    cases h
    exact htaken.produce ..
  | some q =>
    cases h
    exact (htaken.abortAll _).produce ..

/-! ### Every command, and every step -/

theorem exec_balanced {c : Instr} {s t : State} (hs : s.link.balanced) (h : exec c s = .next t) : t.link.balanced := by
  cases c with
  | powerOn => cases h; exact Link.balanced_powerOn _
  | linkReset => cases h; exact s.link.balanced_reset
  | linkResetReleased => cases h; exact hs.congr rfl rfl rfl
  | send => exact State.balanced_send hs h
  | fetch => exact State.balanced_fetch hs h
  | statusRead => exact State.balanced_statusRead hs h
  | grantAsk | grantMove | grantResize => exact State.balanced_arrive hs h
  | replyBuilt => cases h; exact State.balanced_deliverBuilt hs
  | cancel => exact State.balanced_cancel hs h
  | engineReset => exact State.balanced_engineReset hs h
  | tenantRetireForce tag t => exact State.balanced_serve (owner := Part.forceRetire t) hs h
  | tenantDefine | tenantAmend | tenantRetire | tenantQuery | faultMask | faultClear | grantRelease
  | grantQuery | sliceReserve | sliceUnreserve | mapRead | grantLevel | sweepSet | sweepRestart | quarantineForce
  | quarantineLift | qualityRead | lineupPush | lineupPop | lineupRotate | lineupDrop | lineupStatus | eventsRead
  | eventsMask | plantSet | plantQuery | quietEnter | quietLeave => exact State.balanced_request hs h
  | readyInputChange | grantAskTake | grantMoveTake | grantResizeTake | relocationAttempt | sweepRestartTakesEffect
  | sweepResume | phaseARelease | lineupItemIssue | jobStart | setupEnd | strobeMinimumElapsed | lockWaitTimeout | holdEnd
  | retireBacklogRelease | turnaroundExpiry | parkExpiry | dwellEnd => exact State.balanced_act hs h

/-- Settles O7: a millisecond does not reach the link, and every command keeps its balance. -/
theorem linkAccountsKept : Obligations.LinkAccountsKept := by
  intro s t haccounted hsettled h
  unfold step at h
  split at h
  · cases h
    exact ⟨haccounted, hsettled⟩
  · next c rest _ => exact exec_balanced (s := { s with pending := rest }) ⟨haccounted, hsettled⟩ h

end Sys2Proof.Machine
end

section
/-! The Event Unit's two requests, the malformed payloads and the requests that read (10.2 to 10.5): O51 and O15. -/

namespace Sys2Proof.Machine

/-! ### The raised sets and the masks (R177, R178) -/

theorem EventUnit.raised_cleared (u : EventUnit) (t : Nat) : u.cleared.raised.getD t 0 = 0 := by
  simp only [EventUnit.cleared, List.getD_eq_getElem?_getD, List.getElem?_map]
  cases u.raised[t]? <;> rfl

/-- No raised set, so none to enable. -/
theorem EventUnit.pending_cleared (u : EventUnit) : u.cleared.pending = false := by
  suffices h : ∀ (n : Nat) (ms : List TenantEventSet),
      (List.zipWith (fun r m => r &&& m != 0) (List.replicate n 0) ms).any id = false by
    simp only [EventUnit.pending, EventUnit.cleared, List.map_const', h]
    simp
  intro n
  induction n with
  | zero => exact fun ms => rfl
  | succ n ih =>
    intro ms
    cases ms with
    | nil => rfl
    | cons m ms =>
      rw [List.replicate_succ, List.zipWith_cons_cons, List.any_cons, ih]
      simp

theorem storeMasks_masks (q : EventsMaskFields) {u : EventUnit} {t : Nat} (h : t < u.masks.length) :
    (storeMasks q u).masks.getD t 0 = (q.tenants.getD t none).getD (u.masks.getD t 0) := by
  simp [storeMasks, List.getD_eq_getElem?_getD, h]

/-- Settles O51: both owners change the Event Unit alone, the one by `EventUnit.cleared`, the other by `storeMasks`. -/
theorem eventsReadAndMask : Obligations.EventsReadAndMask := by
  intro s tag
  refine ⟨fun h => ?_, fun q h => ?_⟩
  · exact ⟨s.part.events.cleared, State.serve_of_same 0x60 (Part.eventsRead ()) h rfl rfl rfl, rfl, rfl, rfl,
      List.length_map _, EventUnit.raised_cleared _, EventUnit.pending_cleared _⟩
  · exact ⟨storeMasks q s.part.events, State.serve_of_same 0x61 (Part.eventsMask q) h rfl rfl rfl, rfl, rfl, rfl,
      List.length_mapIdx, fun t => storeMasks_masks q⟩

/-! ### Malformed payloads (R170) -/

/-- The owner of a malformed payload is not asked. -/
theorem State.exec_of_malformed {α : Type} {s : State} {cmd : Instr} {tag kind : Byte}
    (owner : α → Part → Part × Reply) (hexec : exec cmd s = s.serve cmd tag kind (served none owner))
    (h : s.awaits cmd tag) : exec cmd s = .next (s.answers cmd tag kind (refuse .badField) s.part) :=
  hexec.trans (State.serve_of_kept kind _ h rfl)

theorem exec_cancel_of_malformed {s : State} {tag : Byte} (h : s.awaits (.cancel tag none) tag) :
    exec (.cancel tag none) s = .next (s.answers (.cancel tag none) tag 0x25 (refuse .badField) s.part) := by
  change execCancel tag none s = _
  simp only [execCancel, Link.takeIn_of_awaits h, Link.produce_of_owed (s.link.withdrawn _) _ _ h.1]
  rfl

theorem exec_engineReset_of_malformed {s : State} {tag : Byte} (h : s.awaits (.engineReset tag none) tag) :
    exec (.engineReset tag none) s = .next (s.answers (.engineReset tag none) tag 0x74 (refuse .badField) s.part) := by
  change execEngineReset tag none s = _
  simp only [execEngineReset, Link.takeIn_of_awaits h, Link.produce_of_owed (s.link.withdrawn _) _ _ h.1]
  rfl

/-! ### The requests that read (R17, R39, R55, R141, R156, R173) -/

theorem Part.queryTenant_eq (t : Nat) (p : Part) :
    p.queryTenant t = (p, if 16 ≤ t then refuse .badField else doneWith (p.tenantPayload t)) := by
  unfold Part.queryTenant
  split <;> rfl

/-- The reply of a range that is read: its records, or the refusal of a range that is not one. -/
theorem Part.readMap_eq (q : RangeFields) (p : Part) : Part.readMap q p =
    (p, if 1 ≤ q.count ∧ q.count ≤ 32 ∧ q.first + q.count ≤ 1024 then doneWith (p.mapPayload q)
      else refuse .badField) := by
  simp only [Part.readMap, ← rangeOk_iff]
  cases rangeOk 32 q <;> rfl

theorem Part.qualityRead_eq (q : RangeFields) (p : Part) : Part.qualityRead q p =
    (p, if 1 ≤ q.count ∧ q.count ≤ 32 ∧ q.first + q.count ≤ 1024 then doneWith (p.qualityPayload q)
      else refuse .badField) := by
  simp only [Part.qualityRead, ← rangeOk_iff]
  cases rangeOk 32 q <;> rfl

theorem Part.queryGrant_of_range {p : Part} {g : Nat} (h : 96 ≤ g) : p.queryGrant g = (p, refuse .badField) := by
  simp [Part.queryGrant, Part.grantRefusal, h]

theorem Part.queryGrant_of_free {p : Part} {g : Nat} (hg : g < 96) (h : p.grant g = none) :
    p.queryGrant g = (p, refuse .noGrant) := by
  simp [Part.queryGrant, Part.grantRefusal, Nat.not_le.mpr hg, h]

theorem Part.queryGrant_of_used {p : Part} {g : Nat} {r : Grant} (hg : g < 96) (h : p.grant g = some r) :
    p.queryGrant g = (p, doneWith (p.grantPayload g r)) := by
  simp [Part.queryGrant, Part.grantRefusal, Nat.not_le.mpr hg, h]

/-- Settles O15: a malformed payload reaches no owner, and the owners that read answer the part as it is. -/
theorem malformedAndQueriesChangeNothing : Obligations.MalformedAndQueriesChangeNothing := by
  refine ⟨fun s tag => ?_, fun s tag => ?_⟩
  · exact ⟨⟨State.exec_of_malformed Part.define rfl, State.exec_of_malformed Part.amend rfl,
        State.exec_of_malformed Part.retire rfl, State.exec_of_malformed Part.queryTenant rfl,
        State.exec_of_malformed Part.faultMask rfl, State.exec_of_malformed Part.faultClear rfl⟩,
      ⟨fun h => (State.arrive_of_awaits 0x20 h).1, fun h => (State.arrive_of_awaits 0x21 h).1,
        fun h => (State.arrive_of_awaits 0x22 h).1, State.exec_of_malformed Part.release rfl,
        State.exec_of_malformed Part.queryGrant rfl, exec_cancel_of_malformed,
        State.exec_of_malformed Part.reserve rfl, State.exec_of_malformed Part.unreserve rfl,
        State.exec_of_malformed Part.readMap rfl⟩,
      ⟨State.exec_of_malformed Part.changeLevel rfl, State.exec_of_malformed Part.sweepSet rfl,
        State.exec_of_malformed Part.sweepRestart rfl, State.exec_of_malformed Part.quarantineForce rfl,
        State.exec_of_malformed Part.quarantineLift rfl, State.exec_of_malformed Part.qualityRead rfl⟩,
      ⟨State.exec_of_malformed Part.lineupPush rfl, State.exec_of_malformed Part.lineupPop rfl,
        State.exec_of_malformed Part.lineupRotate rfl, State.exec_of_malformed Part.lineupDrop rfl,
        State.exec_of_malformed Part.lineupStatus rfl⟩,
      ⟨State.exec_of_malformed Part.eventsRead rfl, State.exec_of_malformed Part.eventsMask rfl,
        State.exec_of_malformed Part.plantSet rfl, State.exec_of_malformed Part.plantQuery rfl,
        State.exec_of_malformed Part.enterQuiet rfl, State.exec_of_malformed Part.leaveQuiet rfl,
        exec_engineReset_of_malformed⟩⟩
  · refine ⟨fun t h => ?_, fun g hg h => ?_, fun g hg hfree h => ?_, fun g r hg hr h => ?_, fun q h => ?_,
      fun q h => ?_, fun h => ?_, fun h => ?_⟩
    · exact State.serve_of_kept 0x13 (Part.queryTenant t) h (Part.queryTenant_eq t _)
    · exact State.serve_of_kept 0x24 (Part.queryGrant g) h (Part.queryGrant_of_range hg)
    · exact State.serve_of_kept 0x24 (Part.queryGrant g) h (Part.queryGrant_of_free hg hfree)
    · exact State.serve_of_kept 0x24 (Part.queryGrant g) h (Part.queryGrant_of_used hg hr)
    · exact State.serve_of_kept 0x28 (Part.readMap q) h (Part.readMap_eq q _)
    · exact State.serve_of_kept 0x44 (Part.qualityRead q) h (Part.qualityRead_eq q _)
    · exact State.serve_of_kept 0x54 (Part.lineupStatus ()) h rfl
    · exact State.serve_of_kept 0x71 (Part.plantQuery ()) h rfl

end Sys2Proof.Machine
end


section
/-! PLANT_SET (10.4): what it stores, what holds the split, and the change of split: O52. -/

namespace Sys2Proof.Machine

/-! ### What is stored (R96, R107, R170) -/

/-- A field whose range begins at 0 is only held down to its upper limit. -/
theorem storeNat_zero (hi : Nat) (v : Option Nat) (old : Nat) : storeNat 0 hi v old = (v.map (min hi)).getD old := by
  cases v with
  | none => rfl
  | some v => exact Nat.zero_max _

theorem storeNat_one (hi : Nat) (v : Option Nat) (old : Nat) :
    storeNat 1 hi v old = (v.map fun x => max 1 (min hi x)).getD old := by
  cases v <;> rfl

theorem powerChanged_eq_false {a b : LevelController} :
    powerChanged a b = false ↔ a.cap = b.cap ∧ a.slope = b.slope ∧ a.pivot = b.pivot := by
  simp [powerChanged, and_assoc]

/-- With the assumed SNR as it was, storing is followed by the tests of the cap alone. -/
theorem Part.applyPlant_of_snr {q : PlantFields} {p a : Part} (ha : (p.storeSplit q.split).storePlant q = a)
    (hsnr : a.level.assumedSnr = p.level.assumedSnr) :
    p.applyPlant q = (if powerChanged p.level a.level then a.overCapTest else a).capTest := by
  simp only [Part.applyPlant, ha, hsnr, bne_self_eq_false, Bool.false_eq_true, if_false]

/-- With the power fields as they were too, and no OVER_CAP, storing is all that PLANT_SET does. -/
theorem Part.applyPlant_of_settings {q : PlantFields} {p a : Part} (ha : (p.storeSplit q.split).storePlant q = a)
    (hsnr : a.level.assumedSnr = p.level.assumedSnr) (hpower : powerChanged p.level a.level = false)
    (hclear : a.level.overCap = false) : p.applyPlant q = a := by
  rw [Part.applyPlant_of_snr ha hsnr, hpower]
  exact Part.capTest_of_clear hclear

/-- An accepted PLANT_SET that awaits its service: its fields applied, and its reply of composite and OVER_CAP. -/
theorem State.exec_plantSet {s : State} {tag : Byte} {q : PlantFields} {u : Part} {capped : Bool}
    (h : s.awaits (.plantSet tag (some q)) tag) (hsplit : q.split = none ∨ s.part.splitHeld = false)
    (hu : s.part.applyPlant q = u) (hcapped : u.level.overCap = capped) :
    exec (.plantSet tag (some q)) s = .next (s.answers (.plantSet tag (some q)) tag 0x70
      ⟨.done, plantClamped q, be3 u.composite ++ [byte (boolBit capped 0)]⟩ (s.part.commitTest u)) := by
  have howner : s.part.plantSet q = (u, ⟨.done, plantClamped q, be3 u.composite ++ [byte (boolBit capped 0)]⟩) := by
    have hfree : (q.split.isSome && s.part.splitHeld) = false := by
      rcases hsplit with h | h <;> simp [h]
    simp only [Part.plantSet, hfree, Bool.false_eq_true, if_false, hu, hcapped]
  refine (State.serve_of_awaits 0x70 (Part.plantSet q) h).trans ?_
  rw [howner]

/-- As above, where no tenant's commitment turns. -/
theorem State.exec_plantSet_of_kept {s : State} {tag : Byte} {q : PlantFields} {u : Part} {capped : Bool}
    (h : s.awaits (.plantSet tag (some q)) tag) (hsplit : q.split = none ∨ s.part.splitHeld = false)
    (hu : s.part.applyPlant q = u) (hcapped : u.level.overCap = capped) (hturn : s.part.commitTest u = u) :
    exec (.plantSet tag (some q)) s = .next (s.answers (.plantSet tag (some q)) tag 0x70
      ⟨.done, plantClamped q, be3 u.composite ++ [byte (boolBit capped 0)]⟩ u) := by
  rw [State.exec_plantSet h hsplit hu hcapped, hturn]

theorem Part.composite_commitTest (p q : Part) : (p.commitTest q).composite = q.composite := by
  obtain ⟨u, hu, -⟩ := p.commitTest_frame q
  rw [hu]
  exact Part.composite_congr rfl rfl rfl rfl

/-! ### What holds the split (R2) -/

theorem Part.grantsInUse_ne_zero {p : Part} : p.grantsInUse ≠ 0 ↔ ∃ g r, p.grant g = some r := by
  rw [Part.grantsInUse, ← Nat.pos_iff_ne_zero, List.countP_pos_iff]
  constructor
  · rintro ⟨x, hx, hsome⟩
    obtain ⟨g, hg, rfl⟩ := List.mem_iff_getElem.mp hx
    obtain ⟨r, hr⟩ := Option.isSome_iff_exists.mp hsome
    exact ⟨g, r, by simp [Part.grant, List.getD_eq_getElem?_getD, hg, hr]⟩
  · rintro ⟨g, r, hr⟩
    have hg := Part.lt_of_grant hr
    refine ⟨some r, ?_, rfl⟩
    rw [← hr, Part.grant, List.getD_eq_getElem _ _ hg]
    exact List.getElem_mem hg

theorem Part.any_reserved_iff {p : Part} : (p.slices.any fun e => e.use == .reserved) = true ↔
    ∃ n, n < p.slices.length ∧ (p.slice n).use = .reserved := by
  simp only [List.any_eq_true, beq_iff_eq]
  constructor
  · rintro ⟨e, he, hu⟩
    obtain ⟨n, hn, rfl⟩ := List.mem_iff_getElem.mp he
    exact ⟨n, hn, by rwa [Part.slice, List.getD_eq_getElem _ _ hn]⟩
  · rintro ⟨n, hn, hu⟩
    exact ⟨p.slice n, by rw [Part.slice, List.getD_eq_getElem _ _ hn]; exact List.getElem_mem hn, hu⟩

theorem Part.splitHeld_iff {p : Part} : p.splitHeld = true ↔
    (∃ g r, p.grant g = some r) ∨ ∃ n, n < p.slices.length ∧ (p.slice n).use = .reserved := by
  rw [Part.splitHeld, Bool.or_eq_true, bne_iff_ne, Part.grantsInUse_ne_zero, Part.any_reserved_iff]

/-! ### The change of split (R2, R29, R125) -/

/-- The part at another split, its sweep not idle. -/
def Part.resplit (p : Part) (split : Nat) : Part :=
  { p with
    split := split
    slices := p.slices.mapIdx fun n (e : SliceEntry) => e.resplit split n
    tenants := p.tenants.map (Tenant.resplit split)
    monitor := { p.monitor with
      quality := p.monitor.quality.mapIdx fun n (q : QualityEntry) => q.resplit p.split split n } }

theorem Part.changeSplit_of_same (p : Part) : p.changeSplit p.split = p := by simp [Part.changeSplit]

theorem Part.changeSplit_of_new {p : Part} {split : Nat} (hne : split ≠ p.split) (hdwell : p.monitor.dwell.isSome) :
    p.changeSplit split = p.resplit split := by
  rw [Part.changeSplit, if_neg (by simpa using hne)]
  exact if_neg (by simpa [Option.isSome_iff_ne_none] using hdwell)

theorem SliceEntry.resplit_of_inside {split n : Nat} (e : SliceEntry) (h : split ≤ n ∧ n < split + 8) :
    e.resplit split n = ⟨.crossover, false, false⟩ := by
  simp [SliceEntry.resplit, h.1, h.2]

/-- A slice that leaves the crossover, or stands PARKED below the new one, becomes FREE. -/
theorem SliceEntry.resplit_of_ends {split n : Nat} {e : SliceEntry} (hout : ¬(split ≤ n ∧ n < split + 8))
    (h : e.use = .crossover ∨ (n < split ∧ ∃ left fill, e.use = .parked left fill)) :
    e.resplit split n = ⟨.free, false, false⟩ := by
  rcases h with h | ⟨hn, left, fill, h⟩
  · simp [SliceEntry.resplit, hout, h]
  · simp [SliceEntry.resplit, hout, h, hn]

theorem SliceEntry.resplit_of_stays {split n : Nat} {e : SliceEntry} (hout : ¬(split ≤ n ∧ n < split + 8))
    (h : ¬(e.use = .crossover ∨ (n < split ∧ ∃ left fill, e.use = .parked left fill))) :
    e.resplit split n = e := by
  obtain ⟨hcrossover, hparked⟩ := not_or.mp h
  cases hu : e.use with
  | crossover => exact absurd hu hcrossover
  | parked left fill =>
    have hn : ¬n < split := fun hn => hparked ⟨hn, left, fill, hu⟩
    simp [SliceEntry.resplit, hout, hu, hn]
  | _ => simp [SliceEntry.resplit, hout, hu]

theorem Part.slice_resplit {p : Part} {n : Nat} (split : Nat) (hn : n < p.slices.length) :
    (p.resplit split).slice n = (p.slice n).resplit split n := by
  simp [Part.slice, Part.resplit, List.getD_eq_getElem?_getD, hn]

theorem Part.tenants_resplit (p : Part) (split t : Nat) :
    (p.resplit split).tenants.getD t ⟨0, none⟩ = (p.tenants.getD t ⟨0, none⟩).resplit split := by
  simp only [Part.resplit, List.getD_eq_getElem?_getD, List.getElem?_map]
  cases p.tenants[t]? <;> rfl

theorem Part.qualityOf_resplit (p : Part) (split n : Nat) : (p.resplit split).qualityOf n =
    if split ≤ n ∧ n < split + 8 ∧ ¬(p.split ≤ n ∧ n < p.split + 8) then
      { p.qualityOf n with strikes := 0, clears := 0 } else p.qualityOf n := by
  have hentry : (p.resplit split).qualityOf n = (p.qualityOf n).resplit p.split split n := by
    simp only [Part.qualityOf, Part.resplit, List.getD_eq_getElem?_getD, List.getElem?_mapIdx]
    cases p.monitor.quality[n]? with
    | none => simp [QualityEntry.resplit]
    | some q => rfl
  rw [hentry, QualityEntry.resplit]
  refine if_congr ?_ rfl rfl
  simp only [Bool.and_eq_true, decide_eq_true_eq, Bool.not_eq_true', Bool.and_eq_false_iff, decide_eq_false_iff_not]
  omega

/-- Rovers count for no commitment. -/
theorem Part.commitTest_resplit (p : Part) (split : Nat) : p.commitTest (p.resplit split) = p.resplit split := by
  refine Part.commitTest_of_no_turn _ _ fun t _ =>
    Part.no_turn_of_kept (Part.delivered_congr rfl t).ge fun r r' h h' => ?_
  rw [Part.tenant, Part.tenants_resplit] at h'
  obtain ⟨x, hx, rfl⟩ := Option.map_eq_some_iff.mp h'
  cases h.symm.trans hx
  exact le_rfl

/-! ### PLANT_SET, field by field -/

theorem Part.storePlant_split (p : Part) (v : Nat) :
    (p.storeSplit (some v)).storePlant { split := some v } = p.changeSplit (max 24 (min 192 v)) := by
  simp only [Part.storeSplit, clampNat]
  rfl

/-- The part with another tilt, and with another assumed SNR. -/
def Part.withTilt (p : Part) (slope pivot : Nat) : Part := { p with level := { p.level with slope, pivot } }

def Part.withAssumedSnr (p : Part) (snr : Nat) : Part := { p with level := { p.level with assumedSnr := snr } }

theorem Part.storePlant_tilt (p : Part) (slope pivot : Nat) :
    p.storePlant { slope := some slope, pivot := some pivot } = p.withTilt (min 32 slope) (min 1023 pivot) := by
  simp only [Part.storePlant, LevelController.store, storeNat_zero, Option.map_some, Option.getD_some]
  rfl

theorem Part.storePlant_snr (p : Part) (snr : Nat) :
    p.storePlant { assumedSnr := some snr } = p.withAssumedSnr (min 255 snr) := by
  simp only [Part.storePlant, LevelController.store, storeNat_zero, Option.map_some, Option.getD_some]
  rfl

/-- Without a PARKED slice no parking ends early. -/
theorem Part.unparkDown_of_unparked {p : Part}
    (h : ∀ n, n < 1024 → ∀ left fill, (p.slice n).use ≠ .parked left fill) : p.unparkDown = p := by
  have hnone : ((List.range 1024).reverse.filter fun n => (p.slice n).isParked) = [] := by
    refine List.filter_eq_nil_iff.mpr fun n hn hparked => ?_
    obtain ⟨left, fill, hu⟩ := SliceEntry.isParked_iff.mp hparked
    exact h n (by simpa using hn) left fill hu
  rw [Part.unparkDown_eq, hnone]
  rfl

/-- PLANT_SET refused: a split field while the split is held. -/
theorem State.exec_plantSet_of_held {s : State} {tag : Byte} {q : PlantFields}
    (h : s.awaits (.plantSet tag (some q)) tag) (hsplit : q.split.isSome) (hheld : s.part.splitHeld = true) :
    exec (.plantSet tag (some q)) s = .next (s.answers (.plantSet tag (some q)) tag 0x70 (refuse .busy) s.part) :=
  State.serve_of_kept 0x70 (Part.plantSet q) h (by simp [Part.plantSet, hsplit, hheld])

/-- A split alone: the same one changes nothing, another one brings `Part.resplit`. -/
theorem Part.applyPlant_split {p : Part} {q : PlantFields} {split : Nat}
    (hstore : (p.storeSplit q.split).storePlant q = p.changeSplit split) (hclear : p.level.overCap = false) :
    p.applyPlant q = p.changeSplit split := by
  have hlevel : (p.changeSplit split).level = p.level := by
    unfold Part.changeSplit Part.resumeSweep
    split
    · rfl
    · split <;> rfl
  exact Part.applyPlant_of_settings hstore (by rw [hlevel])
    (powerChanged_eq_false.mpr (by rw [hlevel]; exact ⟨rfl, rfl, rfl⟩)) (by rwa [hlevel])

/-- A tilt under which the composite stays at or below the cap is stored. -/
theorem Part.applyPlant_tilt_of_below {p : Part} {q : PlantFields} {slope pivot : Nat}
    (hstore : (p.storeSplit q.split).storePlant q = p.withTilt slope pivot) (hclear : p.level.overCap = false)
    (h : (p.withTilt slope pivot).composite ≤ p.level.cap) : p.applyPlant q = p.withTilt slope pivot := by
  rw [Part.applyPlant_of_snr hstore rfl, Part.overCapTest_of_below (p := p.withTilt slope pivot) h, ite_self]
  exact Part.capTest_of_clear hclear

theorem Part.overCapped_of_clear {p : Part} (h : p.level.overCap = false) :
    p.overCapped = ({ p with level := { p.level with overCap := true } } : Part).raisePlant .overCap := by
  simp [Part.overCapped, Part.raisePlant, PlantEvent.bit, h]

theorem Part.powerChanged_withTilt {p : Part} {slope pivot : Nat} (h : (p.withTilt slope pivot).level ≠ p.level) :
    powerChanged p.level (p.withTilt slope pivot).level = true := by
  by_contra hsame
  obtain ⟨-, hslope, hpivot⟩ := powerChanged_eq_false.mp (Bool.eq_false_iff.mpr hsame)
  change p.level.slope = slope at hslope
  change p.level.pivot = pivot at hpivot
  subst hslope hpivot
  exact h rfl

/-- A new tilt that takes the composite above the cap sets OVER_CAP; without a PARKED slice nothing follows. -/
theorem Part.applyPlant_tilt_of_above {p : Part} {q : PlantFields} {slope pivot : Nat}
    (hstore : (p.storeSplit q.split).storePlant q = p.withTilt slope pivot)
    (hnew : (p.withTilt slope pivot).level ≠ p.level) (h : p.level.cap < (p.withTilt slope pivot).composite)
    (hunparked : ∀ n, n < 1024 → ∀ left fill, (p.slice n).use ≠ .parked left fill) :
    p.applyPlant q = (p.withTilt slope pivot).overCapped := by
  have hover : (p.withTilt slope pivot).overCapped.composite = (p.withTilt slope pivot).composite :=
    Part.composite_congr rfl rfl rfl rfl
  rw [Part.applyPlant_of_snr hstore rfl, if_pos (Part.powerChanged_withTilt hnew),
    Part.overCapTest_of_above (p := p.withTilt slope pivot) h,
    Part.unparkDown_of_unparked (p := (p.withTilt slope pivot).overCapped) hunparked]
  exact Part.capTest_of_above (p := (p.withTilt slope pivot).overCapped) (h.trans_eq hover.symm)

/-- A new assumed SNR brings the upkeep of the grants on UNKNOWN slices. -/
theorem Part.applyPlant_snr {p : Part} {snr : Nat} (hclear : p.level.overCap = false)
    (hnew : min 255 snr ≠ p.level.assumedSnr) : p.applyPlant { assumedSnr := some snr } =
      (p.withAssumedSnr (min 255 snr)).upkeepAll (p.withAssumedSnr (min 255 snr)).unmeasuredGrants := by
  have hpower : powerChanged p.level (p.withAssumedSnr (min 255 snr)).level = false :=
    powerChanged_eq_false.mpr ⟨rfl, rfl, rfl⟩
  have hsnr : ((p.withAssumedSnr (min 255 snr)).level.assumedSnr != p.level.assumedSnr) = true := bne_iff_ne.mpr hnew
  have hupkept := Part.upkept_upkeepAll (p.withAssumedSnr (min 255 snr)).unmeasuredGrants
    (p.withAssumedSnr (min 255 snr))
  simp only [Part.applyPlant, Part.storeSplit, Part.storePlant_snr, hpower, hsnr, if_true, Bool.false_eq_true, if_false]
  refine Part.capTest_of_clear ?_
  rw [hupkept.frame]
  exact hclear

/-- The other fields are stored, and nothing follows. -/
theorem Part.applyPlant_of_no_power {p : Part} {q : PlantFields} (hsplit : q.split = none) (hcap : q.cap = none)
    (hslope : q.slope = none) (hpivot : q.pivot = none) (hsnr : q.assumedSnr = none)
    (hclear : p.level.overCap = false) : p.applyPlant q = p.storePlant q := by
  have hlevel : (p.storePlant q).level = { p.level with
      parkTime := storeNat 0 65535 q.parkTime p.level.parkTime
      fillDrop := storeNat 0 48 q.fillDrop p.level.fillDrop } := by
    simp only [Part.storePlant, LevelController.store, hcap, hslope, hpivot, hsnr, storeNat]
  refine Part.applyPlant_of_settings (by rw [hsplit]; rfl) (by rw [hlevel]) ?_ (by rwa [hlevel])
  exact powerChanged_eq_false.mpr (by rw [hlevel]; exact ⟨rfl, rfl, rfl⟩)

/-- The settings that take no part in the power, stored. -/
theorem Part.storePlant_of_no_power {p : Part} {q : PlantFields} (hcap : q.cap = none) (hslope : q.slope = none)
    (hpivot : q.pivot = none) (hsnr : q.assumedSnr = none) :
    let stored := fun (hi : Nat) (v : Option Nat) (old : Nat) => (v.map (min hi)).getD old
    let timings := fun (v : TimingFields) (old : Timings) => Timings.mk (stored 1000 v.setup old.setup)
      ((v.strobeMin.map fun x => max 1 (min 1000 x)).getD old.strobeMin) (stored 60000 v.lockMax old.lockMax)
      (stored 1000 v.hold old.hold) (stored 1000 v.turnaround old.turnaround)
    p.storePlant q = { p with
      level := { p.level with
        parkTime := stored 65535 q.parkTime p.level.parkTime
        fillDrop := stored 48 q.fillDrop p.level.fillDrop }
      engine := { p.engine with
        voice := timings q.voice p.engine.voice
        video := timings q.video p.engine.video
        data := timings q.data p.engine.data }
      store := { p.store with overflowMasked := q.overflowMasked.getD p.store.overflowMasked } } := by
  intro stored timings
  have htimings : ∀ v old, Timings.store v old = timings v old := fun v old => by
    simp only [Timings.store, storeNat_zero, storeNat_one, timings, stored]
  simp only [Part.storePlant, LevelController.store, htimings, hcap, hslope, hpivot, hsnr, storeNat_zero, stored]
  rfl

/-- Settles O52: what a split field is refused for, and each of the other kinds of PLANT_SET by what it stores. -/
theorem plantSetStores : Obligations.PlantSetStores := by
  refine ⟨fun s tag q h => ⟨fun hsplit hheld => ?_, fun hsplit hcap hslope hpivot hsnr hclear => ?_⟩,
    fun s tag hclear => ⟨fun v h hshaped hfree hunreserved => ?_, fun slope pivot h => ?_, fun snr h hnew => ?_⟩⟩
  · exact State.exec_plantSet_of_held h hsplit (Part.splitHeld_iff.mpr hheld)
  · intro stored timings
    have hstore := Part.storePlant_of_no_power (p := s.part) hcap hslope hpivot hsnr
    have happly := Part.applyPlant_of_no_power hsplit hcap hslope hpivot hsnr hclear
    have hcomposite : (s.part.storePlant q).composite = s.part.composite := by
      rw [hstore]
      exact Part.composite_congr rfl rfl rfl rfl
    refine (State.exec_plantSet_of_kept (capped := false) h (.inl hsplit) happly hclear
      (Part.commitTest_of_same rfl rfl)).trans ?_
    rw [hcomposite, hstore]
    rfl
  · obtain ⟨-, -, hlen, -⟩ := hshaped
    have hheld : s.part.splitHeld = false := by
      refine Bool.eq_false_iff.mpr fun hheld => ?_
      rcases Part.splitHeld_iff.mp hheld with ⟨g, r, hr⟩ | ⟨n, hn, hu⟩
      · cases (hfree g).symm.trans hr
      · exact hunreserved n (hlen ▸ hn) hu
    have hstore := s.part.storePlant_split v
    generalize max 24 (min 192 v) = split at hstore ⊢
    have happly := Part.applyPlant_split hstore hclear
    refine ⟨fun hsame => ?_, fun hnew hdwell => ?_⟩
    · rw [show split = s.part.split from hsame, Part.changeSplit_of_same] at happly
      exact State.exec_plantSet_of_kept (capped := false) h (.inr hheld) happly hclear (Part.commitTest_self _)
    · rw [Part.changeSplit_of_new hnew hdwell] at happly
      refine ⟨s.part.resplit split, State.exec_plantSet_of_kept (capped := false) h (.inr hheld) happly hclear
        (s.part.commitTest_resplit split), rfl, fun n hn => ?_, fun t => ?_, s.part.qualityOf_resplit split⟩
      · intro inside ends
        rw [Part.slice_resplit _ (hlen ▸ hn)]
        exact ⟨SliceEntry.resplit_of_inside _, SliceEntry.resplit_of_ends, SliceEntry.resplit_of_stays⟩
      · have htenant := s.part.tenants_resplit split t
        exact ⟨(congrArg Tenant.generation htenant).trans rfl, (congrArg Tenant.record htenant).trans rfl⟩
  · have hstore := s.part.storePlant_tilt slope pivot
    generalize min 32 slope = a at hstore ⊢
    generalize min 1023 pivot = b at hstore ⊢
    refine ⟨fun hle => ?_, fun hnew hlt hunparked => ?_⟩
    · exact State.exec_plantSet_of_kept (capped := false) h (.inl rfl)
        (Part.applyPlant_tilt_of_below hstore hclear hle) hclear (Part.commitTest_of_same rfl rfl)
    · have happly := Part.applyPlant_tilt_of_above hstore hnew hlt hunparked
      rw [Part.overCapped_of_clear (p := s.part.withTilt a b) hclear] at happly
      exact State.exec_plantSet_of_kept (capped := true) h (.inl rfl) happly rfl (Part.commitTest_of_same rfl rfl)
  · have happly := Part.applyPlant_snr hclear hnew
    have hupkept := Part.upkept_upkeepAll (s.part.withAssumedSnr (min 255 snr)).unmeasuredGrants
      (s.part.withAssumedSnr (min 255 snr))
    refine (State.exec_plantSet (capped := false) h (.inl rfl) happly (by rw [hupkept.frame]; exact hclear)).trans ?_
    rw [← s.part.composite_commitTest]
    rfl

end Sys2Proof.Machine
end

section
/-! SUPPORT. How ENGINE_RESET ends the jobs (R122, R123), I: what the ending of one job leaves of the grants, the
tenants, the lineups and the job list, whatever the job. -/

namespace Sys2Proof.Machine

/-! ### What stands beside the grants and the map -/

/-- Between `p` and `q` only the engine, the events and the contents of the batch change. -/
def Part.Aside (p q : Part) : Prop := ∃ engine events batch,
  q = { p with engine := engine, events := events, store := { p.store with batch := batch } } ∧
    batch.isSome = p.store.batch.isSome

namespace Part.Aside

variable {p q r : Part}

theorem refl (p : Part) : Part.Aside p p := ⟨_, _, _, rfl, rfl⟩

theorem trans (h : Part.Aside p q) (k : Part.Aside q r) : Part.Aside p r := by
  obtain ⟨_, _, _, rfl, hq⟩ := h
  obtain ⟨_, _, _, rfl, hr⟩ := k
  exact ⟨_, _, _, rfl, hr.trans hq⟩

theorem tenants (h : Part.Aside p q) : q.tenants = p.tenants := by obtain ⟨_, _, _, rfl, -⟩ := h; rfl

theorem grants (h : Part.Aside p q) : q.grants = p.grants := by obtain ⟨_, _, _, rfl, -⟩ := h; rfl

theorem slices (h : Part.Aside p q) : q.slices = p.slices := by obtain ⟨_, _, _, rfl, -⟩ := h; rfl

theorem level (h : Part.Aside p q) : q.level = p.level := by obtain ⟨_, _, _, rfl, -⟩ := h; rfl

theorem split (h : Part.Aside p q) : q.split = p.split := by obtain ⟨_, _, _, rfl, -⟩ := h; rfl

end Part.Aside

theorem Part.aside_setEngine (p : Part) (e : Engine) : Part.Aside p { p with engine := e } := ⟨_, _, _, rfl, rfl⟩

theorem Part.aside_raise (p : Part) (t : Nat) (e : TenantEvent) : Part.Aside p (p.raise t e) := ⟨_, _, _, rfl, rfl⟩

theorem Part.aside_turnaroundIfStarted (p : Part) (j : Job) : Part.Aside p (p.turnaroundIfStarted j) := by
  unfold Part.turnaroundIfStarted Part.beginTurnaround
  split
  · split
    · exact .refl p
    · exact p.aside_setEngine _
  · exact .refl p

theorem Part.aside_abandonEvents (p : Part) (j : Job) (t : Nat) (why : FailureReason) :
    Part.Aside p (p.abandonEvents j t why) := by
  unfold Part.abandonEvents
  split
  · exact .refl p
  · split <;> exact p.aside_raise _ _

theorem Part.aside_finishEvents (p : Part) (j : Job) (t : Nat) : Part.Aside p (p.finishEvents j t) := by
  rw [Part.finishEvents_frame]
  exact ⟨_, _, _, rfl, rfl⟩

theorem Part.aside_closing (p : Part) (id k : Nat) : Part.Aside p (p.closing id k) := by
  rw [Part.closing_frame]
  exact p.aside_setEngine _

theorem Part.aside_mapBatch (p : Part) (f : Batch → Batch) : Part.Aside p (p.mapBatch f) :=
  ⟨_, _, _, rfl, Option.isSome_map⟩

theorem Part.aside_reportEnd (p : Part) (j : Job) (done : Bool) : Part.Aside p (p.reportEnd j done) := by
  unfold Part.reportEnd
  split
  · exact .refl p
  · exact p.aside_mapBatch _
  · split <;> exact p.aside_mapBatch _

/-! ### What the ending of a job leaves of grants and tenants -/

/-- What a grant keeps while its job ends: everything but its place, profile, capacity and state. -/
def Grant.Keeps (r v : Grant) : Prop :=
  r.tenant = v.tenant ∧ r.cls = v.cls ∧ r.dir = v.dir ∧ r.floor = v.floor ∧ r.level = v.level ∧
    r.impaired = v.impaired ∧ r.relocationPending = v.relocationPending

theorem Grant.Keeps.refl (r : Grant) : r.Keeps r := ⟨rfl, rfl, rfl, rfl, rfl, rfl, rfl⟩

theorem Grant.Keeps.trans {r v w : Grant} (h : r.Keeps v) (k : v.Keeps w) : r.Keeps w := by
  obtain ⟨h1, h2, h3, h4, h5, h6, h7⟩ := h
  obtain ⟨k1, k2, k3, k4, k5, k6, k7⟩ := k
  exact ⟨h1.trans k1, h2.trans k2, h3.trans k3, h4.trans k4, h5.trans k5, h6.trans k6, h7.trans k7⟩

/-- No tenant is RETIRING. -/
def Part.noneRetiring (p : Part) : Prop := ∀ t r, p.tenant t = some r → r.status ≠ .retiring

/-- Between `p` and `q` the Allocator's state and the last batch stand, and a batch that runs still runs; a grant in
use was in use, with the same terms, and its state stands or is ACTIVE; a tenant that is not RETIRING stands but for its
grant list and its last failure, and where none is RETIRING the slots stand. -/
structure Part.Ending (p q : Part) : Prop where
  alloc : q.alloc = p.alloc
  last : q.store.last = p.store.last
  batch : q.store.batch.isSome = p.store.batch.isSome
  grant : ∀ g r, q.grant g = some r →
    ∃ v, p.grant g = some v ∧ r.Keeps v ∧ (r.state = v.state ∨ r.state = .active)
  tenant : ∀ t r, p.tenant t = some r → r.status ≠ .retiring → q.generation t = p.generation t ∧
    ∃ v, q.tenant t = some v ∧ { v with grants := r.grants, lastFailure := r.lastFailure } = r
  slots : p.noneRetiring → q.noneRetiring ∧ q.store.slots = p.store.slots

namespace Part.Ending

variable {p q r : Part}

theorem of_same (ht : q.tenants = p.tenants) (hg : q.grants = p.grants) (ha : q.alloc = p.alloc)
    (hlast : q.store.last = p.store.last) (hbatch : q.store.batch.isSome = p.store.batch.isSome)
    (hslots : q.store.slots = p.store.slots) : Part.Ending p q where
  alloc := ha
  last := hlast
  batch := hbatch
  grant g r h := ⟨r, (Part.grant_congr hg g).symm.trans h, .refl r, .inl rfl⟩
  tenant t r h _ := ⟨by rw [Part.generation, ht]; rfl, r, (Part.tenant_congr ht t).trans h, rfl⟩
  slots h := ⟨fun t r hr => h t r ((Part.tenant_congr ht t).symm.trans hr), hslots⟩

theorem refl (p : Part) : Part.Ending p p := of_same rfl rfl rfl rfl rfl rfl

theorem trans (h : Part.Ending p q) (k : Part.Ending q r) : Part.Ending p r where
  alloc := k.alloc.trans h.alloc
  last := k.last.trans h.last
  batch := k.batch.trans h.batch
  grant g x hx := by
    obtain ⟨v, hv, hkeeps, hstate⟩ := k.grant g x hx
    obtain ⟨w, hw, hkeeps', hstate'⟩ := h.grant g v hv
    refine ⟨w, hw, hkeeps.trans hkeeps', ?_⟩
    rcases hstate with hstate | hstate
    · rwa [hstate]
    · exact .inr hstate
  tenant t x hx hs := by
    obtain ⟨hgen, v, hv, hsame⟩ := h.tenant t x hx hs
    have hstatus : v.status = x.status := (congrArg TenantRecord.status hsame :)
    obtain ⟨hgen', w, hw, hsame'⟩ := k.tenant t v hv (hstatus ▸ hs)
    refine ⟨hgen'.trans hgen, w, hw, Eq.trans ?_ hsame⟩
    exact congrArg (fun u : TenantRecord => { u with grants := x.grants, lastFailure := x.lastFailure }) hsame'
  slots hnone := by
    obtain ⟨hq, hslots⟩ := h.slots hnone
    obtain ⟨hr, hslots'⟩ := k.slots hq
    exact ⟨hr, hslots'.trans hslots⟩

theorem foldl {α : Type} {f : Part → α → Part} (hf : ∀ p a, Part.Ending p (f p a)) (l : List α) (p : Part) :
    Part.Ending p (l.foldl f p) := by
  induction l generalizing p with
  | nil => exact refl p
  | cons a l ih => exact (hf p a).trans (ih _)

theorem of_aside (h : Part.Aside p q) : Part.Ending p q := by
  obtain ⟨_, _, _, rfl, hbatch⟩ := h
  exact of_same rfl rfl rfl rfl hbatch rfl

theorem of_mapOnly (h : Part.MapOnly p q) : Part.Ending p q := by
  obtain ⟨_, _, _, rfl⟩ := h
  exact of_same rfl rfl rfl rfl rfl rfl

end Part.Ending

/-- A grant's record goes, or is replaced by one with the same terms. -/
theorem Part.ending_setGrant {p : Part} {g : Nat} {v : Grant} (hv : p.grant g = some v) {x : Option Grant}
    (hx : ∀ r, x = some r → r.Keeps v ∧ (r.state = v.state ∨ r.state = .active)) : Part.Ending p (p.setGrant g x) where
  alloc := rfl
  last := rfl
  batch := rfl
  grant h r hr := by
    by_cases e : h = g
    · subst e
      rw [Part.grant_setGrant_self x hv] at hr
      exact ⟨v, hv, hx r hr⟩
    · rw [Part.grant_setGrant_ne _ _ _ _ e] at hr
      exact ⟨r, hr, .refl r, .inl rfl⟩
  tenant t r h _ := ⟨rfl, r, h, rfl⟩
  slots h := ⟨h, rfl⟩

/-- A tenant's record takes another grant list or last failure. -/
theorem Part.ending_setTenant {p : Part} {k : Nat} {t v : TenantRecord} (ht : p.tenant k = some t)
    (h : { v with grants := t.grants, lastFailure := t.lastFailure } = t) : Part.Ending p (p.setTenant k v) where
  alloc := rfl
  last := rfl
  batch := rfl
  grant g r hr := ⟨r, hr, .refl r, .inl rfl⟩
  tenant i r hr _ := by
    refine ⟨p.generation_setTenant k v i, ?_⟩
    by_cases e : i = k
    · subst e
      cases ht.symm.trans hr
      exact ⟨v, Part.tenant_setTenant_self v ht, h⟩
    · exact ⟨r, (Part.tenant_setTenant_ne _ _ _ _ e).trans hr, rfl⟩
  slots hnone := by
    refine ⟨fun i r hr => ?_, rfl⟩
    by_cases e : i = k
    · subst e
      rw [Part.tenant_setTenant_self v ht] at hr
      cases hr
      have hstatus : v.status = t.status := (congrArg TenantRecord.status h :)
      rw [hstatus]
      exact hnone i t ht
    · exact hnone i r ((Part.tenant_setTenant_ne _ _ _ _ e).symm.trans hr)

/-- The retire of a RETIRING tenant completes. -/
theorem Part.ending_completeRetire {p : Part} {k : Nat} {t : TenantRecord} (ht : p.tenant k = some t)
    (hs : t.status = .retiring) : Part.Ending p (p.completeRetire k) where
  alloc := rfl
  last := rfl
  batch := rfl
  grant g r hr := ⟨r, hr, .refl r, .inl rfl⟩
  tenant i r hr hstands := by
    have hne : i ≠ k := by
      rintro rfl
      cases ht.symm.trans hr
      exact hstands hs
    have hsame : (p.completeRetire k).tenants.getD i ⟨0, none⟩ = p.tenants.getD i ⟨0, none⟩ := by
      rw [Part.completeRetire_eq]
      simp [List.getD_eq_getElem?_getD, Ne.symm hne]
    exact ⟨congrArg Tenant.generation hsame, r, (congrArg Tenant.record hsame).trans hr, rfl⟩
  slots hnone := absurd hs (hnone k t ht)

theorem Part.ending_recordFailure (p : Part) (k g : Nat) (why : FailureReason) :
    Part.Ending p (p.recordFailure k g why) := by
  unfold Part.recordFailure
  split
  · exact .refl p
  · next ht => exact Part.ending_setTenant ht rfl

theorem Part.ending_unlist (p : Part) (k g : Nat) : Part.Ending p (p.unlist k g) := by
  unfold Part.unlist
  split
  · exact .refl p
  · next t ht =>
    dsimp only
    split
    · next h =>
      obtain ⟨hs, -⟩ : t.status = .retiring ∧ _ := by simpa using h
      refine (Part.ending_setTenant ht ?_).trans (Part.ending_completeRetire (Part.tenant_setTenant_self _ ht) ?_)
      · rfl
      · exact hs
    · exact Part.ending_setTenant ht rfl

theorem Part.ending_letGo (p : Part) (g : Nat) (level : Option Int) (ended : Option Nat) (keep : Nat → Bool) :
    Part.Ending p (p.letGo g level ended keep) := .of_mapOnly (p.mapOnly_letGo_of g level ended keep)

theorem Part.ending_freeGrant (p : Part) (g : Nat) (ended : Option Nat) : Part.Ending p (p.freeGrant g ended) := by
  unfold Part.freeGrant
  split
  · exact .refl p
  · next hr =>
    exact ((Part.ending_setGrant hr (x := none) nofun).trans (Part.ending_letGo _ _ _ _ _)).trans
      (Part.ending_unlist _ _ _)

/-! ### An abandoned job (R106, R118) -/

/-- The part once a job has left the list, the turnaround of its tenant begun where it had started. -/
def Part.withoutJob (p : Part) (j : Job) (k : Nat) (why : FailureReason) : Part :=
  ((p.turnaroundIfStarted j).dropJob j.id).abandonEvents j k why

theorem Part.aside_withoutJob (p : Part) (j : Job) (k : Nat) (why : FailureReason) :
    Part.Aside p (p.withoutJob j k why) :=
  ((p.aside_turnaroundIfStarted j).trans (Part.aside_setEngine _ _)).trans (Part.aside_abandonEvents _ _ _ _)

theorem Part.jobs_withoutJob (p : Part) (j : Job) (k : Nat) (why : FailureReason) :
    (p.withoutJob j k why).engine.jobs = p.engine.jobs.filter fun i => i.id != j.id := by
  have hevents : (p.withoutJob j k why).engine = ((p.turnaroundIfStarted j).dropJob j.id).engine := by
    unfold Part.withoutJob Part.abandonEvents
    split
    · rfl
    · split <;> rfl
  have hstarted : (p.turnaroundIfStarted j).engine.jobs = p.engine.jobs := by
    unfold Part.turnaroundIfStarted Part.beginTurnaround
    split
    · split <;> rfl
    · rfl
  rw [hevents, Part.dropJob_engine, hstarted]

/-- What the grant of an abandoned ACTIVATE is freed in: the job gone, its tenant told why. -/
def Part.failing (p : Part) (j : Job) (k : Nat) (why : FailureReason) : Part :=
  (p.withoutJob j k why).recordFailure k j.grant why

theorem Part.abandonOne_of_none {p : Part} {j : Job} (hr : p.grant j.grant = none) (why : FailureReason) :
    p.abandonOne j why = p.dropJob j.id := by
  simp only [Part.abandonOne, hr]

theorem Part.abandonOne_activate {p : Part} {j : Job} {r : Grant} (hr : p.grant j.grant = some r)
    (hk : j.kind = .activate) (why : FailureReason) : p.abandonOne j why =
      ((p.failing j r.tenant why).freeGrant j.grant none).reportEnd j false := by
  simp only [Part.abandonOne, hr, hk]
  rfl

theorem Part.abandonOne_change {p : Part} {j : Job} {r : Grant} (hr : p.grant j.grant = some r)
    (hk : j.kind ≠ .activate) (why : FailureReason) : p.abandonOne j why =
      (((p.withoutJob j r.tenant why).setGrant j.grant (some { r with state := .active })).letGo j.grant r.level none
        r.covers).reportEnd j false := by
  cases hkind : j.kind with
  | activate => exact absurd hkind hk
  | _ =>
    simp only [Part.abandonOne, hr, hkind]
    rfl

/-! ### A job that is completed (R122) -/

/-- What follows the record and the slices of DONE: the events, the job that leaves the list, the turnaround, and the
report to a batch. -/
def Part.signedOff (p : Part) (j : Job) (k : Nat) : Part := ((p.finishEvents j k).closing j.id k).reportEnd j true

theorem Part.aside_signedOff (p : Part) (j : Job) (k : Nat) : Part.Aside p (p.signedOff j k) :=
  ((p.aside_finishEvents j k).trans (Part.aside_closing _ _ _)).trans (Part.aside_reportEnd _ _ _)

theorem Part.jobs_signedOff (p : Part) (j : Job) (k : Nat) : (p.signedOff j k).engine.jobs =
    (p.engine.jobs.filter fun i => i.id != j.id).map fun i =>
      if i.after == some j.id then { i with after := none } else i := by
  rw [Part.signedOff, Part.engine_reportEnd, Part.jobs_closing, Part.finishEvents_frame]

/-- The record that a completed MOVE or RESIZE leaves, before its profile is selected. -/
def Grant.atEnd (r : Grant) (j : Job) : Grant :=
  match j.dest with
  | none => { r with state := .active }
  | some d => r.settledAt d

theorem Grant.keeps_atEnd (r : Grant) (j : Job) : (r.atEnd j).Keeps r ∧ (r.atEnd j).state = .active := by
  unfold Grant.atEnd
  split <;> exact ⟨.refl r, rfl⟩

/-- The record with the profile and the capacity of its place, where its tenant stands. -/
def Part.reselected (p : Part) (y : Grant) : Grant :=
  match p.tenant y.tenant with
  | none => y
  | some t => y.recomputed (p.placeProfile y.cls t ⟨y.first, y.width⟩)

theorem Part.reselected_eq (p : Part) (y : Grant) :
    ∃ profile capacity, p.reselected y = { y with profile := profile, capacity := capacity } := by
  unfold Part.reselected
  split
  · exact ⟨y.profile, y.capacity, rfl⟩
  · exact ⟨_, _, rfl⟩

theorem Part.recompute_setGrant {p : Part} {g : Nat} {r y : Grant} (hr : p.grant g = some r) (hs : y.state = .active) :
    (p.setGrant g (some y)).recompute g = p.setGrant g (some (p.reselected y)) := by
  have hy := Part.grant_setGrant_self (some y) hr
  cases ht : p.tenant y.tenant with
  | none =>
    have ht' : (p.setGrant g (some y)).tenant y.tenant = none := ht
    simp only [Part.recompute, hy, ht', Part.reselected, ht]
  | some t =>
    rw [Part.recompute_of_live hy (by exact ht) (by rw [hs]; nofun), Part.setGrant_setGrant]
    simp only [Part.reselected, ht]
    rfl

theorem Part.finishByReset_of_none {p : Part} {j : Job} (hr : p.grant j.grant = none) :
    p.finishByReset j = p.dropJob j.id := by
  simp only [Part.finishByReset, Part.finishWith, hr]

theorem Part.finishByReset_of_grant {p : Part} {j : Job} {r : Grant} (hr : p.grant j.grant = some r) :
    p.finishByReset j = ((Part.finishRecord Part.recompute p j r).finishSlices j).signedOff j r.tenant := by
  simp only [Part.finishByReset, Part.finishWith, hr]
  rfl

theorem Part.finishByReset_release {p : Part} {j : Job} {r : Grant} (hr : p.grant j.grant = some r)
    (hk : j.kind = .release) : p.finishByReset j = (p.freeGrant j.grant (some j.id)).signedOff j r.tenant := by
  rw [Part.finishByReset_of_grant hr]
  simp only [Part.finishRecord, Part.finishSlices, hk]

theorem Part.finishByReset_activate {p : Part} {j : Job} {r : Grant} (hr : p.grant j.grant = some r)
    (hk : j.kind = .activate) :
    p.finishByReset j = (p.setGrant j.grant (some { r with state := .active })).signedOff j r.tenant := by
  rw [Part.finishByReset_of_grant hr]
  simp only [Part.finishRecord, Part.finishSlices, hk]

theorem Part.finishRecord_change {p : Part} {j : Job} {r : Grant} (hr : p.grant j.grant = some r)
    (hk : j.kind = .move ∨ j.kind = .resize) :
    Part.finishRecord Part.recompute p j r = p.setGrant j.grant (some (p.reselected (r.atEnd j))) := by
  rw [← Part.recompute_setGrant hr (r.keeps_atEnd j).2]
  cases hd : j.dest <;> rcases hk with hk | hk <;> simp only [Part.finishRecord, hk, hd, Grant.atEnd] <;> rfl

theorem Part.finishByReset_change {p : Part} {j : Job} {r : Grant} (hr : p.grant j.grant = some r)
    (hk : j.kind = .move ∨ j.kind = .resize) : p.finishByReset j =
      ((p.setGrant j.grant (some (p.reselected (r.atEnd j)))).letGo j.grant r.level (some j.id)
        (r.atEnd j).covers).signedOff j r.tenant := by
  have hset := Part.grant_setGrant_self (some (p.reselected (r.atEnd j))) hr
  obtain ⟨profile, capacity, hy⟩ := p.reselected_eq (r.atEnd j)
  obtain ⟨⟨-, -, -, -, hlevel, -, -⟩, -⟩ := r.keeps_atEnd j
  have hslices : (p.setGrant j.grant (some (p.reselected (r.atEnd j)))).finishSlices j =
      (p.setGrant j.grant (some (p.reselected (r.atEnd j)))).letGo j.grant r.level (some j.id) (r.atEnd j).covers := by
    rw [← hlevel]
    rcases hk with hk | hk <;> simp only [Part.finishSlices, hk, hset] <;> rw [hy] <;> rfl
  rw [Part.finishByReset_of_grant hr, Part.finishRecord_change hr hk, hslices]

/-! ### What any ending leaves -/

/-- Between `p` and `q` the job has ended: beside what `Part.Ending` lists it is gone from the list, the other jobs
stand for their grants under their ids, and its grant is ACTIVE or free. -/
structure Part.JobEnded (p : Part) (j : Job) (q : Part) : Prop extends Part.Ending p q where
  jobs : ∃ f : Job → Job, (∀ i, (f i).id = i.id ∧ (f i).grant = i.grant) ∧
    q.engine.jobs = (p.engine.jobs.filter fun i => i.id != j.id).map f
  settled : ∀ v, q.grant j.grant = some v → v.state = .active

theorem Part.recordFailure_frame (p : Part) (k g : Nat) (why : FailureReason) :
    p.recordFailure k g why = { p with tenants := (p.recordFailure k g why).tenants } := by
  unfold Part.recordFailure
  split <;> rfl

/-- What the freeing of a grant leaves beside its tenant. -/
theorem Part.freeGrant_fields {p : Part} {g : Nat} {r : Grant} (hr : p.grant g = some r) (ended : Option Nat) :
    let v := p.freeGrant g ended
    let w := (p.setGrant g none).letGo g r.level ended fun _ => false
    v.grants = p.grants.set g none ∧ v.engine.jobs = p.engine.jobs ∧ v.slices = w.slices ∧ v.level = w.level := by
  have hfree : p.freeGrant g ended =
      ((p.setGrant g none).letGo g r.level ended fun _ => false).unlist r.tenant g := by simp only [Part.freeGrant, hr]
  have hmap := (p.setGrant g none).mapOnly_letGo_of g r.level ended fun _ => false
  dsimp only
  rw [hfree]
  generalize (p.setGrant g none).letGo g r.level ended (fun _ => false) = w at hmap
  obtain ⟨-, hjobs⟩ := w.unlist_keeps r.tenant g
  refine ⟨?_, hjobs.trans (by rw [hmap.engine]; rfl), ?_, ?_⟩
  · rw [Part.unlist_frame]
    exact hmap.grants
  · rw [Part.unlist_frame]
  · rw [Part.unlist_frame]

theorem Part.grant_set_self {p q : Part} {g : Nat} {x : Option Grant} {v : Grant} (h : q.grants = p.grants.set g x)
    (hv : q.grant g = some v) : x = some v := by
  have hlt : g < p.grants.length := by simpa [h] using Part.lt_of_grant hv
  simpa [Part.grant, h, List.getD_eq_getElem?_getD, hlt] using hv

theorem Part.grant_set_ne {p q : Part} {g k : Nat} {x : Option Grant} (h : q.grants = p.grants.set g x) (hk : k ≠ g) :
    q.grant k = p.grant k := (Part.grant_congr (q := q) (p := p.setGrant g x) h k).trans (p.grant_setGrant_ne g x k hk)

/-! ### The two endings, field by field -/

section
variable {p : Part} {j : Job} {r : Grant}

theorem Part.failing_fields (p : Part) (j : Job) (k : Nat) (why : FailureReason) :
    let a := p.failing j k why
    a.grants = p.grants ∧ a.slices = p.slices ∧ a.level = p.level ∧ a.split = p.split ∧
      a.engine.jobs = p.engine.jobs.filter fun i => i.id != j.id := by
  have haside := p.aside_withoutJob j k why
  dsimp only
  rw [Part.failing, Part.recordFailure_frame]
  exact ⟨haside.grants, haside.slices, haside.level, haside.split, p.jobs_withoutJob j k why⟩

theorem Part.grants_abandonOne_activate (hr : p.grant j.grant = some r) (hk : j.kind = .activate)
    (why : FailureReason) :
    (p.abandonOne j why).grants = p.grants.set j.grant none := by
  obtain ⟨hgrants, -⟩ := p.failing_fields j r.tenant why
  obtain ⟨hfree, -⟩ := Part.freeGrant_fields ((Part.grant_congr hgrants _).trans hr) none
  rw [Part.abandonOne_activate hr hk, (Part.aside_reportEnd _ _ _).grants]
  exact hfree.trans (by rw [hgrants])

theorem Part.grants_abandonOne_change (hr : p.grant j.grant = some r) (hk : j.kind ≠ .activate) (why : FailureReason) :
    (p.abandonOne j why).grants = p.grants.set j.grant (some { r with state := .active }) := by
  rw [Part.abandonOne_change hr hk, (Part.aside_reportEnd _ _ _).grants, (Part.mapOnly_letGo_of _ _ _ _ _).grants,
    Part.setGrant_grants, (p.aside_withoutJob j r.tenant why).grants]

theorem Part.jobs_abandonOne (p : Part) (j : Job) (why : FailureReason) :
    (p.abandonOne j why).engine.jobs = p.engine.jobs.filter fun i => i.id != j.id := by
  cases hr : p.grant j.grant with
  | none => rw [Part.abandonOne_of_none hr, Part.dropJob_engine]
  | some r =>
    by_cases hk : j.kind = .activate
    · obtain ⟨hgrants, -, -, -, hjobs⟩ := p.failing_fields j r.tenant why
      obtain ⟨-, hfree, -⟩ := Part.freeGrant_fields ((Part.grant_congr hgrants _).trans hr) none
      rw [Part.abandonOne_activate hr hk, Part.engine_reportEnd]
      exact hfree.trans hjobs
    · rw [Part.abandonOne_change hr hk, Part.engine_reportEnd, (Part.mapOnly_letGo_of _ _ _ _ _).engine,
        Part.setGrant_engine, Part.jobs_withoutJob]

theorem Part.grants_finishByReset_release (hr : p.grant j.grant = some r) (hk : j.kind = .release) :
    (p.finishByReset j).grants = p.grants.set j.grant none := by
  rw [Part.finishByReset_release hr hk, (Part.aside_signedOff _ _ _).grants]
  exact (Part.freeGrant_fields hr _).1

theorem Part.grants_finishByReset_activate (hr : p.grant j.grant = some r) (hk : j.kind = .activate) :
    (p.finishByReset j).grants = p.grants.set j.grant (some { r with state := .active }) := by
  rw [Part.finishByReset_activate hr hk, (Part.aside_signedOff _ _ _).grants, Part.setGrant_grants]

theorem Part.grants_finishByReset_change (hr : p.grant j.grant = some r) (hk : j.kind = .move ∨ j.kind = .resize) :
    (p.finishByReset j).grants = p.grants.set j.grant (some (p.reselected (r.atEnd j))) := by
  rw [Part.finishByReset_change hr hk, (Part.aside_signedOff _ _ _).grants, (Part.mapOnly_letGo_of _ _ _ _ _).grants,
    Part.setGrant_grants]

theorem Part.jobs_finishByReset (p : Part) (j : Job) : ∃ f : Job → Job, (∀ i, (f i).id = i.id ∧ (f i).grant = i.grant) ∧
    (p.finishByReset j).engine.jobs = (p.engine.jobs.filter fun i => i.id != j.id).map f := by
  cases hr : p.grant j.grant with
  | none => exact ⟨id, fun _ => ⟨rfl, rfl⟩, by rw [Part.finishByReset_of_none hr, Part.dropJob_engine, List.map_id]⟩
  | some r =>
    have hrecord : (Part.finishRecord Part.recompute p j r).engine = p.engine := by
      cases hk : j.kind with
      | release => simp only [Part.finishRecord, hk]
      | activate => simp only [Part.finishRecord, hk, Part.setGrant_engine]
      | move => rw [Part.finishRecord_change hr (.inl hk), Part.setGrant_engine]
      | resize => rw [Part.finishRecord_change hr (.inr hk), Part.setGrant_engine]
    refine ⟨fun i => if i.after == some j.id then { i with after := none } else i, fun i => ?_, ?_⟩
    · dsimp only
      split <;> exact ⟨rfl, rfl⟩
    · obtain ⟨-, hjobs⟩ := (Part.finishRecord Part.recompute p j r).finishSlices_keeps j
      rw [Part.finishByReset_of_grant hr, Part.jobs_signedOff, hjobs, hrecord]

end

theorem Part.ending_reselected {p : Part} {g : Nat} {r y : Grant} (hr : p.grant g = some r) (hk : y.Keeps r)
    (hs : y.state = .active) : Part.Ending p (p.setGrant g (some (p.reselected y))) := by
  refine Part.ending_setGrant hr fun x hx => ?_
  obtain ⟨profile, capacity, hy⟩ := p.reselected_eq y
  cases hx
  rw [hy]
  exact ⟨hk, .inr hs⟩

theorem Part.jobEnded_abandonOne (p : Part) (j : Job) (why : FailureReason) :
    Part.JobEnded p j (p.abandonOne j why) := by
  have hjobs : ∃ f : Job → Job, (∀ i, (f i).id = i.id ∧ (f i).grant = i.grant) ∧
      (p.abandonOne j why).engine.jobs = (p.engine.jobs.filter fun i => i.id != j.id).map f :=
    ⟨id, fun _ => ⟨rfl, rfl⟩, (p.jobs_abandonOne j why).trans (List.map_id _).symm⟩
  cases hr : p.grant j.grant with
  | none =>
    rw [Part.abandonOne_of_none hr] at hjobs ⊢
    exact ⟨.of_aside (p.aside_setEngine _), hjobs, fun v hv => absurd (hr.symm.trans hv) nofun⟩
  | some r =>
    have haside := p.aside_withoutJob j r.tenant why
    have hr' := (Part.grant_congr haside.grants j.grant).trans hr
    by_cases hk : j.kind = .activate
    · have hgrants := Part.grants_abandonOne_activate hr hk why
      rw [Part.abandonOne_activate hr hk] at hjobs hgrants ⊢
      refine ⟨(((Part.Ending.of_aside haside).trans (Part.ending_recordFailure _ _ _ _)).trans
        (Part.ending_freeGrant _ _ _)).trans (.of_aside (Part.aside_reportEnd _ _ _)), hjobs, fun v hv => ?_⟩
      cases Part.grant_set_self hgrants hv
    · have hgrants := Part.grants_abandonOne_change hr hk why
      rw [Part.abandonOne_change hr hk] at hjobs hgrants ⊢
      refine ⟨(((Part.Ending.of_aside haside).trans (Part.ending_setGrant hr' ?_)).trans
        (Part.ending_letGo _ _ _ _ _)).trans (.of_aside (Part.aside_reportEnd _ _ _)), hjobs, fun v hv => ?_⟩
      · rintro _ ⟨⟩
        exact ⟨.refl r, .inr rfl⟩
      · cases Part.grant_set_self hgrants hv
        rfl

theorem Part.jobEnded_finishByReset (p : Part) (j : Job) : Part.JobEnded p j (p.finishByReset j) := by
  have hjobs := p.jobs_finishByReset j
  cases hr : p.grant j.grant with
  | none =>
    rw [Part.finishByReset_of_none hr] at hjobs ⊢
    exact ⟨.of_aside (p.aside_setEngine _), hjobs, fun v hv => absurd (hr.symm.trans hv) nofun⟩
  | some r =>
    have change : j.kind = .move ∨ j.kind = .resize → Part.JobEnded p j (p.finishByReset j) := fun hk => by
      have hgrants := Part.grants_finishByReset_change hr hk
      obtain ⟨hkeeps, hactive⟩ := r.keeps_atEnd j
      rw [Part.finishByReset_change hr hk] at hjobs hgrants ⊢
      refine ⟨((Part.ending_reselected hr hkeeps hactive).trans (Part.ending_letGo _ _ _ _ _)).trans
        (.of_aside (Part.aside_signedOff _ _ _)), hjobs, fun v hv => ?_⟩
      obtain ⟨profile, capacity, hy⟩ := p.reselected_eq (r.atEnd j)
      cases Part.grant_set_self hgrants hv
      rw [hy]
      exact hactive
    cases hk : j.kind with
    | release =>
      have hgrants := Part.grants_finishByReset_release hr hk
      rw [Part.finishByReset_release hr hk] at hjobs hgrants ⊢
      refine ⟨(Part.ending_freeGrant _ _ _).trans (.of_aside (Part.aside_signedOff _ _ _)), hjobs, fun v hv => ?_⟩
      cases Part.grant_set_self hgrants hv
    | activate =>
      have hgrants := Part.grants_finishByReset_activate hr hk
      rw [Part.finishByReset_activate hr hk] at hjobs hgrants ⊢
      refine ⟨(Part.ending_setGrant hr ?_).trans (.of_aside (Part.aside_signedOff _ _ _)), hjobs, fun v hv => ?_⟩
      · rintro _ ⟨⟩
        exact ⟨.refl r, .inr rfl⟩
      · cases Part.grant_set_self hgrants hv
        rfl
    | move => exact change (.inl hk)
    | resize => exact change (.inr hk)

/-! ### The whole list (R122, R123) -/

theorem Part.job_mem {p : Part} {id : Nat} {j : Job} (h : p.job id = some j) : j ∈ p.engine.jobs ∧ j.id = id :=
  ⟨List.mem_of_find?_eq_some h, by simpa using List.find?_some h⟩

theorem Part.ending_abandon (p : Part) (id : Nat) (why : FailureReason) : Part.Ending p (p.abandon id why) := by
  unfold Part.abandon
  split
  · exact .refl p
  · refine (p.jobEnded_abandonOne _ _).toEnding.trans (Part.Ending.foldl (fun q w => ?_) _ _)
    split
    · exact (q.jobEnded_abandonOne _ _).toEnding
    · exact .refl q

theorem Part.ending_resetJob (p : Part) (id : Nat) : Part.Ending p (p.resetJob id) := by
  unfold Part.resetJob
  split
  · exact .refl p
  · split
    · exact (p.jobEnded_finishByReset _).toEnding
    · exact p.ending_abandon _ _

/-- The ids of the jobs in the list. -/
def Part.jobIds (p : Part) : List Nat := p.engine.jobs.map (·.id)

theorem Part.JobEnded.jobIds {p q : Part} {j : Job} (h : Part.JobEnded p j q) :
    q.jobIds = p.jobIds.filter (· != j.id) := by
  obtain ⟨f, hf, hjobs⟩ := h.jobs
  have hid : (fun i : Job => i.id) ∘ f = fun i => i.id := funext fun i => (hf i).1
  rw [Part.jobIds, hjobs, List.map_map, hid, Part.jobIds, List.filter_map]
  rfl

/-- The ids are distinct, and every grant that is not ACTIVE has a job. -/
def Part.accountsForGrants (p : Part) : Prop :=
  p.jobIds.Nodup ∧ ∀ g r, p.grant g = some r → r.state ≠ .active → ∃ j ∈ p.engine.jobs, j.grant = g

theorem Part.JobEnded.accountsForGrants {p q : Part} {j : Job} (h : Part.JobEnded p j q) (hj : j ∈ p.engine.jobs)
    (hp : p.accountsForGrants) : q.accountsForGrants := by
  obtain ⟨hnodup, hgrants⟩ := hp
  refine ⟨by rw [h.jobIds]; exact hnodup.filter _, fun g r hr hs => ?_⟩
  obtain ⟨v, hv, -, hstate⟩ := h.grant g r hr
  obtain ⟨k, hk, rfl⟩ := hgrants g v hv (by rwa [← hstate.resolve_right hs])
  have hne : k.id ≠ j.id := fun e => by
    cases List.inj_on_of_nodup_map hnodup hk hj e
    exact hs (h.settled r hr)
  obtain ⟨f, hf, hjobs⟩ := h.jobs
  refine ⟨f k, ?_, (hf k).2⟩
  rw [hjobs]
  exact List.mem_map_of_mem (List.mem_filter.mpr ⟨hk, by simpa using hne⟩)

/-- What waited on an abandoned job is abandoned in turn, and the list still accounts for the grants. -/
theorem Part.accountsForGrants_abandon {p : Part} (hp : p.accountsForGrants) (id : Nat) (why : FailureReason) :
    (p.abandon id why).accountsForGrants := by
  unfold Part.abandon
  split
  · exact hp
  · next j hj =>
    generalize (p.engine.jobs.filter fun w => w.after == some id) = ws
    have hq := (p.jobEnded_abandonOne j why).accountsForGrants (Part.job_mem hj).1 hp
    generalize p.abandonOne j why = q at hq
    induction ws generalizing q with
    | nil => exact hq
    | cons w ws ih =>
      refine ih _ ?_
      dsimp only
      split
      · next k hk => exact (q.jobEnded_abandonOne k _).accountsForGrants (Part.job_mem hk).1 hq
      · exact hq

theorem Part.accountsForGrants_resetJob {p : Part} (hp : p.accountsForGrants) (id : Nat) :
    (p.resetJob id).accountsForGrants := by
  unfold Part.resetJob
  split
  · exact hp
  · next j hj =>
    split
    · exact (p.jobEnded_finishByReset j).accountsForGrants (Part.job_mem hj).1 hp
    · exact Part.accountsForGrants_abandon hp _ _

/-- No job of the id is left, and none has joined the list. -/
theorem Part.mem_jobIds_resetJob {p : Part} {id i : Nat} (h : i ∈ (p.resetJob id).jobIds) : i ∈ p.jobIds ∧ i ≠ id := by
  unfold Part.resetJob at h
  split at h
  · next hj =>
    refine ⟨h, ?_⟩
    rintro rfl
    obtain ⟨j, hmem, rfl⟩ := List.mem_map.mp h
    simpa using List.find?_eq_none.mp hj j hmem
  · next j hj =>
    obtain ⟨-, rfl⟩ := Part.job_mem hj
    split at h
    · rw [(p.jobEnded_finishByReset j).jobIds] at h
      simpa using h
    · suffices hsub : i ∈ (p.abandonOne j .reset).jobIds by
        rw [(p.jobEnded_abandonOne j _).jobIds] at hsub
        simpa using hsub
      rw [Part.abandon, hj] at h
      dsimp only at h
      generalize (p.engine.jobs.filter fun w => w.after == some j.id) = ws at h
      generalize p.abandonOne j .reset = q at h ⊢
      induction ws generalizing q with
      | nil => exact h
      | cons w ws ih =>
        have hstep := ih _ h
        dsimp only at hstep
        split at hstep
        · rw [(q.jobEnded_abandonOne _ _).jobIds] at hstep
          exact (List.mem_filter.mp hstep).1
        · exact hstep

/-- The part once every job has ended, in list order. -/
def Part.jobsEnded (p : Part) : Part := p.jobIds.foldl Part.resetJob p

theorem Part.ending_jobsEnded (p : Part) : Part.Ending p p.jobsEnded := .foldl Part.ending_resetJob _ p

theorem Part.kept_jobsEnded (p : Part) : Part.Kept 0 p p.jobsEnded := by
  refine Part.Kept.foldl (fun q id => ?_) _ p
  unfold Part.resetJob
  split
  · exact .refl q
  · split
    · exact q.kept_finishByReset _
    · exact q.kept_abandon _ _

theorem Part.jobs_jobsEnded (p : Part) : p.jobsEnded.engine.jobs = [] := by
  suffices h : ∀ (ids : List Nat) (q : Part) (i : Nat),
      i ∈ (ids.foldl Part.resetJob q).jobIds → i ∈ q.jobIds ∧ i ∉ ids by
    have hnone : p.jobsEnded.jobIds = [] := List.eq_nil_iff_forall_not_mem.mpr fun i hi => by
      obtain ⟨hmem, hnot⟩ := h _ p i hi
      exact hnot hmem
    simpa [Part.jobIds] using hnone
  intro ids
  induction ids with
  | nil => exact fun q i hi => ⟨hi, by simp⟩
  | cons id ids ih =>
    intro q i hi
    obtain ⟨hmem, hnot⟩ := ih _ i hi
    obtain ⟨hq, hne⟩ := Part.mem_jobIds_resetJob hmem
    exact ⟨hq, by simp [hne, hnot]⟩

/-- With no job left every grant in use is ACTIVE. -/
theorem Part.active_jobsEnded {p : Part} (hp : p.accountsForGrants) {g : Nat} {r : Grant}
    (hr : p.jobsEnded.grant g = some r) : r.state = .active := by
  have hend : ∀ (ids : List Nat) (q : Part), q.accountsForGrants → (ids.foldl Part.resetJob q).accountsForGrants := by
    intro ids
    induction ids with
    | nil => exact fun _ hq => hq
    | cons id ids ih => exact fun q hq => ih _ (Part.accountsForGrants_resetJob hq id)
  by_contra hs
  obtain ⟨j, hj, -⟩ := (hend p.jobIds p hp).2 g r hr hs
  cases (p.jobs_jobsEnded ▸ hj : j ∈ [])

end Sys2Proof.Machine
end

section
/-! SUPPORT. How ENGINE_RESET ends the jobs (R122, R123), II: what the acts beside the jobs' endings leave (R175). -/

namespace Sys2Proof.Machine

/-! ### The batch, the monitor and the raised sets -/

/-- The part as ENGINE_RESET leaves it once the jobs have ended: the timers stopped, the batch ended with `last`, the
raised sets cleared but for RESET_DONE. -/
def Part.cleared (e : Part) (monitor : Monitor) (last : Option LastBatch) : Part :=
  { e with
    engine := { e.engine with turnaround := e.engine.turnaround.map fun _ => none }
    monitor := monitor
    store := { e.store with batch := none, last := last }
    events := { e.events.cleared with plantRaised := 0x40 } }

/-- The monitor with its counts cleared and its sweep started anew. -/
def Part.restartedMonitor (e : Part) : Monitor :=
  let n := e.firstMeasurable e.monitor.active.first e.monitor.active.last
  { e.monitor with
    quality := e.monitor.quality.map fun (q : QualityEntry) => { q with strikes := 0, clears := 0 }
    restartWaiting := false
    pointer := n.getD e.monitor.active.first
    dwell := n.map fun k => ⟨k, e.monitor.active.dwell⟩ }

/-- A batch that runs is ended by the reset; the hold is clear already. -/
theorem Part.resetBatch_frame {q : Part} (hold : q.alloc.restoreHold = false) : ∃ last raised,
    q.resetBatch = { q with
      store := { q.store with batch := none, last := last }
      events := { q.events with plantRaised := raised } } ∧
    (q.store.batch = none → last = q.store.last) ∧ (q.store.batch.isSome → ∃ c, last = some ⟨c, true⟩) := by
  unfold Part.resetBatch
  cases hb : q.store.batch with
  | none =>
    refine ⟨q.store.last, q.events.plantRaised, ?_, fun _ => rfl, nofun⟩
    simp only [Part.mapBatch, Part.endBatch, hb, Option.map_none]
  | some b =>
    refine ⟨some ⟨b.counts.lose (b.items.length + b.levels.length), true⟩,
      q.events.plantRaised ||| PlantEvent.lineupDone.bit, ?_, nofun, fun _ => ⟨_, rfl⟩⟩
    have halloc : { q.alloc with restoreHold := false } = q.alloc := by rw [← hold]
    rw [Part.mapBatch_of_batch hb, Part.endBatch_of_batch rfl]
    simp only [halloc]
    rfl

theorem Part.engineReset_frame (p : Part) :
    let e := p.resetAlloc.jobsEnded
    ∃ last, p.engineReset = e.cleared e.restartedMonitor last ∧ (e.store.batch = none → last = e.store.last) ∧
      (e.store.batch.isSome → ∃ c, last = some ⟨c, true⟩) := by
  have hold : p.resetAlloc.resetJobs.alloc.restoreHold = false := by
    rw [show p.resetAlloc.resetJobs.alloc = _ from p.resetAlloc.ending_jobsEnded.alloc]
    rfl
  obtain ⟨last, raised, hbatch, hnone, hsome⟩ := Part.resetBatch_frame hold
  refine ⟨last, ?_, hnone, hsome⟩
  have hbit : (0 : PlantEventSet) ||| PlantEvent.resetDone.bit = 0x40 := by decide
  rw [Part.engineReset, hbatch, Part.cleared, ← hbit]
  rfl

/-! ### What ENGINE_RESET leaves, from every state (R175) -/

/-- Every grant that is not ACTIVE has a job, where the ids of the jobs are distinct. -/
theorem Part.accountsForGrants_resetAlloc {p : Part} (hids : (p.engine.jobs.map (·.id)).Nodup)
    (hjobs : ∀ g r, p.grant g = some r → r.state ≠ .active → ∃ j ∈ p.engine.jobs, j.grant = g) :
    p.resetAlloc.accountsForGrants := ⟨hids, hjobs⟩

/-- All work has ended, the counts and the raised sets are clear. -/
theorem Part.engineReset_ends (p : Part) : let u := p.engineReset
    u.engine.jobs = [] ∧ u.alloc.work = [] ∧ u.alloc.restoreHold = false ∧ u.alloc.reply = p.alloc.reply ∧
      u.store.batch = none ∧ u.events.plantRaised = 0x40 ∧ (∀ t, u.events.raised.getD t 0 = 0) ∧
      (∀ t, u.engine.turnaround.getD t none = none) ∧ u.monitor.restartWaiting = false ∧
      (∀ n, (u.qualityOf n).strikes = 0 ∧ (u.qualityOf n).clears = 0 ∧
        (u.qualityOf n).smoothed = (p.qualityOf n).smoothed) ∧
      u.monitor.dwell = (u.firstMeasurable u.monitor.active.first u.monitor.active.last).map
        fun n => ⟨n, u.monitor.active.dwell⟩ := by
  obtain ⟨last, hu, -⟩ := p.engineReset_frame
  have hkept := p.resetAlloc.kept_jobsEnded
  have hend := p.resetAlloc.ending_jobsEnded
  have hjobs := p.resetAlloc.jobs_jobsEnded
  dsimp only at hu ⊢
  rw [hu]
  have hwork : p.resetAlloc.jobsEnded.alloc = p.resetAlloc.alloc := hend.alloc
  have hmonitor : p.resetAlloc.jobsEnded.monitor = p.monitor := hkept.monitor
  generalize p.resetAlloc.jobsEnded = e at hjobs hwork hmonitor ⊢
  refine ⟨hjobs, (congrArg Allocator.work hwork :), (congrArg Allocator.restoreHold hwork :),
    (congrArg Allocator.reply hwork :), rfl, rfl,
    fun t => List.getD_map (d := 0) _ _, fun t => List.getD_map (d := none) _ _, rfl, fun n => ?_, rfl⟩
  have hquality : (e.cleared e.restartedMonitor last).qualityOf n =
      { p.qualityOf n with strikes := 0, clears := 0 } := by
    rw [Part.qualityOf, Part.qualityOf, ← hmonitor]
    exact List.getD_map (d := (⟨none, none, 0, 0⟩ : QualityEntry)) _ _
  rw [hquality]
  exact ⟨rfl, rfl, rfl⟩

/-- The configuration stands. -/
theorem Part.engineReset_keeps (p : Part) : let u := p.engineReset
    u.store.slots.length = p.store.slots.length ∧ u.store.top = p.store.top ∧ u.events.masks = p.events.masks ∧
      u.events.plantMask = p.events.plantMask ∧ u.engine.quiet = p.engine.quiet ∧
      u.engine.nextId = p.engine.nextId ∧ u.split = p.split ∧ u.monitor.active = p.monitor.active ∧
      u.monitor.waiting = p.monitor.waiting ∧ u.ready = p.ready ∧
      u.level = { p.level with overCap := u.level.overCap } ∧ u.engine.voice = p.engine.voice ∧
      u.engine.video = p.engine.video ∧ u.engine.data = p.engine.data ∧ u.monitor.qt = p.monitor.qt ∧
      u.monitor.rt = p.monitor.rt ∧ u.monitor.nq = p.monitor.nq ∧ u.monitor.nr = p.monitor.nr ∧
      u.store.overflowMasked = p.store.overflowMasked := by
  obtain ⟨last, hu, -⟩ := p.engineReset_frame
  have hkept := p.resetAlloc.kept_jobsEnded
  have hmonitor : p.resetAlloc.jobsEnded.monitor = p.monitor := hkept.monitor
  dsimp only at hu ⊢
  rw [hu]
  exact ⟨hkept.slots, hkept.top, hkept.masks, hkept.plantMask, hkept.quiet, hkept.nextId rfl, hkept.split,
    (congrArg Monitor.active hmonitor :), (congrArg Monitor.waiting hmonitor :), hkept.ready, hkept.level, hkept.voice,
    hkept.video, hkept.data, (congrArg Monitor.qt hmonitor :), (congrArg Monitor.rt hmonitor :),
    (congrArg Monitor.nq hmonitor :), (congrArg Monitor.nr hmonitor :), hkept.overflow⟩

/-- What stands of the tenants, the slots, the grants and the last batch. -/
theorem Part.engineReset_ending (p : Part) : let u := p.engineReset
    (∀ t r, p.tenant t = some r → r.status ≠ .retiring → u.generation t = p.generation t ∧
      ∃ v, u.tenant t = some v ∧ { v with grants := r.grants, lastFailure := r.lastFailure } = r) ∧
    (p.noneRetiring → u.store.slots = p.store.slots) ∧ (p.store.batch = none → u.store.last = p.store.last) ∧
    (p.store.batch.isSome → ∃ c, u.store.last = some ⟨c, true⟩) ∧
    (p.resetAlloc.accountsForGrants → ∀ g r, u.grant g = some r → r.state = .active) ∧
    ∀ g r, u.grant g = some r → ∃ v, p.grant g = some v ∧ r.Keeps v := by
  obtain ⟨last, hu, hnone, hsome⟩ := p.engineReset_frame
  have hend := p.resetAlloc.ending_jobsEnded
  have hbatch : p.resetAlloc.jobsEnded.store.batch.isSome = p.store.batch.isSome := hend.batch
  dsimp only at hu hnone hsome ⊢
  rw [hu]
  refine ⟨hend.tenant, fun h => (hend.slots h).2, fun h => (hnone ?_).trans hend.last,
    fun h => hsome (hbatch.trans h), fun h g r hr => Part.active_jobsEnded h hr, fun g r hr => ?_⟩
  · rw [h] at hbatch
    simpa using hbatch
  · obtain ⟨v, hv, hkeeps, -⟩ := hend.grant g r hr
    exact ⟨v, hv, hkeeps⟩

end Sys2Proof.Machine
end

section
/-! SUPPORT. How ENGINE_RESET ends the jobs (R122, R123), III: the map and the tenant after the ending of a
single job. -/

namespace Sys2Proof.Machine

/-! ### The composite beside a job that has ended (R90, R91) -/

/-- What carriers weigh is read from the tilt alone. -/
theorem Part.carriersWeight_congr {p q : Part} (hoffset : q.offset = p.offset) :
    q.carriersWeight = p.carriersWeight := by
  have hone : q.carrierWeight = p.carrierWeight := by
    funext l c
    simp only [Part.carrierWeight, hoffset]
  funext l cs
  rw [Part.carriersWeight, Part.carriersWeight, hone]

/-- Jobs of one grant, itself ACTIVE or free, take no part in the composite. -/
theorem Part.composite_of_settled {p q : Part} {g : Nat} (hoffset : q.offset = p.offset) (hslices : q.slices = p.slices)
    (hgrants : q.grants = p.grants) (hp : ∀ i ∈ p.engine.jobs, i.grant = g) (hq : ∀ i ∈ q.engine.jobs, i.grant = g)
    (hg : ∀ r, p.grant g = some r → r.state = .active) : q.composite = p.composite := by
  have hother : ∀ {v : Part}, (∀ i ∈ v.engine.jobs, i.grant = g) → ∀ k, k ≠ g → v.jobOf k = none := fun hv k hk =>
    List.find?_eq_none.mpr fun i hi => by simpa [hv i hi] using Ne.symm hk
  have hcounted : ∀ k r, p.grant k = some r → r.counted (q.jobOf k) = r.counted (p.jobOf k) := fun k r hr => by
    by_cases hk : k = g
    · have hactive := hg r (hk ▸ hr)
      rw [Grant.counted_own (.inr (.inl hactive)), Grant.counted_own (.inr (.inl hactive))]
    · rw [hother hp k hk, hother hq k hk]
  have hcontribution : q.contribution = p.contribution := by
    funext k
    simp only [Part.contribution, Part.grant_congr hgrants, Part.carriersWeight_congr hoffset]
    cases hr : p.grant k with
    | none => rfl
    | some r => simp only [hcounted k r hr]
  rw [Part.composite, Part.composite, hcontribution, Part.fillsWeight_congr hoffset, hslices]

/-- Letting go in `w`, told of a `p` with the same map and level, and of a `v` that a job's ending has left. -/
theorem Part.letGoSince_of_ended {p w v : Part} {g : Nat} {level : Option Int} {ended : Option Nat} {keep : Nat → Bool}
    (hlen : p.slices.length = 1024) (hslices : w.slices = p.slices) (hlevel : w.level = p.level)
    (hsplit : w.split = p.split) (hwaiter : w.waiterOf ended = none) (hjobs : ∀ i ∈ w.engine.jobs, i.grant = g)
    (hactive : ∀ r, w.grant g = some r → r.state = .active) (hvjobs : v.engine.jobs = [])
    (hvgrants : v.grants = w.grants) (hvslices : v.slices = (w.letGo g level ended keep).slices)
    (hvlevel : v.level = (w.letGo g level ended keep).level) : p.letGoSince v g level keep := by
  have h := Part.letGoSince_letGo (g := g) (hslices ▸ hlen) hwaiter level keep
  have hmap := w.mapOnly_letGo_of g level ended keep
  generalize w.letGo g level ended keep = x at h hmap hvslices hvlevel
  have hgrants : v.grants = x.grants := hvgrants.trans hmap.grants.symm
  have hoffset : p.offset = w.offset := by
    funext n
    simp only [Part.offset, hsplit, hlevel]
  have hcomposite : ∀ s, ({ p with grants := v.grants, engine := v.engine, slices := s } : Part).composite =
      ({ w with grants := x.grants, engine := x.engine, slices := s } : Part).composite := fun s => by
    refine Part.composite_of_settled (g := g) hoffset rfl hgrants ?_ ?_ fun r hr =>
      hactive r ((Part.grant_congr hmap.grants g).symm.trans hr)
    · rw [hmap.engine]
      exact hjobs
    · simp [hvjobs]
  unfold Part.letGoSince at h ⊢
  simpa only [hvslices, hvlevel, hcomposite, Part.slice_congr hvslices, Part.slice_congr hslices, hslices, hlevel,
    hsplit] using h

/-! ### The tenant of a freed grant (R38, R55) -/

/-- In `u` the grant `k` of a tenant that stands in `p` is free, and the tenant has lost it, with `failure` as its last
failure; or its retire is complete. -/
def Part.frees (p u : Part) (k : Nat) (g : Grant) (t : TenantRecord) (failure : Option (Nat × FailureReason)) : Prop :=
  let rest := t.grants.filter fun h => h != k
  u.grant k = none ∧
    (t.status ≠ .retiring ∨ rest ≠ [] → u.tenant g.tenant = some { t with grants := rest, lastFailure := failure }) ∧
    (t.status = .retiring → rest = [] → u.tenant g.tenant = none ∧
      u.generation g.tenant = (p.generation g.tenant + 1) % 256)

theorem Part.tenant_freeGrant {p : Part} {k : Nat} {g : Grant} {t : TenantRecord} (hg : p.grant k = some g)
    (ht : p.tenant g.tenant = some t) (ended : Option Nat) : p.frees (p.freeGrant k ended) k g t t.lastFailure := by
  have hmap := (p.setGrant k none).mapOnly_letGo_of k g.level ended fun _ => false
  obtain ⟨hgrants, -⟩ := Part.freeGrant_fields hg ended
  refine ⟨?_, fun h => ?_, fun hs h => ?_⟩
  · cases hnone : (p.freeGrant k ended).grant k with
    | none => rfl
    | some v => cases Part.grant_set_self hgrants hnone
  all_goals
    have hfree : p.freeGrant k ended =
        ((p.setGrant k none).letGo k g.level ended fun _ => false).unlist g.tenant k := by simp only [Part.freeGrant, hg]
    rw [hfree]
    generalize (p.setGrant k none).letGo k g.level ended (fun _ => false) = w at hmap
    have hw : w.tenant g.tenant = some t := (Part.tenant_congr hmap.tenants _).trans ht
  · exact Part.tenant_unlist hw h
  · obtain ⟨hnone, hgeneration⟩ := Part.unlist_of_last hw hs h
    refine ⟨hnone, hgeneration.trans ?_⟩
    rw [Part.generation, hmap.tenants]
    rfl

/-- What the freeing reads of the origin is the generation, and of the outcome the grant and the tenant. -/
theorem Part.frees_congr {p q u v : Part} {k : Nat} {g : Grant} {t : TenantRecord}
    {failure : Option (Nat × FailureReason)} (h : p.frees u k g t failure)
    (hgeneration : q.generation g.tenant = p.generation g.tenant) (hgrants : v.grants = u.grants)
    (htenants : v.tenants = u.tenants) : q.frees v k g t failure := by
  obtain ⟨hnone, hstands, hretires⟩ := h
  refine ⟨(Part.grant_congr hgrants k).trans hnone, fun h => (Part.tenant_congr htenants _).trans (hstands h),
    fun hs h => ?_⟩
  obtain ⟨hgone, hnext⟩ := hretires hs h
  refine ⟨(Part.tenant_congr htenants _).trans hgone, ?_⟩
  rw [hgeneration, ← hnext, Part.generation, htenants]
  rfl

/-! ### The endings of an only job (R122, R123) -/

section
variable {p v : Part} {j : Job} {g : Grant} {t : TenantRecord}

theorem Part.jobs_of_only (hjobs : p.engine.jobs = [j]) (h : Part.JobEnded p j v) : v.engine.jobs = [] := by
  obtain ⟨f, -, hf⟩ := h.jobs
  simp [hf, hjobs]

theorem Part.jobsEnded_of_only (hjobs : p.engine.jobs = [j]) :
    p.jobsEnded = if j.completesOnReset then p.finishByReset j else p.abandonOne j .reset := by
  have hjob : p.job j.id = some j := by simp [Part.job, hjobs]
  simp only [Part.jobsEnded, Part.jobIds, hjobs, List.map_cons, List.map_nil, List.foldl_cons, List.foldl_nil,
    Part.resetJob, hjob, Part.abandon_of_only hjobs (Part.jobs_of_only hjobs (p.jobEnded_abandonOne j .reset))]

/-- The tenant of a failing ACTIVATE is told why. -/
theorem Part.tenant_failing (ht : p.tenant g.tenant = some t) (why : FailureReason) :
    (p.failing j g.tenant why).tenant g.tenant = some { t with lastFailure := some (j.grant, why) } ∧
      (p.failing j g.tenant why).generation g.tenant = p.generation g.tenant := by
  have htenants := (p.aside_withoutJob j g.tenant why).tenants
  have ht' := (Part.tenant_congr htenants g.tenant).trans ht
  have hfail : p.failing j g.tenant why =
      (p.withoutJob j g.tenant why).setTenant g.tenant { t with lastFailure := some (j.grant, why) } := by
    simp only [Part.failing, Part.recordFailure, ht']
  rw [hfail, Part.generation_setTenant, Part.generation, htenants]
  exact ⟨Part.tenant_setTenant_self _ ht', rfl⟩

/-- An abandoned ACTIVATE is lost for the reason. -/
theorem Part.frees_abandonOne (hg : p.grant j.grant = some g) (ht : p.tenant g.tenant = some t)
    (hk : j.kind = .activate) (why : FailureReason) :
    p.frees (p.abandonOne j why) j.grant g t (some (j.grant, why)) := by
  obtain ⟨htenant, hgeneration⟩ := Part.tenant_failing (j := j) ht why
  obtain ⟨hgrants, -⟩ := p.failing_fields j g.tenant why
  have haside := Part.aside_reportEnd ((p.failing j g.tenant why).freeGrant j.grant none) j false
  rw [Part.abandonOne_activate hg hk]
  refine Part.frees_congr ?_ hgeneration.symm haside.grants haside.tenants
  exact Part.tenant_freeGrant ((Part.grant_congr hgrants _).trans hg) htenant none

theorem Part.letGoSince_abandonOne_activate (hlen : p.slices.length = 1024) (hjobs : p.engine.jobs = [j])
    (hg : p.grant j.grant = some g) (hk : j.kind = .activate) (why : FailureReason) :
    p.letGoSince (p.abandonOne j why) j.grant g.level fun _ => false := by
  have hgone := Part.jobs_of_only hjobs (p.jobEnded_abandonOne j why)
  obtain ⟨hgrants, hslices, hlevel, hsplit, hleft⟩ := p.failing_fields j g.tenant why
  have hg' := (Part.grant_congr hgrants _).trans hg
  rw [Part.abandonOne_activate hg hk] at hgone ⊢
  have haside := Part.aside_reportEnd ((p.failing j g.tenant why).freeGrant j.grant none) j false
  obtain ⟨hfgrants, -, hfslices, hflevel⟩ := Part.freeGrant_fields hg' none
  refine Part.letGoSince_of_ended (w := (p.failing j g.tenant why).setGrant j.grant none) (ended := none) hlen
    hslices hlevel hsplit rfl ?_ ?_ hgone (haside.grants.trans hfgrants) (haside.slices.trans hfslices)
    (haside.level.trans hflevel)
  · simp [hleft, hjobs]
  · intro r hr
    cases (Part.grant_setGrant_self none hg').symm.trans hr

theorem Part.abandonOne_stays (hg : p.grant j.grant = some g) (hk : j.kind ≠ .activate) (why : FailureReason) :
    (p.abandonOne j why).tenants = p.tenants := by
  rw [Part.abandonOne_change hg hk, (Part.aside_reportEnd _ _ _).tenants, (Part.mapOnly_letGo_of _ _ _ _ _).tenants,
    Part.setGrant_tenants, (p.aside_withoutJob j g.tenant why).tenants]

theorem Part.letGoSince_abandonOne_change (hlen : p.slices.length = 1024) (hjobs : p.engine.jobs = [j])
    (hg : p.grant j.grant = some g) (hk : j.kind ≠ .activate) (why : FailureReason) :
    p.letGoSince (p.abandonOne j why) j.grant g.level g.covers := by
  have hgone := Part.jobs_of_only hjobs (p.jobEnded_abandonOne j why)
  have haside := p.aside_withoutJob j g.tenant why
  have hleft := p.jobs_withoutJob j g.tenant why
  rw [Part.abandonOne_change hg hk] at hgone ⊢
  have hg' := (Part.grant_congr haside.grants _).trans hg
  generalize p.withoutJob j g.tenant why = w at *
  have hreport := Part.aside_reportEnd ((w.setGrant j.grant (some { g with state := .active })).letGo j.grant g.level
    none g.covers) j false
  refine Part.letGoSince_of_ended (w := w.setGrant j.grant (some { g with state := .active })) (ended := none) hlen
    haside.slices haside.level haside.split rfl ?_ ?_ hgone
    (hreport.grants.trans (Part.mapOnly_letGo_of _ _ _ _ _).grants) hreport.slices hreport.level
  · simp [hleft, hjobs]
  · intro r hr
    cases (Part.grant_setGrant_self _ hg').symm.trans hr
    rfl

/-- A completed RELEASE frees its grant. -/
theorem Part.frees_finishByReset (hg : p.grant j.grant = some g) (ht : p.tenant g.tenant = some t)
    (hk : j.kind = .release) : p.frees (p.finishByReset j) j.grant g t t.lastFailure := by
  have haside := Part.aside_signedOff (p.freeGrant j.grant (some j.id)) j g.tenant
  rw [Part.finishByReset_release hg hk]
  exact Part.frees_congr (Part.tenant_freeGrant hg ht _) rfl haside.grants haside.tenants

theorem Part.waiterOf_of_only (hjobs : p.engine.jobs = [j]) (ha : j.after = none) (ended : Option Nat) :
    p.waiterOf ended = none := by
  cases ended with
  | none => rfl
  | some id => simp [Part.waiterOf, Part.waiterOn, hjobs, ha]

theorem Part.letGoSince_finishByReset_release (hlen : p.slices.length = 1024) (hjobs : p.engine.jobs = [j])
    (ha : j.after = none) (hg : p.grant j.grant = some g) (hk : j.kind = .release) :
    p.letGoSince (p.finishByReset j) j.grant g.level fun _ => false := by
  have hgone := Part.jobs_of_only hjobs (p.jobEnded_finishByReset j)
  rw [Part.finishByReset_release hg hk] at hgone ⊢
  have haside := Part.aside_signedOff (p.freeGrant j.grant (some j.id)) j g.tenant
  obtain ⟨hgrants, -, hslices, hlevel⟩ := Part.freeGrant_fields hg (some j.id)
  refine Part.letGoSince_of_ended (w := p.setGrant j.grant none) (ended := some j.id) hlen rfl rfl rfl
    (Part.waiterOf_of_only hjobs ha _) ?_ ?_ hgone (haside.grants.trans hgrants) (haside.slices.trans hslices)
    (haside.level.trans hlevel)
  · simp [hjobs]
  · intro r hr
    cases (Part.grant_setGrant_self none hg).symm.trans hr

theorem Part.finishByReset_activate_stays (hg : p.grant j.grant = some g) (hk : j.kind = .activate) :
    (p.finishByReset j).tenants = p.tenants ∧ (p.finishByReset j).slices = p.slices := by
  rw [Part.finishByReset_activate hg hk]
  exact ⟨(Part.aside_signedOff _ _ _).tenants, (Part.aside_signedOff _ _ _).slices⟩

theorem Part.finishByReset_change_stays (hg : p.grant j.grant = some g) (hk : j.kind = .move ∨ j.kind = .resize) :
    (p.finishByReset j).tenants = p.tenants := by
  rw [Part.finishByReset_change hg hk, (Part.aside_signedOff _ _ _).tenants, (Part.mapOnly_letGo_of _ _ _ _ _).tenants,
    Part.setGrant_tenants]

theorem Part.letGoSince_finishByReset_change (hlen : p.slices.length = 1024) (hjobs : p.engine.jobs = [j])
    (ha : j.after = none) (hg : p.grant j.grant = some g) (hk : j.kind = .move ∨ j.kind = .resize) :
    p.letGoSince (p.finishByReset j) j.grant g.level (g.atEnd j).covers := by
  have hgone := Part.jobs_of_only hjobs (p.jobEnded_finishByReset j)
  rw [Part.finishByReset_change hg hk] at hgone ⊢
  have haside := Part.aside_signedOff ((p.setGrant j.grant (some (p.reselected (g.atEnd j)))).letGo j.grant g.level
    (some j.id) (g.atEnd j).covers) j g.tenant
  refine Part.letGoSince_of_ended (w := p.setGrant j.grant (some (p.reselected (g.atEnd j)))) (ended := some j.id) hlen
    rfl rfl rfl (Part.waiterOf_of_only hjobs ha _) ?_ ?_ hgone
    (haside.grants.trans (Part.mapOnly_letGo_of _ _ _ _ _).grants) haside.slices haside.level
  · simp [hjobs]
  · intro r hr
    obtain ⟨profile, capacity, hy⟩ := p.reselected_eq (g.atEnd j)
    cases (Part.grant_setGrant_self _ hg).symm.trans hr
    rw [hy]
    exact (g.keeps_atEnd j).2

end

end Sys2Proof.Machine
end

section
/-! SUPPORT. ENGINE_RESET, IV: an ACTIVATE that waits on an abandoned job (R106), and the ABORTED replies (R64,
R175). -/

namespace Sys2Proof.Machine

/-! ### A waiting ACTIVATE is abandoned with the job it waits on (R106, R123) -/

theorem Part.jobsEnded_of_waiting {p : Part} {j w : Job} (hjobs : p.engine.jobs = [j, w])
    (hc : j.completesOnReset = false) (hj : j.after = none) (hw : w.after = some j.id) (hne : w.id ≠ j.id) :
    p.jobsEnded = (p.abandonOne j .reset).abandonOne w .preemptLost := by
  have hjob : p.job j.id = some j := by simp [Part.job, hjobs]
  have hleft : (p.abandonOne j .reset).engine.jobs = [w] := by simp [Part.jobs_abandonOne, hjobs, hne]
  have hwait : (p.abandonOne j .reset).job w.id = some w := by simp [Part.job, hleft]
  have hdone : ((p.abandonOne j .reset).abandonOne w .preemptLost).job w.id = none := by
    rw [Part.job, Part.jobs_abandonOne, hleft]
    simp
  have hfirst : p.resetJob j.id = (p.abandonOne j .reset).abandonOne w .preemptLost := by
    simp [Part.resetJob, hjob, hc, Part.abandon, hjobs, hj, hw, hwait]
  have hsecond : ((p.abandonOne j .reset).abandonOne w .preemptLost).resetJob w.id =
      (p.abandonOne j .reset).abandonOne w .preemptLost := by simp only [Part.resetJob, hdone]
  simp only [Part.jobsEnded, Part.jobIds, hjobs, List.map_cons, List.map_nil, List.foldl_cons, List.foldl_nil, hfirst,
    hsecond]

/-- The RESIZE leaves its grant in its place, and the waiting ACTIVATE is lost with PREEMPT_LOST. -/
theorem Part.waiting_lost {p : Part} {j w : Job} {g h : Grant} {y : TenantRecord} (hjobs : p.engine.jobs = [j, w])
    (hk : j.kind = .resize) (hc : j.completesOnReset = false) (hj : j.after = none) (hwk : w.kind = .activate)
    (hw : w.after = some j.id) (hne : w.id ≠ j.id) (hgrant : w.grant ≠ j.grant) (hg : p.grant j.grant = some g)
    (hh : p.grant w.grant = some h) (hy : p.tenant h.tenant = some y) :
    p.jobsEnded.grant j.grant = some { g with state := .active } ∧
      p.frees p.jobsEnded w.grant h y (some (w.grant, .preemptLost)) := by
  have hchange : j.kind ≠ .activate := by rw [hk]; nofun
  have hgrants := Part.grants_abandonOne_change hg hchange .reset
  have htenants := Part.abandonOne_stays hg hchange .reset
  have hset := Part.grant_setGrant_self (some { g with state := .active }) hg
  have hh' := (Part.grant_set_ne hgrants hgrant).trans hh
  rw [Part.jobsEnded_of_waiting hjobs hc hj hw hne]
  refine ⟨?_, Part.frees_congr (Part.frees_abandonOne hh' ((Part.tenant_congr htenants _).trans hy) hwk _) ?_ rfl rfl⟩
  · rw [Part.grant_set_ne (Part.grants_abandonOne_activate hh' hwk _) hgrant.symm]
    exact (Part.grant_congr (q := p.abandonOne j .reset) (p := p.setGrant j.grant _) hgrants _).trans hset
  · rw [Part.generation, Part.generation, htenants]

/-! ### The ABORTED replies (R64) -/

/-- The ABORTED reply of an item of the placement queue. -/
def QueueItem.abortedFrame (i : QueueItem) : List Byte := replyFrame i.tag i.fields.kind (refuse .aborted)

/-- Items whose tags are owed, each once, are answered in their order; a detached one is not. -/
theorem Link.abortAll_of_owed (items : List QueueItem) (l : Link) :
    let owing := items.filter fun i => !i.detached
    (∀ i ∈ owing, i.tag ∈ l.outstanding) → (owing.map (·.tag)).Nodup → l.outstanding.Nodup →
      ∃ o, l.abortAll items = { l with outbound := l.outbound ++ owing.map QueueItem.abortedFrame, outstanding := o } ∧
        o.Nodup ∧ ∀ x, x ∈ o ↔ x ∈ l.outstanding ∧ ∀ i ∈ owing, i.tag ≠ x := by
  induction items generalizing l with
  | nil => exact fun _ _ hnodup => ⟨l.outstanding, by simp [Link.abortAll], hnodup, by simp⟩
  | cons i items ih =>
    intro owing howed hdistinct hnodup
    by_cases hd : i.detached = true
    · have howing : owing = items.filter fun i => !i.detached := by simp [owing, hd]
      have hskip : l.abortAll (i :: items) = l.abortAll items := by
        rw [Link.abortAll, List.foldl_cons, Link.produce_of_discarded l _ _ _ _ (.inl hd)]
        rfl
      rw [howing] at howed hdistinct ⊢
      rw [hskip]
      exact ih l howed hdistinct hnodup
    · have howing : owing = i :: items.filter fun i => !i.detached := by simp [owing, hd]
      rw [howing] at howed hdistinct ⊢
      rw [List.map_cons, List.nodup_cons] at hdistinct
      obtain ⟨hfresh, hdistinct⟩ := hdistinct
      have hstep : l.abortAll (i :: items) = Link.abortAll items
          { l with outbound := l.outbound ++ [i.abortedFrame], outstanding := l.outstanding.erase i.tag } := by
        have hfalse : i.detached = false := by simpa using hd
        rw [Link.abortAll, List.foldl_cons, hfalse, Link.produce_of_owed l _ _ (howed i (by simp))]
        rfl
      have hothers : ∀ k ∈ items.filter (fun i => !i.detached), k.tag ≠ i.tag := fun k hk he =>
        hfresh (he ▸ List.mem_map_of_mem hk)
      obtain ⟨o, ho, honodup, hmem⟩ := ih
        { l with outbound := l.outbound ++ [i.abortedFrame], outstanding := l.outstanding.erase i.tag }
        (fun k hk => (List.mem_erase_of_ne (hothers k hk)).mpr (howed k (List.mem_cons_of_mem _ hk)))
        hdistinct (hnodup.erase i.tag)
      refine ⟨o, ?_, honodup, fun x => ?_⟩
      · rw [hstep, ho]
        simp
      · rw [hmem, hnodup.mem_erase_iff, List.forall_mem_cons]
        tauto

/-! ### ENGINE_RESET as a command -/

theorem exec_engineReset (s : State) (tag : Byte) : exec (.engineReset tag (some ())) s = .next { s with
    link := ((s.link.takeIn (.engineReset tag (some ())) tag).1.abortAll s.part.placementQueue).produce
      (s.link.takeIn (.engineReset tag (some ())) tag).2 tag 0x74
      (doneWith [byte s.part.placementQueue.length, byte s.part.engine.jobs.length])
    part := s.part.engineReset } := rfl

/-- The link once an awaited ENGINE_RESET is served: ABORTED for each item that is owed, then DONE. -/
theorem Link.engineReset_of_awaits {s : State} {tag : Byte} {cmd : Instr} (r : Reply) (h : s.awaits cmd tag) :
    let owing := s.part.placementQueue.filter fun i => !i.detached
    (∀ i ∈ owing, i.tag ∈ s.link.outstanding ∧ i.tag ≠ tag) → (owing.map (·.tag)).Nodup → s.link.outstanding.Nodup →
      let l := ((s.link.takeIn cmd tag).1.abortAll s.part.placementQueue).produce (s.link.takeIn cmd tag).2 tag 0x74 r
      l = { s.link with
        delivered := s.link.delivered.erase ⟨cmd, false⟩
        outstanding := l.outstanding
        outbound := s.link.outbound ++ (owing.map QueueItem.abortedFrame) ++ [replyFrame tag 0x74 r] } ∧
      ∀ x, x ∈ l.outstanding ↔ x ∈ s.link.outstanding ∧ x ≠ tag ∧ ∀ i ∈ owing, i.tag ≠ x := by
  intro owing howed hdistinct hnodup
  rw [Link.takeIn_of_awaits h]
  obtain ⟨o, ho, honodup, hmem⟩ := Link.abortAll_of_owed s.part.placementQueue (s.link.withdrawn cmd)
    (fun i hi => (howed i hi).1) hdistinct hnodup
  have htag : tag ∈ o := (hmem tag).mpr ⟨h.1, fun i hi => (howed i hi).2⟩
  dsimp only
  rw [ho, Link.produce_of_owed _ _ _ htag]
  refine ⟨rfl, fun x => ?_⟩
  rw [honodup.mem_erase_iff, hmem]
  exact and_left_comm

end Sys2Proof.Machine
end

section
/-! O55: ENGINE_RESET ends every job by its kind and phase, keeps the configuration and answers. -/

namespace Sys2Proof.Machine

/-! ### From the jobs' endings to the whole reset -/

section
variable {p : Part} {j : Job} {g : Grant} {t : TenantRecord}

/-- The acts beside the jobs' endings leave the grants, the tenants and the map. -/
theorem Part.engineReset_shows (p : Part) : p.engineReset.grants = p.resetAlloc.jobsEnded.grants ∧
    p.engineReset.tenants = p.resetAlloc.jobsEnded.tenants ∧ p.engineReset.slices = p.resetAlloc.jobsEnded.slices ∧
      p.engineReset.level = p.resetAlloc.jobsEnded.level ∧
        p.engineReset.engine.jobs = p.resetAlloc.jobsEnded.engine.jobs := by
  obtain ⟨last, hu, -⟩ := p.engineReset_frame
  rw [hu]
  exact ⟨rfl, rfl, rfl, rfl, rfl⟩

theorem Part.letGoSince_engineReset {k : Nat} {level : Option Int} {keep : Nat → Bool}
    (h : p.resetAlloc.letGoSince p.resetAlloc.jobsEnded k level keep) : p.letGoSince p.engineReset k level keep := by
  obtain ⟨hgrants, -, hslices, hlevel, hjobs⟩ := p.engineReset_shows
  have hcomposite : ∀ s, ({ p with
      grants := p.engineReset.grants, engine := p.engineReset.engine, slices := s } : Part).composite =
      ({ p.resetAlloc with
        grants := p.resetAlloc.jobsEnded.grants, engine := p.resetAlloc.jobsEnded.engine
        slices := s } : Part).composite := fun s =>
    Part.composite_congr rfl rfl hgrants hjobs
  unfold Part.letGoSince at h ⊢
  simp only [hcomposite, hslices, hlevel, Part.slice_congr hslices]
  exact h

theorem Part.frees_engineReset {k : Nat} {failure : Option (Nat × FailureReason)}
    (h : p.resetAlloc.frees p.resetAlloc.jobsEnded k g t failure) : p.frees p.engineReset k g t failure := by
  obtain ⟨hgrants, htenants, -⟩ := p.engineReset_shows
  exact Part.frees_congr h rfl hgrants htenants

theorem Job.completesOnReset_iff (hk : j.kind = .move ∨ j.kind = .resize) :
    j.completesOnReset = true ↔ ∃ x, j.run = some x ∧ x.phase = .hold := by
  have hhold : j.completesOnReset = j.run.any fun x => x.phase == .hold := by
    rcases hk with hk | hk <;> simp only [Job.completesOnReset, hk]
  rw [hhold]
  cases hr : j.run <;> simp

/-! ### An only job, by its kind and phase (R122, R123) -/

theorem Part.jobsEnded_of_abandoned (hjobs : p.engine.jobs = [j]) (hc : j.completesOnReset = false) :
    p.resetAlloc.jobsEnded = p.resetAlloc.abandonOne j .reset := by
  rw [Part.jobsEnded_of_only (p := p.resetAlloc) hjobs, hc]
  rfl

theorem Part.jobsEnded_of_completed (hjobs : p.engine.jobs = [j]) (hc : j.completesOnReset = true) :
    p.resetAlloc.jobsEnded = p.resetAlloc.finishByReset j := by
  rw [Part.jobsEnded_of_only (p := p.resetAlloc) hjobs, if_pos hc]

/-- Only the record of the job's grant is written. -/
theorem Part.grants_resetJob (hg : p.grant j.grant = some g) :
    (∃ x, (p.abandonOne j .reset).grants = p.grants.set j.grant x) ∧
      ∃ x, (p.finishByReset j).grants = p.grants.set j.grant x := by
  cases hk : j.kind with
  | activate => exact ⟨⟨_, Part.grants_abandonOne_activate hg hk _⟩, _, Part.grants_finishByReset_activate hg hk⟩
  | release =>
    exact ⟨⟨_, Part.grants_abandonOne_change hg (by simp [hk]) _⟩, _, Part.grants_finishByReset_release hg hk⟩
  | move =>
    exact ⟨⟨_, Part.grants_abandonOne_change hg (by simp [hk]) _⟩, _, Part.grants_finishByReset_change hg (.inl hk)⟩
  | resize =>
    exact ⟨⟨_, Part.grants_abandonOne_change hg (by simp [hk]) _⟩, _, Part.grants_finishByReset_change hg (.inr hk)⟩

theorem Part.engineReset_others (hjobs : p.engine.jobs = [j]) (hg : p.grant j.grant = some g) {h : Nat}
    (hne : h ≠ j.grant) : p.engineReset.grant h = p.grant h := by
  obtain ⟨hgrants, -⟩ := p.engineReset_shows
  obtain ⟨⟨x, hx⟩, y, hy⟩ := Part.grants_resetJob (p := p.resetAlloc) hg
  rw [Part.grant_congr hgrants]
  cases hc : j.completesOnReset with
  | false =>
    rw [Part.jobsEnded_of_abandoned hjobs hc]
    exact Part.grant_set_ne hx hne
  | true =>
    rw [Part.jobsEnded_of_completed hjobs hc]
    exact Part.grant_set_ne hy hne

/-- What the reset writes into the record of the job's grant, and that the tenants stand. -/
theorem Part.engineReset_stays {x : Option Grant} (hg : p.grant j.grant = some g)
    (hgrants : p.resetAlloc.jobsEnded.grants = p.grants.set j.grant x)
    (htenants : p.resetAlloc.jobsEnded.tenants = p.tenants) :
    p.engineReset.grant j.grant = x ∧ p.engineReset.tenants = p.tenants := by
  obtain ⟨hug, hut, -⟩ := p.engineReset_shows
  exact ⟨(Part.grant_congr (p := p.setGrant j.grant x) (hug.trans hgrants) _).trans (Part.grant_setGrant_self x hg),
    hut.trans htenants⟩

/-- An ACTIVATE in QUEUED or SETUP is lost with the reason RESET. -/
theorem Part.engineReset_activate_silent (hlen : p.slices.length = 1024) (hjobs : p.engine.jobs = [j])
    (hg : p.grant j.grant = some g) (ht : p.tenant g.tenant = some t) (hk : j.kind = .activate)
    (hs : ∀ x, j.run = some x → x.phase = .setup) :
    p.frees p.engineReset j.grant g t (some (j.grant, .reset)) ∧
      p.letGoSince p.engineReset j.grant g.level fun _ => false := by
  have hc : j.completesOnReset = false := by simp only [Job.completesOnReset, hk, Job.silent_iff.mpr hs, Bool.not_true]
  refine ⟨Part.frees_engineReset ?_, Part.letGoSince_engineReset ?_⟩ <;> rw [Part.jobsEnded_of_abandoned hjobs hc]
  · exact Part.frees_abandonOne (p := p.resetAlloc) hg ht hk _
  · exact Part.letGoSince_abandonOne_activate (p := p.resetAlloc) hlen hjobs hg hk _

/-- Later it is ACTIVE. -/
theorem Part.engineReset_activate_later (hjobs : p.engine.jobs = [j]) (hg : p.grant j.grant = some g)
    (hk : j.kind = .activate) (hs : ¬∀ x, j.run = some x → x.phase = .setup) :
    (p.engineReset.grant j.grant = some { g with state := .active } ∧ p.engineReset.tenants = p.tenants) ∧
      p.engineReset.slices = p.slices := by
  have hsilent : j.silent = false := Bool.not_eq_true _ ▸ mt Job.silent_iff.mp hs
  have hc : j.completesOnReset = true := by simp only [Job.completesOnReset, hk, hsilent, Bool.not_false]
  have hended := Part.jobsEnded_of_completed hjobs hc
  obtain ⟨htenants, hslices⟩ := Part.finishByReset_activate_stays (p := p.resetAlloc) hg hk
  obtain ⟨-, -, hus, -⟩ := p.engineReset_shows
  rw [← hended] at htenants hslices
  exact ⟨Part.engineReset_stays hg (hended ▸ Part.grants_finishByReset_activate hg hk) htenants, hus.trans hslices⟩

/-- A MOVE or RESIZE before HOLD leaves its grant where it is. -/
theorem Part.engineReset_change_early (hlen : p.slices.length = 1024) (hjobs : p.engine.jobs = [j])
    (hg : p.grant j.grant = some g) (hk : j.kind = .move ∨ j.kind = .resize)
    (hh : ¬∃ x, j.run = some x ∧ x.phase = .hold) :
    (p.engineReset.grant j.grant = some { g with state := .active } ∧ p.engineReset.tenants = p.tenants) ∧
      p.letGoSince p.engineReset j.grant g.level g.covers := by
  have hchange : j.kind ≠ .activate := by rcases hk with hk | hk <;> simp [hk]
  have hc : j.completesOnReset = false := Bool.not_eq_true _ ▸ mt (Job.completesOnReset_iff hk).mp hh
  have hended := Part.jobsEnded_of_abandoned hjobs hc
  refine ⟨Part.engineReset_stays hg ?_ ?_, Part.letGoSince_engineReset ?_⟩ <;> rw [hended]
  · exact Part.grants_abandonOne_change (p := p.resetAlloc) hg hchange _
  · exact Part.abandonOne_stays (p := p.resetAlloc) hg hchange _
  · exact Part.letGoSince_abandonOne_change (p := p.resetAlloc) hlen hjobs hg hchange _

/-- One in HOLD completes, its profile and capacity those of its destination. -/
theorem Part.engineReset_change_hold {d : Place} (hlen : p.slices.length = 1024) (hjobs : p.engine.jobs = [j])
    (ha : j.after = none) (hg : p.grant j.grant = some g) (ht : p.tenant g.tenant = some t)
    (hk : j.kind = .move ∨ j.kind = .resize) (hh : ∃ x, j.run = some x ∧ x.phase = .hold) (hd : j.dest = some d) :
    (p.engineReset.grant j.grant = some ((g.settledAt d).recomputed (p.placeProfile g.cls t d)) ∧
      p.engineReset.tenants = p.tenants) ∧
      p.letGoSince p.engineReset j.grant g.level (windowCovers g.cls d.first d.width) := by
  have hended := Part.jobsEnded_of_completed hjobs ((Job.completesOnReset_iff hk).mpr hh)
  have hatEnd : g.atEnd j = g.settledAt d := by simp only [Grant.atEnd, hd]
  have hselected : p.resetAlloc.reselected (g.settledAt d) = (g.settledAt d).recomputed (p.placeProfile g.cls t d) := by
    have ht' : p.resetAlloc.tenant (g.settledAt d).tenant = some t := ht
    simp only [Part.reselected, ht']
    rfl
  refine ⟨Part.engineReset_stays hg ?_ ?_, Part.letGoSince_engineReset ?_⟩ <;> rw [hended]
  · rw [← hselected, ← hatEnd]
    exact Part.grants_finishByReset_change hg hk
  · exact Part.finishByReset_change_stays hg hk
  · have hgone := Part.letGoSince_finishByReset_change (p := p.resetAlloc) hlen hjobs ha hg hk
    rw [hatEnd] at hgone
    exact hgone

/-- A RELEASE frees its grant. -/
theorem Part.engineReset_release (hlen : p.slices.length = 1024) (hjobs : p.engine.jobs = [j]) (ha : j.after = none)
    (hg : p.grant j.grant = some g) (ht : p.tenant g.tenant = some t) (hk : j.kind = .release) :
    p.frees p.engineReset j.grant g t t.lastFailure ∧ p.letGoSince p.engineReset j.grant g.level fun _ => false := by
  have hc : j.completesOnReset = true := by simp only [Job.completesOnReset, hk]
  refine ⟨Part.frees_engineReset ?_, Part.letGoSince_engineReset ?_⟩ <;> rw [Part.jobsEnded_of_completed hjobs hc]
  · exact Part.frees_finishByReset hg ht hk
  · exact Part.letGoSince_finishByReset_release hlen hjobs ha hg hk

/-- A RESIZE before HOLD is abandoned with the ACTIVATE that waits on it. -/
theorem Part.engineReset_waiting {w : Job} {h : Grant} {y : TenantRecord} (hjobs : p.engine.jobs = [j, w])
    (ha : j.after = none) (hg : p.grant j.grant = some g) (hk : j.kind = .resize)
    (hh : ¬∃ x, j.run = some x ∧ x.phase = .hold) (hwk : w.kind = .activate) (hw : w.after = some j.id)
    (hne : w.id ≠ j.id) (hgrant : w.grant ≠ j.grant) (hwg : p.grant w.grant = some h)
    (hy : p.tenant h.tenant = some y) :
    p.engineReset.grant j.grant = some { g with state := .active } ∧
      p.frees p.engineReset w.grant h y (some (w.grant, .preemptLost)) := by
  have hc : j.completesOnReset = false := Bool.not_eq_true _ ▸ mt (Job.completesOnReset_iff (.inr hk)).mp hh
  obtain ⟨hstays, hlost⟩ := Part.waiting_lost (p := p.resetAlloc) hjobs hk hc ha hwk hw hne hgrant hg hwg hy
  exact ⟨(Part.grant_congr p.engineReset_shows.1 _).trans hstays, Part.frees_engineReset hlost⟩

end

/-- Settles O55: the jobs end one by one beside what stands (`Part.Ending`), an only job by its kind and phase, and the
link answers the items and then the request. -/
theorem engineResetEndsAllWork : Obligations.EngineResetEndsAllWork := by
  unfold Obligations.EngineResetEndsAllWork
  intro s tag frees
  obtain ⟨hjobs, hwork, hhold, hreply, hbatch, hplant, hraised, hturn, hrestart, hcounts, hdwell⟩ :=
    s.part.engineReset_ends
  obtain ⟨hslots, htop, hmasks, hplantMask, hquiet, hnext, hsplit, hactive, hwaiting, hready, hlevel, hvoice, hvideo,
    hdata, hqt, hrt, hnq, hnr, hoverflow⟩ := s.part.engineReset_keeps
  obtain ⟨htenants, hcontents, hlast, hlost, hsettled, hgrants⟩ := s.part.engineReset_ending
  refine ⟨_, _, exec_engineReset s tag,
    ⟨hjobs, hwork, hhold, hreply, hbatch, hslots, htop, hplant, hraised, hmasks, hplantMask, hturn, hquiet, hnext,
      hsplit, hrestart, hactive, hwaiting, hcounts, hready⟩,
    ⟨hlevel, hvoice, hvideo, hdata, hqt, hrt, hnq, hnr, hoverflow, hdwell⟩, htenants, hcontents, hlast, hlost,
    fun hids hown => hsettled (Part.accountsForGrants_resetAlloc hids hown), hgrants, ?_, ?_⟩
  · rintro ⟨-, -, hlen, -⟩ j g t - ha hg - ht silent holds stays
    refine ⟨fun hone => ⟨fun h hne => Part.engineReset_others hone hg hne,
      fun hk hs => Part.engineReset_activate_silent hlen hone hg ht hk hs,
      fun hk hs => Part.engineReset_activate_later hone hg hk hs,
      fun hk hh => Part.engineReset_change_early hlen hone hg hk hh,
      fun d hk hh hd => Part.engineReset_change_hold hlen hone ha hg ht hk hh hd,
      fun hk => Part.engineReset_release hlen hone ha hg ht hk⟩, ?_⟩
    exact fun w h y htwo hk hh hwk hw hne hgrant _ hwg _ hy =>
      Part.engineReset_waiting htwo ha hg hk hh hwk hw hne hgrant hwg hy
  · intro items owing hawaits howed hdistinct hnodup
    exact Link.engineReset_of_awaits _ hawaits howed hdistinct hnodup

end Sys2Proof.Machine
end
